-- ==== Sys2Proof/Word.lean ====
section
/-! DEFINITION. The word types of the model and the plainest arithmetic over them.

The manual treats register contents, addresses while they are computed, fields of instruction words,
draws and encoded numbers as bits (00 R8); everything else is a `Nat`, an inductive or a record. -/

namespace Sys2Proof

/-- One byte of a store, of DRAM or of a message. -/
abbrev Byte := BitVec 8
/-- One lane word of a vector register (05 R117). -/
abbrev Word32 := BitVec 32
/-- A `g` register, a control register, a semaphore value, an instruction word. -/
abbrev Word := BitVec 64
/-- An address in the context's view of device memory (06 R148). -/
abbrev Addr := BitVec 48
/-- Bytes in ascending address order. -/
abbrev Bytes := List Byte

/-- The little-endian number that `bs` spells (00 R8). -/
def leNat : Bytes → Nat
  | [] => 0
  | b :: bs => b.toNat + 256 * leNat bs

/-- The `n` bytes of `v`, least significant first (00 R8). -/
def leBytes : Nat → Nat → Bytes
  | 0, _ => []
  | n + 1, v => BitVec.ofNat 8 v :: leBytes n (v / 256)

/-- Bits `lo` to `lo + n - 1` of a number, as a number. -/
def field (v lo n : Nat) : Nat := v / 2 ^ lo % 2 ^ n

end Sys2Proof
end

