-- ==== Sys2Proof/Syntax.lean ====
section
/-! DEFINITION. The commands of the block: one constructor of `Instr` per row of the opcode table.

An FZ instruction (chapters 06 and 07) is presented as ONE command, its issue on a core, with the
operands its word carries. Every other row is an event of the front end, the stores, the fabric, the
host port, the sideband, the firmware processors or the hardware's own engines; its operands are what the
outside world, a peer, or a policy the manual leaves to firmware brings to it. -/

namespace Sys2Proof

/-- Die-level logical core index (01 R22). -/
abbrev CoreId := Fin 256
/-- A `g` register number. -/
abbrev GReg := Fin 32
/-- A `v` register number. -/
abbrev VReg := Fin 32
/-- A `p` register number. -/
abbrev PReg := Fin 8
/-- A `t` register number. -/
abbrev TReg := Fin 16
/-- An accumulator tile register number. -/
abbrev AReg := Fin 8
/-- An engine index within its core. -/
abbrev EngId := Fin 4
/-- A hardware context. -/
abbrev CtxId := Fin 64
/-- A submission queue. -/
abbrev SqId := Fin 1024
/-- A completion queue. -/
abbrev CqId := Fin 256
/-- An Apbor port. -/
abbrev PortId := Fin 16
/-- A logical cluster. -/
abbrev ClusterId := Fin 16

/-- Element formats with a code (07 R176). -/
inductive Fmt where
  | fp32 | int32 | fp16 | bf16 | e4m3 | e5m2 | e3m2 | e2m3 | e2m1 | mxint8 | raw8
  deriving DecidableEq, Repr

/-- Group-size suffix of an MMA (07 R177). -/
inductive Grp where
  | g4 | g8 | g16
  deriving DecidableEq, Repr

/-- Relation of a VCMP (07 R185). -/
inductive Rel where
  | eq | ne | lt | le | gt | ge
  deriving DecidableEq, Repr

/-- Operand type of a VCMP (07 R185). -/
inductive CmpType where
  | fp32 | signed | unsigned
  deriving DecidableEq, Repr

/-- Part of the core state that SGET and SPUT move (06 R166, 07 R179). -/
inductive Part where
  | scal | vec | eng (e : EngId) | stp | ntm
  deriving DecidableEq, Repr

/-- The four fence kinds (06 R164). -/
inductive FenceKind where
  | core | cluster | die | sys
  deriving DecidableEq, Repr

/-- Who makes a control-space access (21 R550). -/
inductive Initiator where
  | power
  | security
  | scheduler
  | clusterCtl (k : ClusterId)
  | host
  | hostTee (vf : CtxId)
  | fabricManager
  | debug
  deriving DecidableEq, Repr

/-- A semaphore memory word: a cluster semaphore or a die semaphore (09 R242). -/
inductive SemId where
  | cluster (k : ClusterId) (i : Fin 4096)
  | die (i : Fin 16384)
  deriving DecidableEq, Repr

/-- A packet of the fabric: the header of 12 R329 and its payload. -/
structure Pkt where
  dstChip : BitVec 16
  srcChip : BitVec 16
  ptype : Fin 16
  last : Bool
  ce : Bool
  dl : Bool
  dir : BitVec 3
  job : BitVec 16
  gen : BitVec 8
  msgId : BitVec 16
  handle : BitVec 16
  pktIndex : BitVec 24
  pktTotal : BitVec 24
  dstAddr : BitVec 48
  aux : BitVec 16
  crc : BitVec 32
  payload : Bytes
  deriving DecidableEq, Repr

/-- A flit group as a receiver gets it (11 R294, R295): its bytes after error correction, the flits that begin a packet, and the
codewords that carried it, each with its physical lane and the symbols of it that were in error. -/
structure FlitGroup where
  bytes : Bytes
  starts : List Nat
  codewords : List (Nat × Nat)
  deriving DecidableEq, Repr

/-- An identity record (11 R307). -/
structure IdRecord where
  chipId : BitVec 16
  port : Fin 16
  epoch : BitVec 32
  verMin : BitVec 16
  verMax : BitVec 16
  sealCap : Bool
  bootNonce : BitVec 64
  deriving DecidableEq, Repr

/-- The payload of a PLUMB frame (12 R354). -/
structure PlumbInfo where
  tTx : BitVec 64
  tEcho : BitVec 64
  tHold : BitVec 64
  hops : Fin 256
  valid : Bool
  master : BitVec 16
  deriving DecidableEq, Repr

/-- A packet as it arrives, with its port (12 R329). -/
structure Arrival where
  port : Fin 16
  pkt : Pkt
  deriving DecidableEq, Repr

/-- A message of key agreement as it arrives: its port, and the payloads of its LINK packets in order (19 R517). -/
structure KeyMessage where
  port : Fin 16
  frags : List Bytes
  deriving DecidableEq, Repr

/-- An offset in BAR0 of the PF or, with `bar`, of a VF; the initiators other than the host name control space itself (13 R365). -/
structure SpaceAddr where
  bar : Option CtxId
  off : Nat
  deriving DecidableEq, Repr

/-- A read of some bytes (13 R366). -/
structure SpaceRead where
  place : SpaceAddr
  size : Nat
  deriving DecidableEq, Repr

/-- Where an Ethernet frame arrives, and its DSCP (13 R382). -/
structure EthArrival where
  port : Fin 2
  dscp : BitVec 6
  deriving DecidableEq, Repr

/-- The queue pair that a frame names, and its DSCP (13 R382, R383). -/
structure QpArrival where
  qp : Fin 1024
  dscp : BitVec 6
  deriving DecidableEq, Repr

/-- Data of a queue pair, and whether a packet of it came marked with congestion (13 R383). -/
structure MarkedData where
  marked : Bool
  data : Bytes
  deriving DecidableEq, Repr

/-- Which windows a threshold event ends (11 R316). -/
inductive LinkWindow where
  | oneMs | oneSecond
  deriving DecidableEq, Repr

/-- The way an SPDM or PLDM message reaches the security core (19 R502). -/
inductive Transport where
  | doe | mctp
  deriving DecidableEq, Repr

/-- What the key-agreement message at hand turns out to be when its chain, security version, identity and
signature are checked (19 R518). -/
structure PeerProof where
  chainOk : Bool
  svn : Nat
  signatureOk : Bool
  deriving DecidableEq, Repr

/-- What the device does not advertise (13 R364). -/
inductive AbsentCap where
  | ats | pri | pasid | multiLogicalDevice | portBasedRouting | fabricMemory | dynamicCapacity | backInvalidation
  | skidModeIde
  deriving DecidableEq, Repr

/-- A host write to configuration space (13 R369). -/
inductive CfgWrite where
  | hdmDecoder (base size : Nat)
  | numVfs (n : Nat)
  | msixEnable (fn : CtxId) (on : Bool)
  | msixMask (fn : CtxId) (vec : Fin 1024) (masked : Bool)
  /-- An MSI-X table entry's message address and data (13 R368). -/
  | msixEntry (fn : CtxId) (vec : Fin 1024) (addr : BitVec 64) (data : BitVec 32)
  /-- A control of a capability that the device does not advertise (13 R364). -/
  | notAdvertised (cap : AbsentCap)
  deriving DecidableEq, Repr

/-- An IDE_KM message (13 R379): keys set or refreshed for a stream, or the stream stopped. -/
inductive IdeKm where
  | linkKeys | selectiveKeys (stream : Fin 4) | cachememKeys
  | linkStop | selectiveStop (stream : Fin 4) | cachememStop
  deriving DecidableEq, Repr

/-- An IDE_KM message of an SPDM session (13 R379). -/
structure KmMessage where
  session : Fin 4
  km : IdeKm
  deriving DecidableEq, Repr

/-- Messages of PLDM firmware update (13 R391, DSP0267), as far as the manual gives them an effect. -/
inductive PldmUpdate where
  | requestUpdate
  | transfer (component : Nat) (image : Bytes)
  | cancel
  deriving DecidableEq, Repr

/-- A power rail group (20 R527). -/
inductive RailGroup where
  | auxiliary | memory | serdes | compute
  deriving DecidableEq, Repr

/-- Where a temperature sensor lies (20 R534). -/
inductive Sensor where
  | compute (i : Fin 64)
  | memory (stack : Fin 16)
  deriving DecidableEq, Repr

/-- A unit of the background self-test rotation (15 R436). -/
inductive BstUnit where
  | engine (c : CoreId) (e : EngId)
  | vector (c : CoreId)
  | keccak (stack : Fin 16)
  deriving DecidableEq, Repr

/-- What the tests and checks of a boot phase found (18 R490, R492, R495). -/
structure BootFindings where
  /-- Whole milliseconds since the start of the boot. -/
  ms : Nat
  /-- The fuse arrays cannot be read. -/
  fusesUnreadable : Bool
  /-- Components (1 to 7) with no verifiable bank. -/
  unverifiable : List Nat
  /-- Physical cores `(cluster, core)` that failed a test or whose CRC differed twice. -/
  failedCores : List (ClusterId × Fin 17)
  /-- The repair record is full or the flash write failed. -/
  retireFails : Bool
  /-- A stack with a bank that has more failing rows than free spares. -/
  rowsOutOfSpares : Option (Fin 16)
  /-- A stack with a channel that has more than one failed lane group. -/
  channelBad : Option (Fin 16)
  /-- Lane groups `(stack, channel, group)` that the tests find failed. -/
  failedLaneGroups : List (Fin 16 × Fin 32 × Fin 18)
  /-- The tag of the owner slot in flash does not verify (19 R522). -/
  ownerTagBad : Bool
  deriving DecidableEq, Repr

/-- Temperature readings that arrive at a refresh, in 0.1 °C, and the input voltage in mV (20 R539, 13 R389). -/
structure SensorReadings where
  compute : List Int
  memory : List Int
  inputMv : Nat
  inputMa : Nat
  deriving DecidableEq, Repr

/-- Every command of the block. -/
inductive Instr where
  -- C class (07 R180)
  | nop (c : CoreId)
  | j (c : CoreId) (off : BitVec 32)
  | jal (c : CoreId) (gd : GReg) (off : BitVec 32)
  | jr (c : CoreId) (gs : GReg)
  | beq (c : CoreId) (gs gt : GReg) (off : BitVec 32)
  | bne (c : CoreId) (gs gt : GReg) (off : BitVec 32)
  | blt (c : CoreId) (gs gt : GReg) (off : BitVec 32)
  | bge (c : CoreId) (gs gt : GReg) (off : BitVec 32)
  | bltu (c : CoreId) (gs gt : GReg) (off : BitVec 32)
  | bgeu (c : CoreId) (gs gt : GReg) (off : BitVec 32)
  | endProg (c : CoreId)
  | illegalInstr (c : CoreId) (w : BitVec 64)
  | fetchPoison (c : CoreId)
  -- G class (07 R181)
  | add (c : CoreId) (gd gs gt : GReg)
  | sub (c : CoreId) (gd gs gt : GReg)
  | mul (c : CoreId) (gd gs gt : GReg)
  | mulh (c : CoreId) (gd gs gt : GReg)
  | mulhu (c : CoreId) (gd gs gt : GReg)
  | and (c : CoreId) (gd gs gt : GReg)
  | or (c : CoreId) (gd gs gt : GReg)
  | xor (c : CoreId) (gd gs gt : GReg)
  | sll (c : CoreId) (gd gs gt : GReg)
  | srl (c : CoreId) (gd gs gt : GReg)
  | sra (c : CoreId) (gd gs gt : GReg)
  | slt (c : CoreId) (gd gs gt : GReg)
  | sltu (c : CoreId) (gd gs gt : GReg)
  | min (c : CoreId) (gd gs gt : GReg)
  | max (c : CoreId) (gd gs gt : GReg)
  | minu (c : CoreId) (gd gs gt : GReg)
  | maxu (c : CoreId) (gd gs gt : GReg)
  | addi (c : CoreId) (gd gs : GReg) (imm : BitVec 32)
  | andi (c : CoreId) (gd gs : GReg) (imm : BitVec 32)
  | ori (c : CoreId) (gd gs : GReg) (imm : BitVec 32)
  | xori (c : CoreId) (gd gs : GReg) (imm : BitVec 32)
  | slti (c : CoreId) (gd gs : GReg) (imm : BitVec 32)
  | slli (c : CoreId) (gd gs : GReg) (sh : BitVec 6)
  | srli (c : CoreId) (gd gs : GReg) (sh : BitVec 6)
  | srai (c : CoreId) (gd gs : GReg) (sh : BitVec 6)
  | movi (c : CoreId) (gd : GReg) (imm : BitVec 32)
  | movhi (c : CoreId) (gd : GReg) (imm : BitVec 32)
  -- L class (07 R182)
  | ldB (c : CoreId) (gd gs : GReg) (off : BitVec 32)
  | ldBu (c : CoreId) (gd gs : GReg) (off : BitVec 32)
  | ldH (c : CoreId) (gd gs : GReg) (off : BitVec 32)
  | ldHu (c : CoreId) (gd gs : GReg) (off : BitVec 32)
  | ldW (c : CoreId) (gd gs : GReg) (off : BitVec 32)
  | ldWu (c : CoreId) (gd gs : GReg) (off : BitVec 32)
  | ldD (c : CoreId) (gd gs : GReg) (off : BitVec 32)
  | stB (c : CoreId) (gs gt : GReg) (off : BitVec 32)
  | stH (c : CoreId) (gs gt : GReg) (off : BitVec 32)
  | stW (c : CoreId) (gs gt : GReg) (off : BitVec 32)
  | stD (c : CoreId) (gs gt : GReg) (off : BitVec 32)
  | tdld (c : CoreId) (tn : TReg) (gs : GReg) (off : BitVec 32)
  | tdst (c : CoreId) (tn : TReg) (gs : GReg) (off : BitVec 32)
  | tdadd (c : CoreId) (tn : TReg) (gs : GReg)
  | tdaddS (c : CoreId) (tn : TReg) (gs : GReg)
  -- M class (07 R183)
  | mzero (c : CoreId) (e : EngId) (ai : AReg)
  | mzeroW (c : CoreId) (e : EngId) (ai : AReg)
  | mprime (c : CoreId) (e : EngId) (tW : TReg)
  | mswap (c : CoreId) (e : EngId)
  | mma (c : CoreId) (e : EngId) (ai : AReg) (r0 : Fin 128) (tA : TReg) (fmt : Fmt) (grp : Grp) (prc : Bool)
  | mdrain (c : CoreId) (e : EngId) (ai : AReg) (r0 : Fin 128) (tD : TReg) (gk gl : GReg) (fmt : Fmt) (sr sat : Bool)
  | mdrainF32x2 (c : CoreId) (e : EngId) (ai : AReg) (r0 : Fin 128) (tD : TReg) (gk gl : GReg)
  -- V class (07 R184)
  | vadd (c : CoreId) (vd vs vt : VReg) (pk : PReg)
  | vsub (c : CoreId) (vd vs vt : VReg) (pk : PReg)
  | vmul (c : CoreId) (vd vs vt : VReg) (pk : PReg)
  | vfma (c : CoreId) (vd vs vt vu : VReg) (pk : PReg)
  | vdiv (c : CoreId) (vd vs vt : VReg) (pk : PReg)
  | vsqrt (c : CoreId) (vd vs : VReg) (pk : PReg)
  | vmin (c : CoreId) (vd vs vt : VReg) (pk : PReg)
  | vmax (c : CoreId) (vd vs vt : VReg) (pk : PReg)
  | vabs (c : CoreId) (vd vs : VReg) (pk : PReg)
  | vneg (c : CoreId) (vd vs : VReg) (pk : PReg)
  | vaddI (c : CoreId) (vd vs vt : VReg) (pk : PReg)
  | vsubI (c : CoreId) (vd vs vt : VReg) (pk : PReg)
  | vmulI (c : CoreId) (vd vs vt : VReg) (pk : PReg)
  | vmulh (c : CoreId) (vd vs vt : VReg) (pk : PReg)
  | vmulhU (c : CoreId) (vd vs vt : VReg) (pk : PReg)
  | vsll (c : CoreId) (vd vs vt : VReg) (pk : PReg)
  | vsrl (c : CoreId) (vd vs vt : VReg) (pk : PReg)
  | vsra (c : CoreId) (vd vs vt : VReg) (pk : PReg)
  | vand (c : CoreId) (vd vs vt : VReg) (pk : PReg)
  | vor (c : CoreId) (vd vs vt : VReg) (pk : PReg)
  | vxor (c : CoreId) (vd vs vt : VReg) (pk : PReg)
  | vaddISat (c : CoreId) (vd vs vt : VReg) (pk : PReg)
  | vsubISat (c : CoreId) (vd vs vt : VReg) (pk : PReg)
  | vperm (c : CoreId) (vd vs vt : VReg) (pk : PReg)
  | vsel (c : CoreId) (vd vs vt : VReg) (pq pk : PReg)
  | vbcast (c : CoreId) (vd : VReg) (gs : GReg) (pk : PReg)
  | vext (c : CoreId) (gd : GReg) (vs : VReg) (lane : Fin 256)
  | vcmp (c : CoreId) (pd : PReg) (vs vt : VReg) (rel : Rel) (ty : CmpType) (pk : PReg)
  | pand (c : CoreId) (pd ps pt : PReg)
  | por (c : CoreId) (pd ps pt : PReg)
  | pxor (c : CoreId) (pd ps pt : PReg)
  | pnot (c : CoreId) (pd ps : PReg)
  | vrsum (c : CoreId) (vd vs : VReg) (pk : PReg)
  | vrmax (c : CoreId) (vd vs : VReg) (pk : PReg)
  | vrmin (c : CoreId) (vd vs : VReg) (pk : PReg)
  | vrsumI (c : CoreId) (vd vs : VReg) (pk : PReg)
  | vexp2 (c : CoreId) (vd vs : VReg) (pk : PReg)
  | vexp2A (c : CoreId) (vd vs : VReg) (pk : PReg)
  | vlog2 (c : CoreId) (vd vs : VReg) (pk : PReg)
  | vlog2A (c : CoreId) (vd vs : VReg) (pk : PReg)
  | vrcp (c : CoreId) (vd vs : VReg) (pk : PReg)
  | vrcpA (c : CoreId) (vd vs : VReg) (pk : PReg)
  | vrsqrt (c : CoreId) (vd vs : VReg) (pk : PReg)
  | vrsqrtA (c : CoreId) (vd vs : VReg) (pk : PReg)
  | vsinpi (c : CoreId) (vd vs : VReg) (pk : PReg)
  | vcospi (c : CoreId) (vd vs : VReg) (pk : PReg)
  | vrand (c : CoreId) (vd : VReg) (pk : PReg)
  | vld (c : CoreId) (vd : VReg) (gs : GReg) (off : BitVec 24)
  | vst (c : CoreId) (vs : VReg) (gs : GReg) (off : BitVec 24)
  | vldx (c : CoreId) (vd : VReg) (gs : GReg) (vt : VReg) (pk : PReg)
  | vstx (c : CoreId) (vs : VReg) (gs : GReg) (vt : VReg) (pk : PReg)
  -- X class (07 R186)
  | xcvt (c : CoreId) (dst src : Fmt) (vd vs : VReg) (gk : GReg) (vx : VReg) (pk : PReg) (sr sat tz : Bool)
  -- D class (07 R189)
  | dcopy (c : CoreId) (tD tS : TReg) (gsem : GReg)
  | dcopyR (c : CoreId) (tD tS : TReg) (gsem gchip gdsem : GReg)
  | dcopyRed (c : CoreId) (tD tS : TReg) (gsem : GReg) (fmt : Fmt)
  | dcopyRedR (c : CoreId) (tD tS : TReg) (gsem gchip gdsem : GReg) (fmt : Fmt)
  | dhash (c : CoreId) (gd : GReg) (tS : TReg) (gsem : GReg)
  -- Y class (07 R190)
  | semAdd (c : CoreId) (gs gv : GReg)
  | semAddRel (c : CoreId) (gs gv : GReg)
  | semAddR (c : CoreId) (gs gv gchip : GReg)
  | semAddRRel (c : CoreId) (gs gv gchip : GReg)
  | semWait (c : CoreId) (gs gn : GReg)
  | semWaitAcq (c : CoreId) (gs gn : GReg)
  | semAcq (c : CoreId) (gs gn : GReg)
  | semSet (c : CoreId) (gs gv : GReg)
  | fenceCore (c : CoreId)
  | fenceCluster (c : CoreId)
  | fenceDie (c : CoreId)
  | fenceSys (c : CoreId)
  -- T class (07 R191)
  | nstatSat (c : CoreId) (gd : GReg)
  | nstatFlush (c : CoreId) (gd : GReg)
  | nstatNan (c : CoreId) (gd : GReg)
  | nstatInf (c : CoreId) (gd : GReg)
  | nstatStat (c : CoreId) (gd : GReg)
  | ptime (c : CoreId) (gd : GReg)
  | ptimeV (c : CoreId) (gd : GReg)
  | lstat (c : CoreId) (gl : GReg)
  | seed (c : CoreId) (gj gs : GReg)
  | sget (c : CoreId) (part : Part) (ga : GReg)
  | sput (c : CoreId) (part : Part) (ga : GReg)
  -- events of the cores and semaphores
  | fenceSatisfied (c : CoreId)
  | releaseSatisfied (c : CoreId)
  | semaphoreUpdate (sem : SemId)
  | dmoverComplete (c : CoreId) (op : Nat)
  | coreFaultRecord (c : CoreId)
  | contextFault (ctx : CtxId)
  | contextStop (c : CoreId)
  -- the global front end
  | doorbell (ini : Initiator) (page : Option CtxId) (sq : SqId) (value : BitVec 64)
  | sqEnable (ini : Initiator) (page : Option CtxId) (sq : SqId) (value : BitVec 64)
  | cqEnable (ini : Initiator) (page : Option CtxId) (cq : CqId) (value : BitVec 64)
  | resume (ini : Initiator) (page : Option CtxId) (sq : SqId)
  | sqAck (ini : Initiator) (page : Option CtxId) (sq : SqId)
  | gfeCtxEnable (ini : Initiator) (ctx : CtxId) (value : BitVec 64)
  | gfeCtxDisable (ini : Initiator) (ctx : CtxId) (value : BitVec 64)
  | commandNop (sq : SqId) (hostBytes : Bytes)
  | launch (sq : SqId) (hostBytes : Bytes)
  | colaunch (sq : SqId) (hostBytes : Bytes)
  | waitCmd (sq : SqId) (hostBytes : Bytes)
  | signalCmd (sq : SqId) (hostBytes : Bytes)
  | copyCmd (sq : SqId) (hostBytes : Bytes)
  | imageLoad (sq : SqId) (hostBytes : Bytes)
  | imagePatch (sq : SqId) (hostBytes : Bytes)
  | imageRetire (sq : SqId) (hostBytes : Bytes)
  | launchCoresAssigned (sq : SqId)
  | launchStartAt (sq : SqId)
  | branchComplete (sq : SqId) (branch : Fin 16)
  | copyComplete (sq : SqId)
  | completionWrite (cq : CqId)
  | completionOrphan (cq : CqId)
  | cmdFetchFail (sq : SqId) (kind : BitVec 8)
  | queueTimeout (sq : SqId)
  | deadlockFire (ctx : CtxId)
  | semAllotEnable (ini : Initiator) (ctx : CtxId) (value : BitVec 64)
  -- resets and power
  | contextReset (ini : Initiator) (ctx : CtxId)
  | partitionReset (ini : Initiator) (ctx : CtxId)
  | coreReset (ini : Initiator) (ctx : CtxId) (core : CoreId)
  | resetComplete (ctx : CtxId) (failedSelfTest : List CoreId)
  | chipReset (ini : Initiator) (value : BitVec 64)
  | resetNAssert
  | resetNDeassert
  | pwrEnRise
  | pwrEnFall
  | pllLock
  | bootPhaseDone (f : BootFindings)
  | railFault (g : RailGroup)
  | overcurrentStop (g : RailGroup)
  | inputLockout
  | thermalTrip (at_ : Sensor)
  | tripClear
  | criticalShutdown (at_ : Sensor)
  | aclkRequest (ini : Initiator) (value : BitVec 64)
  | aclkLower
  | aclkRaiseStep
  | featherGapExpiry (c : CoreId) (e : EngId)
  | featherRampStep (c : CoreId) (e : EngId)
  | stbArm (ini : Initiator) (c : CoreId) (value : BitVec 64)
  | ntmClear (ini : Initiator) (c : CoreId)
  | plbNowRead (ini : Initiator) (r : SpaceRead)
  -- translation, journal, flash, control space
  | frameWrite (ini : Initiator) (frame : Fin 1536) (value : BitVec 8)
  | invalidationStart (ini : Initiator) (value : BitVec 64)
  | invalidationComplete
  | journalEnable (ini : Initiator) (ctx : CtxId) (value : BitVec 64)
  | journalRunEnd (ctx : CtxId)
  | flashSlotStart (ini : Initiator) (slot : Fin 4) (value : BitVec 64)
  | flashSlotComplete (slot : Fin 4) (unreadable : List Nat)
  | registerWrite (ini : Initiator) (a : SpaceAddr) (size : Nat) (value : BitVec 64)
  | ownerWrite (ini : Initiator) (page : Fin 65536) (value : BitVec 32)
  | protectionLock (ini : Initiator) (value : BitVec 64)
  | vfBind (ini : Initiator) (vf : CtxId) (value : BitVec 64)
  -- host port
  | msixVectorUnmask (fn : CtxId) (vec : Fin 1024)
  | hdmRead (tee : Option CtxId) (off : Nat)
  | hdmWrite (tee : Option CtxId) (off : Nat) (data : Bytes) (enable : List Bool)
  | goResponse (id : Nat) (ok : Bool)
  | hostWriteTimeout (id : Nat)
  | hostReadData (cqid : BitVec 12) (data : Bytes) (error poison : Bool)
  | hostReadTimeout (slot : Fin 512)
  | h2dSnoop (addr : BitVec 64)
  | hostLinkDown
  | hostLinkUp (x16 fast : Bool)
  | hostLinkRetry
  | perstNAssert
  | perstNDeassert
  | vfFlr (vf : CtxId)
  | pfFlr
  | ideKm (m : KmMessage)
  | lockInterface (vf : CtxId)
  | getDeviceInterfaceReport (vf : CtxId)
  | startInterface (vf : CtxId)
  | stopInterface (vf : CtxId)
  | tdiError (vf : CtxId)
  -- SPDM and the trusted domain's requests
  | getVersion (t : Transport)
  | getCapabilities (t : Transport)
  | negotiateAlgorithms (t : Transport) (sha3 mldsa44 : Bool)
  | getDigests (t : Transport)
  | getCertificate (t : Transport) (slot : Nat) (off len : Nat)
  | challenge (t : Transport) (slot : Nat) (nonce : Bytes)
  | getMeasurements (t : Transport) (index : Nat) (nonce : Bytes)
  | keyExchange (t : Transport) (peerKey : Bytes)
  | finish (session : Fin 4) (hmacOk : Bool)
  | heartbeat (session : Fin 4)
  | heartbeatExpiry (session : Fin 4)
  | keyUpdate (session : Fin 4)
  | endSession (session : Fin 4)
  | chunkGet (t : Transport) (handle : Nat) (chunk : Nat)
  | getRecord (vf : CtxId) (ctx : CtxId) (seq : BitVec 32)
  | setPtb (vf : CtxId) (ctx : CtxId) (value : BitVec 64)
  | unseal (vf : CtxId) (ctx : CtxId) (args : Bytes)
  | flash (vf : CtxId) (ctx : CtxId) (args : Bytes)
  -- firmware processors
  | ping (m : Fin 19)
  | frameAssign
  | frameRelease
  | fwStage
  | fwActivate
  | fwStatus
  | setCap
  | getPower
  | svnRaise
  | ownerSet
  | activateFirmware
  | pldmFirmwareUpdate (m : PldmUpdate)
  | getSensorReading (id : BitVec 16)
  | entdaa (addr : BitVec 7)
  | setdasa (addr : BitVec 7)
  | fwdKick (m : Fin 19) (value : BitVec 64)
  | watchdogExpiry (m : Fin 19)
  | fwReady (m : Fin 19)
  | restartFail (m : Fin 19)
  | powerLoopTick (meanWatts : Nat) (div keep : Nat)
  | thermalLoopTick (div keep : Nat)
  | limiterTick (meanWatts : Nat)
  | emergencyEnd
  | sensorRefresh (r : SensorReadings)
  -- integrity
  | bstDue (u : BstUnit)
  | bstVisitStart (u : BstUnit)
  | bstVisitEnd (u : BstUnit) (pass : Bool) (path : Nat)
  | bstLate (u : BstUnit)
  | protectionCompare
  | coalesceWindowEnd (index : Nat)
  | hawkToggle (q : Nat)
  | patrolScrubRead (stack : Fin 16)
  | storeSweepRead (addr : Nat)
  -- Apbor links
  | flitGroupReceive (p : PortId) (g : FlitGroup)
  | replayTimeout (p : PortId)
  | fastRetrainDone (p : PortId) (ok : Bool) (rx tx : BitVec 17)
  | detectDone (p : PortId)
  | equaliseDone (p : PortId)
  | laneMapDone (p : PortId) (rx tx : BitVec 17)
  | identityRecord (p : PortId) (frame : Bytes) (verdict : Bool)
  | refreshFrame (p : PortId) (frame : Bytes) (verdict : Bool)
  | trainingTimeout (p : PortId)
  | downRetry (p : PortId)
  | portRetrain (ini : Initiator) (p : PortId) (value : BitVec 64)
  | apbClr (ini : Initiator) (p : PortId) (value : BitVec 64)
  | linkThresholdWindow (p : PortId) (w : LinkWindow)
  | keySwitch (p : PortId) (transmit : Bool)
  | keySwitchRetry (p : PortId)
  | keyAgreementM1 (m : KeyMessage)
  | keyAgreementM2 (m : KeyMessage) (proof : PeerProof)
  | keyAgreementM3 (m : KeyMessage) (proof : PeerProof)
  | keyAgreementAbort (p : PortId)
  -- fabric
  | packetRoute (inPort : Option PortId) (vc : Fin 4) (k : Pkt)
  | openMsg (inPort : PortId) (k : Pkt)
  | grant (a : Arrival)
  | refuse (a : Arrival)
  | dataPkt (a : Arrival)
  | resend (a : Arrival)
  | ack (a : Arrival)
  | semadd (inPort : PortId) (k : Pkt)
  | echo (a : Arrival)
  | messageComplete (handle : BitVec 16)
  | e2eTimeout (msgId : BitVec 16)
  | entryIdleTimeout (handle : BitVec 16)
  | openRetry (msgId : BitVec 16)
  | limiterStep (chip : BitVec 16)
  | tableCommit (ini : Initiator) (value : BitVec 64)
  | controlSpaceAccess (a : Arrival)
  | peerDownNotice (a : Arrival)
  | plumbFrameSend (p : PortId)
  | plumbFrame (p : PortId) (k : Pkt)
  | plumbParentLoss
  | masterWaitExpiry
  -- Ethernet
  | mgmtDatagram (at_ : EthArrival) (source : BitVec 128) (subtype : BitVec 16) (payload : Bytes)
  | telemetrySend (port : Fin 2)
  | roceDoorbell (ini : Initiator) (qp : Fin 1024) (value : BitVec 64)
  | roceSend (qp : Fin 1024)
  | rdmaWrite (qp : Fin 1024)
  | rdmaRead (qp : Fin 1024) (d : MarkedData)
  | recv (qp : Fin 1024)
  | inboundSend (a : QpArrival) (d : MarkedData)
  | inboundRdmaRequest (a : QpArrival) (isWrite : Bool)
  | workRequestComplete (qp : Fin 1024) (outcome : BitVec 8)
  | ethLinkUp (port : Fin 2) (upper : Bool)
  | ethLinkDown (port : Fin 2) (upper : Bool)
  | priorityFlowControlFrame (port : Fin 2) (prio : Fin 8) (pause : Bool)
  | congestionNotificationPacket (a : QpArrival)
  | endpointIdAssignment (eid : BitVec 8)
  | eventNotice (payload : Bytes)
  | configurationSpaceWrite (w : CfgWrite)
  | plumbReplicaMismatch
  | resetGenerationAged (ctx : CtxId)
  | postResetHoldEnd
  deriving DecidableEq, Repr

end Sys2Proof
end

