-- ==== Sys2Proof/WellFormed.lean ====
section
/-! DEFINITION. The codes of formats, groups, relations, types and parts (07 R176 to R191), and which FZ
instructions have a legal encoding (07 R195). -/

namespace Sys2Proof

/-- Format code (R176). -/
def Fmt.code : Fmt → Nat
  | .fp32 => 0x0 | .int32 => 0x1 | .fp16 => 0x2 | .bf16 => 0x3 | .e4m3 => 0x4 | .e5m2 => 0x5
  | .e3m2 => 0x6 | .e2m3 => 0x7 | .e2m1 => 0x8 | .mxint8 => 0x9 | .raw8 => 0xA

/-- The format of a code that a descriptor takes (R176). -/
def Fmt.ofCode : Nat → Option Fmt
  | 0x0 => some .fp32 | 0x1 => some .int32 | 0x2 => some .fp16 | 0x3 => some .bf16 | 0x4 => some .e4m3
  | 0x5 => some .e5m2 | 0x6 => some .e3m2 | 0x7 => some .e2m3 | 0x8 => some .e2m1 | 0x9 => some .mxint8
  | 0xA => some .raw8 | _ => none

/-- The 16-bit class: FP16 and BF16 (02). -/
def Fmt.is16 : Fmt → Bool
  | .fp16 | .bf16 => true
  | _ => false

/-- The block formats (02). -/
def Fmt.isBlock : Fmt → Bool
  | .e4m3 | .e5m2 | .e3m2 | .e2m3 | .e2m1 | .mxint8 => true
  | _ => false

/-- MMA takes the 16-bit and block formats (R176). -/
def Fmt.mmaTakes (f : Fmt) : Bool := f.is16 || f.isBlock
/-- MDRAIN takes FP32 and what MMA takes (R176). -/
def Fmt.drainTakes (f : Fmt) : Bool := f.mmaTakes || f == .fp32
/-- XCVT takes every code but RAW8, subject to its pairings (R176). -/
def Fmt.convertTakes (f : Fmt) : Bool := f != .raw8

/-- The format of a code in an MMA (R176). -/
def Fmt.mmaOfCode (n : Nat) : Option Fmt := (Fmt.ofCode n).filter Fmt.mmaTakes
/-- The format of a code in an MDRAIN (R176). -/
def Fmt.drainOfCode (n : Nat) : Option Fmt := (Fmt.ofCode n).filter Fmt.drainTakes
/-- The format of a code in an XCVT (R176). -/
def Fmt.convertOfCode (n : Nat) : Option Fmt := (Fmt.ofCode n).filter Fmt.convertTakes

/-- Group code (R177). -/
def Grp.code : Grp → Nat
  | .g4 => 0 | .g8 => 1 | .g16 => 2

/-- The group of a code; 0b11 is reserved (R177). -/
def Grp.ofCode : Nat → Option Grp
  | 0 => some .g4 | 1 => some .g8 | 2 => some .g16 | _ => none

/-- Group size in products (R177). -/
def Grp.size : Grp → Nat
  | .g4 => 4 | .g8 => 8 | .g16 => 16

/-- Relation code (R185). -/
def Rel.code : Rel → Nat
  | .eq => 0 | .ne => 1 | .lt => 2 | .le => 3 | .gt => 4 | .ge => 5

/-- The relation of a code (R185). -/
def Rel.ofCode : Nat → Option Rel
  | 0 => some .eq | 1 => some .ne | 2 => some .lt | 3 => some .le | 4 => some .gt | 5 => some .ge | _ => none

/-- Compare-type code (R185). -/
def CmpType.code : CmpType → Nat
  | .fp32 => 0 | .signed => 1 | .unsigned => 2

/-- The compare type of a code (R185). -/
def CmpType.ofCode : Nat → Option CmpType
  | 0 => some .fp32 | 1 => some .signed | 2 => some .unsigned | _ => none

/-- Part code (R179). -/
def Part.code : Part → Nat
  | .scal => 0 | .vec => 1 | .eng e => 2 + e.val | .stp => 6 | .ntm => 7

/-- The part of a code (R179). -/
def Part.ofCode : Nat → Option Part
  | 0 => some .scal | 1 => some .vec | 2 => some (.eng 0) | 3 => some (.eng 1) | 4 => some (.eng 2)
  | 5 => some (.eng 3) | 6 => some .stp | 7 => some .ntm | _ => none

/-- The kind of register a slot names; `none` is RES0 (R172). -/
inductive SlotKind where
  | none | g | v | p | t | a
  deriving DecidableEq, Repr

/-- How many registers a kind has (R172). -/
def SlotKind.count : SlotKind → Nat
  | .none => 0 | .g => 32 | .v => 32 | .p => 8 | .t => 16 | .a => 8

/-- How an XCVT pairing uses slots 3 and 4; none for a pairing that R187 does not list. -/
def xcvtSlots (dst src : Fmt) : Option (SlotKind × SlotKind) :=
  if dst == .fp32 then
    if src.is16 || src == .int32 then some (.none, .none)
    else if src.isBlock then some (.none, .v)
    else Option.none
  else if src == .fp32 then
    if dst.is16 || dst == .int32 then some (.g, .none)
    else if dst.isBlock then some (.g, .v)
    else Option.none
  else Option.none

/-- Precise mode in the 16-bit class (R178). -/
def prc16 (fmt : Fmt) (prc : Bool) : Bool := prc && fmt.is16

/-- The FZ operand combinations that have a legal encoding (R176, R178, R187, R188); every other command is
well formed as it is typed. -/
def Instr.wf : Instr → Bool
  | .mma _ _ _ _ _ fmt _ prc => fmt.mmaTakes && !prc16 fmt prc
  | .mdrain _ _ _ _ _ _ _ fmt _ _ => fmt.drainTakes
  | .xcvt _ dst src _ _ gk vx _ sr _ tz =>
    (match xcvtSlots dst src with
      | some (k3, k4) => (k3 != .none || gk == 0) && (k4 != .none || vx == 0)
      | none => false) && !(sr && tz)
  | _ => true

end Sys2Proof
end

