-- ==== Sys2Proof/Decode.lean ====
section
/-! DEFINITION. The decoder of FZ instruction words (chapter 07), and the decoder the host asks for.

No row of spec/opcode_table.json gives a command any bits, so the host's decoder reads no command from any
word. What the manual does give is the 64-bit word of every FZ instruction; its decoder answers an instruction
or the detail code of the first failing check of R195. -/

namespace Sys2Proof

/-- The command that a word of `nbits` bits spells by the opcode table: none, as no row has bits. -/
def decodeTableWord (_nbits _w : Nat) : Option Instr := none

/-- Register slot 1, bits [51:47] (R172). -/
def slot1 (w : Nat) : Nat := field w 47 5
/-- Register slot 2, bits [46:42] (R172). -/
def slot2 (w : Nat) : Nat := field w 42 5
/-- Register slot 3, bits [41:37] (R172). -/
def slot3 (w : Nat) : Nat := field w 37 5
/-- Register slot 4, bits [36:32] (R172). -/
def slot4 (w : Nat) : Nat := field w 32 5

/-- A slot's number lies in the range of its kind (R172); a RES0 slot is judged by check 5, not here. -/
def SlotKind.inRange (k : SlotKind) (n : Nat) : Bool := k == .none || decide (n < k.count)

/-- A slot that the row marks RES0 holds zero (R173). -/
def SlotKind.res0Ok (k : SlotKind) (n : Nat) : Bool := k != .none || n == 0

/-- Every range (start, length) of the low bits is zero (R173). -/
def res0 (w : Nat) (ranges : List (Nat × Nat)) : Bool := ranges.all fun r => field w r.1 r.2 == 0

/-- Checks 4 and 5 of R195 on a row: the kinds of its four slots and its RES0 ranges below bit 32. -/
def row (w : Nat) (k1 k2 k3 k4 : SlotKind) (ranges : List (Nat × Nat)) (rest : Except Nat Instr) :
    Except Nat Instr :=
  if !(k1.inRange (slot1 w) && k2.inRange (slot2 w) && k3.inRange (slot3 w) && k4.inRange (slot4 w)) then .error 0x04
  else if !(k1.res0Ok (slot1 w) && k2.res0Ok (slot2 w) && k3.res0Ok (slot3 w) && k4.res0Ok (slot4 w)
    && res0 w ranges) then .error 0x05
  else rest

/-- Check 6 of R195: a code that the field does not take. -/
def reserved {α : Type} (v : Option α) (k : α → Except Nat Instr) : Except Nat Instr :=
  match v with
  | none => .error 0x06
  | some a => k a

/-- Class 0x0 (R180). -/
def decodeClassC (c : CoreId) (w op : Nat) : Except Nat Instr :=
  match op with
  | 0x00 => row w .none .none .none .none [(0, 32)] <| .ok (.nop c)
  | 0x01 => row w .none .none .none .none [] <| .ok (.j c (BitVec.ofNat 32 (field w 0 32)))
  | 0x02 => row w .g .none .none .none [] <| .ok (.jal c (Fin.ofNat 32 (slot1 w)) (BitVec.ofNat 32 (field w 0 32)))
  | 0x03 => row w .none .g .none .none [(0, 32)] <| .ok (.jr c (Fin.ofNat 32 (slot2 w)))
  | 0x08 => row w .none .g .g .none [] <| .ok (.beq c (Fin.ofNat 32 (slot2 w)) (Fin.ofNat 32 (slot3 w)) (BitVec.ofNat 32 (field w 0 32)))
  | 0x09 => row w .none .g .g .none [] <| .ok (.bne c (Fin.ofNat 32 (slot2 w)) (Fin.ofNat 32 (slot3 w)) (BitVec.ofNat 32 (field w 0 32)))
  | 0x0A => row w .none .g .g .none [] <| .ok (.blt c (Fin.ofNat 32 (slot2 w)) (Fin.ofNat 32 (slot3 w)) (BitVec.ofNat 32 (field w 0 32)))
  | 0x0B => row w .none .g .g .none [] <| .ok (.bge c (Fin.ofNat 32 (slot2 w)) (Fin.ofNat 32 (slot3 w)) (BitVec.ofNat 32 (field w 0 32)))
  | 0x0C => row w .none .g .g .none [] <| .ok (.bltu c (Fin.ofNat 32 (slot2 w)) (Fin.ofNat 32 (slot3 w)) (BitVec.ofNat 32 (field w 0 32)))
  | 0x0D => row w .none .g .g .none [] <| .ok (.bgeu c (Fin.ofNat 32 (slot2 w)) (Fin.ofNat 32 (slot3 w)) (BitVec.ofNat 32 (field w 0 32)))
  | 0x0F => row w .none .none .none .none [(0, 32)] <| .ok (.endProg c)
  | _ => .error 0x03

/-- Class 0x1 (R181). -/
def decodeClassG (c : CoreId) (w op : Nat) : Except Nat Instr :=
  match op with
  | 0x00 => row w .g .g .g .none [(0, 32)] <| .ok (.add c (Fin.ofNat 32 (slot1 w)) (Fin.ofNat 32 (slot2 w)) (Fin.ofNat 32 (slot3 w)))
  | 0x01 => row w .g .g .g .none [(0, 32)] <| .ok (.sub c (Fin.ofNat 32 (slot1 w)) (Fin.ofNat 32 (slot2 w)) (Fin.ofNat 32 (slot3 w)))
  | 0x02 => row w .g .g .g .none [(0, 32)] <| .ok (.mul c (Fin.ofNat 32 (slot1 w)) (Fin.ofNat 32 (slot2 w)) (Fin.ofNat 32 (slot3 w)))
  | 0x03 => row w .g .g .g .none [(0, 32)] <| .ok (.mulh c (Fin.ofNat 32 (slot1 w)) (Fin.ofNat 32 (slot2 w)) (Fin.ofNat 32 (slot3 w)))
  | 0x04 => row w .g .g .g .none [(0, 32)] <| .ok (.mulhu c (Fin.ofNat 32 (slot1 w)) (Fin.ofNat 32 (slot2 w)) (Fin.ofNat 32 (slot3 w)))
  | 0x08 => row w .g .g .g .none [(0, 32)] <| .ok (.and c (Fin.ofNat 32 (slot1 w)) (Fin.ofNat 32 (slot2 w)) (Fin.ofNat 32 (slot3 w)))
  | 0x09 => row w .g .g .g .none [(0, 32)] <| .ok (.or c (Fin.ofNat 32 (slot1 w)) (Fin.ofNat 32 (slot2 w)) (Fin.ofNat 32 (slot3 w)))
  | 0x0A => row w .g .g .g .none [(0, 32)] <| .ok (.xor c (Fin.ofNat 32 (slot1 w)) (Fin.ofNat 32 (slot2 w)) (Fin.ofNat 32 (slot3 w)))
  | 0x0C => row w .g .g .g .none [(0, 32)] <| .ok (.sll c (Fin.ofNat 32 (slot1 w)) (Fin.ofNat 32 (slot2 w)) (Fin.ofNat 32 (slot3 w)))
  | 0x0D => row w .g .g .g .none [(0, 32)] <| .ok (.srl c (Fin.ofNat 32 (slot1 w)) (Fin.ofNat 32 (slot2 w)) (Fin.ofNat 32 (slot3 w)))
  | 0x0E => row w .g .g .g .none [(0, 32)] <| .ok (.sra c (Fin.ofNat 32 (slot1 w)) (Fin.ofNat 32 (slot2 w)) (Fin.ofNat 32 (slot3 w)))
  | 0x10 => row w .g .g .g .none [(0, 32)] <| .ok (.slt c (Fin.ofNat 32 (slot1 w)) (Fin.ofNat 32 (slot2 w)) (Fin.ofNat 32 (slot3 w)))
  | 0x11 => row w .g .g .g .none [(0, 32)] <| .ok (.sltu c (Fin.ofNat 32 (slot1 w)) (Fin.ofNat 32 (slot2 w)) (Fin.ofNat 32 (slot3 w)))
  | 0x14 => row w .g .g .g .none [(0, 32)] <| .ok (.min c (Fin.ofNat 32 (slot1 w)) (Fin.ofNat 32 (slot2 w)) (Fin.ofNat 32 (slot3 w)))
  | 0x15 => row w .g .g .g .none [(0, 32)] <| .ok (.max c (Fin.ofNat 32 (slot1 w)) (Fin.ofNat 32 (slot2 w)) (Fin.ofNat 32 (slot3 w)))
  | 0x16 => row w .g .g .g .none [(0, 32)] <| .ok (.minu c (Fin.ofNat 32 (slot1 w)) (Fin.ofNat 32 (slot2 w)) (Fin.ofNat 32 (slot3 w)))
  | 0x17 => row w .g .g .g .none [(0, 32)] <| .ok (.maxu c (Fin.ofNat 32 (slot1 w)) (Fin.ofNat 32 (slot2 w)) (Fin.ofNat 32 (slot3 w)))
  | 0x40 => row w .g .g .none .none [] <| .ok (.addi c (Fin.ofNat 32 (slot1 w)) (Fin.ofNat 32 (slot2 w)) (BitVec.ofNat 32 (field w 0 32)))
  | 0x48 => row w .g .g .none .none [] <| .ok (.andi c (Fin.ofNat 32 (slot1 w)) (Fin.ofNat 32 (slot2 w)) (BitVec.ofNat 32 (field w 0 32)))
  | 0x49 => row w .g .g .none .none [] <| .ok (.ori c (Fin.ofNat 32 (slot1 w)) (Fin.ofNat 32 (slot2 w)) (BitVec.ofNat 32 (field w 0 32)))
  | 0x4A => row w .g .g .none .none [] <| .ok (.xori c (Fin.ofNat 32 (slot1 w)) (Fin.ofNat 32 (slot2 w)) (BitVec.ofNat 32 (field w 0 32)))
  | 0x4C => row w .g .g .none .none [(6, 26)] <| .ok (.slli c (Fin.ofNat 32 (slot1 w)) (Fin.ofNat 32 (slot2 w)) (BitVec.ofNat 6 (field w 0 6)))
  | 0x4D => row w .g .g .none .none [(6, 26)] <| .ok (.srli c (Fin.ofNat 32 (slot1 w)) (Fin.ofNat 32 (slot2 w)) (BitVec.ofNat 6 (field w 0 6)))
  | 0x4E => row w .g .g .none .none [(6, 26)] <| .ok (.srai c (Fin.ofNat 32 (slot1 w)) (Fin.ofNat 32 (slot2 w)) (BitVec.ofNat 6 (field w 0 6)))
  | 0x50 => row w .g .g .none .none [] <| .ok (.slti c (Fin.ofNat 32 (slot1 w)) (Fin.ofNat 32 (slot2 w)) (BitVec.ofNat 32 (field w 0 32)))
  | 0x60 => row w .g .none .none .none [] <| .ok (.movi c (Fin.ofNat 32 (slot1 w)) (BitVec.ofNat 32 (field w 0 32)))
  | 0x61 => row w .g .none .none .none [] <| .ok (.movhi c (Fin.ofNat 32 (slot1 w)) (BitVec.ofNat 32 (field w 0 32)))
  | _ => .error 0x03

/-- Class 0x2 (R182). -/
def decodeClassL (c : CoreId) (w op : Nat) : Except Nat Instr :=
  match op with
  | 0x00 => row w .g .g .none .none [] <| .ok (.ldB c (Fin.ofNat 32 (slot1 w)) (Fin.ofNat 32 (slot2 w)) (BitVec.ofNat 32 (field w 0 32)))
  | 0x01 => row w .g .g .none .none [] <| .ok (.ldBu c (Fin.ofNat 32 (slot1 w)) (Fin.ofNat 32 (slot2 w)) (BitVec.ofNat 32 (field w 0 32)))
  | 0x02 => row w .g .g .none .none [] <| .ok (.ldH c (Fin.ofNat 32 (slot1 w)) (Fin.ofNat 32 (slot2 w)) (BitVec.ofNat 32 (field w 0 32)))
  | 0x03 => row w .g .g .none .none [] <| .ok (.ldHu c (Fin.ofNat 32 (slot1 w)) (Fin.ofNat 32 (slot2 w)) (BitVec.ofNat 32 (field w 0 32)))
  | 0x04 => row w .g .g .none .none [] <| .ok (.ldW c (Fin.ofNat 32 (slot1 w)) (Fin.ofNat 32 (slot2 w)) (BitVec.ofNat 32 (field w 0 32)))
  | 0x05 => row w .g .g .none .none [] <| .ok (.ldWu c (Fin.ofNat 32 (slot1 w)) (Fin.ofNat 32 (slot2 w)) (BitVec.ofNat 32 (field w 0 32)))
  | 0x06 => row w .g .g .none .none [] <| .ok (.ldD c (Fin.ofNat 32 (slot1 w)) (Fin.ofNat 32 (slot2 w)) (BitVec.ofNat 32 (field w 0 32)))
  | 0x10 => row w .none .g .g .none [] <| .ok (.stB c (Fin.ofNat 32 (slot2 w)) (Fin.ofNat 32 (slot3 w)) (BitVec.ofNat 32 (field w 0 32)))
  | 0x11 => row w .none .g .g .none [] <| .ok (.stH c (Fin.ofNat 32 (slot2 w)) (Fin.ofNat 32 (slot3 w)) (BitVec.ofNat 32 (field w 0 32)))
  | 0x12 => row w .none .g .g .none [] <| .ok (.stW c (Fin.ofNat 32 (slot2 w)) (Fin.ofNat 32 (slot3 w)) (BitVec.ofNat 32 (field w 0 32)))
  | 0x13 => row w .none .g .g .none [] <| .ok (.stD c (Fin.ofNat 32 (slot2 w)) (Fin.ofNat 32 (slot3 w)) (BitVec.ofNat 32 (field w 0 32)))
  | 0x20 => row w .t .g .none .none [] <| .ok (.tdld c (Fin.ofNat 16 (slot1 w)) (Fin.ofNat 32 (slot2 w)) (BitVec.ofNat 32 (field w 0 32)))
  | 0x21 => row w .t .g .none .none [] <| .ok (.tdst c (Fin.ofNat 16 (slot1 w)) (Fin.ofNat 32 (slot2 w)) (BitVec.ofNat 32 (field w 0 32)))
  | 0x22 => row w .t .g .none .none [(0, 32)] <| .ok (.tdadd c (Fin.ofNat 16 (slot1 w)) (Fin.ofNat 32 (slot2 w)))
  | 0x23 => row w .t .g .none .none [(0, 32)] <| .ok (.tdaddS c (Fin.ofNat 16 (slot1 w)) (Fin.ofNat 32 (slot2 w)))
  | _ => .error 0x03

/-- Class 0x3 (R183). -/
def decodeClassM (c : CoreId) (w op : Nat) : Except Nat Instr :=
  match op with
  | 0x00 => row w .a .none .none .none [(0, 30)] <| .ok (.mzero c (Fin.ofNat 4 (field w 30 2)) (Fin.ofNat 8 (slot1 w)))
  | 0x01 => row w .a .none .none .none [(0, 30)] <| .ok (.mzeroW c (Fin.ofNat 4 (field w 30 2)) (Fin.ofNat 8 (slot1 w)))
  | 0x08 => row w .none .t .none .none [(0, 30)] <| .ok (.mprime c (Fin.ofNat 4 (field w 30 2)) (Fin.ofNat 16 (slot2 w)))
  | 0x09 => row w .none .none .none .none [(0, 30)] <| .ok (.mswap c (Fin.ofNat 4 (field w 30 2)))
  | 0x10 => row w .a .t .none .none [(4, 4), (11, 5), (23, 7)] <| reserved (Fmt.mmaOfCode (field w 0 4)) fun fmt => reserved (Grp.ofCode (field w 8 2)) fun grp => if prc16 fmt (field w 10 1 == 1) then .error 0x07 else .ok (.mma c (Fin.ofNat 4 (field w 30 2)) (Fin.ofNat 8 (slot1 w)) (Fin.ofNat 128 (field w 16 7)) (Fin.ofNat 16 (slot2 w)) fmt grp ((field w 10 1) == 1))
  | 0x18 => row w .a .t .g .g [(4, 7), (13, 3), (23, 7)] <| reserved (Fmt.drainOfCode (field w 0 4)) fun fmt => .ok (.mdrain c (Fin.ofNat 4 (field w 30 2)) (Fin.ofNat 8 (slot1 w)) (Fin.ofNat 128 (field w 16 7)) (Fin.ofNat 16 (slot2 w)) (Fin.ofNat 32 (slot3 w)) (Fin.ofNat 32 (slot4 w)) fmt ((field w 11 1) == 1) ((field w 12 1) == 1))
  | 0x19 => row w .a .t .g .g [(0, 16), (23, 7)] <| .ok (.mdrainF32x2 c (Fin.ofNat 4 (field w 30 2)) (Fin.ofNat 8 (slot1 w)) (Fin.ofNat 128 (field w 16 7)) (Fin.ofNat 16 (slot2 w)) (Fin.ofNat 32 (slot3 w)) (Fin.ofNat 32 (slot4 w)))
  | _ => .error 0x03

/-- Class 0x4 (R184). -/
def decodeClassV (c : CoreId) (w op : Nat) : Except Nat Instr :=
  match op with
  | 0x00 => row w .v .v .v .none [(0, 29)] <| .ok (.vadd c (Fin.ofNat 32 (slot1 w)) (Fin.ofNat 32 (slot2 w)) (Fin.ofNat 32 (slot3 w)) (Fin.ofNat 8 (field w 29 3)))
  | 0x01 => row w .v .v .v .none [(0, 29)] <| .ok (.vsub c (Fin.ofNat 32 (slot1 w)) (Fin.ofNat 32 (slot2 w)) (Fin.ofNat 32 (slot3 w)) (Fin.ofNat 8 (field w 29 3)))
  | 0x02 => row w .v .v .v .none [(0, 29)] <| .ok (.vmul c (Fin.ofNat 32 (slot1 w)) (Fin.ofNat 32 (slot2 w)) (Fin.ofNat 32 (slot3 w)) (Fin.ofNat 8 (field w 29 3)))
  | 0x03 => row w .v .v .v .v [(0, 29)] <| .ok (.vfma c (Fin.ofNat 32 (slot1 w)) (Fin.ofNat 32 (slot2 w)) (Fin.ofNat 32 (slot3 w)) (Fin.ofNat 32 (slot4 w)) (Fin.ofNat 8 (field w 29 3)))
  | 0x04 => row w .v .v .v .none [(0, 29)] <| .ok (.vdiv c (Fin.ofNat 32 (slot1 w)) (Fin.ofNat 32 (slot2 w)) (Fin.ofNat 32 (slot3 w)) (Fin.ofNat 8 (field w 29 3)))
  | 0x05 => row w .v .v .none .none [(0, 29)] <| .ok (.vsqrt c (Fin.ofNat 32 (slot1 w)) (Fin.ofNat 32 (slot2 w)) (Fin.ofNat 8 (field w 29 3)))
  | 0x06 => row w .v .v .v .none [(0, 29)] <| .ok (.vmin c (Fin.ofNat 32 (slot1 w)) (Fin.ofNat 32 (slot2 w)) (Fin.ofNat 32 (slot3 w)) (Fin.ofNat 8 (field w 29 3)))
  | 0x07 => row w .v .v .v .none [(0, 29)] <| .ok (.vmax c (Fin.ofNat 32 (slot1 w)) (Fin.ofNat 32 (slot2 w)) (Fin.ofNat 32 (slot3 w)) (Fin.ofNat 8 (field w 29 3)))
  | 0x08 => row w .v .v .none .none [(0, 29)] <| .ok (.vabs c (Fin.ofNat 32 (slot1 w)) (Fin.ofNat 32 (slot2 w)) (Fin.ofNat 8 (field w 29 3)))
  | 0x09 => row w .v .v .none .none [(0, 29)] <| .ok (.vneg c (Fin.ofNat 32 (slot1 w)) (Fin.ofNat 32 (slot2 w)) (Fin.ofNat 8 (field w 29 3)))
  | 0x10 => row w .v .v .v .none [(0, 29)] <| .ok (.vaddI c (Fin.ofNat 32 (slot1 w)) (Fin.ofNat 32 (slot2 w)) (Fin.ofNat 32 (slot3 w)) (Fin.ofNat 8 (field w 29 3)))
  | 0x11 => row w .v .v .v .none [(0, 29)] <| .ok (.vsubI c (Fin.ofNat 32 (slot1 w)) (Fin.ofNat 32 (slot2 w)) (Fin.ofNat 32 (slot3 w)) (Fin.ofNat 8 (field w 29 3)))
  | 0x12 => row w .v .v .v .none [(0, 29)] <| .ok (.vmulI c (Fin.ofNat 32 (slot1 w)) (Fin.ofNat 32 (slot2 w)) (Fin.ofNat 32 (slot3 w)) (Fin.ofNat 8 (field w 29 3)))
  | 0x13 => row w .v .v .v .none [(0, 29)] <| .ok (.vmulh c (Fin.ofNat 32 (slot1 w)) (Fin.ofNat 32 (slot2 w)) (Fin.ofNat 32 (slot3 w)) (Fin.ofNat 8 (field w 29 3)))
  | 0x14 => row w .v .v .v .none [(0, 29)] <| .ok (.vmulhU c (Fin.ofNat 32 (slot1 w)) (Fin.ofNat 32 (slot2 w)) (Fin.ofNat 32 (slot3 w)) (Fin.ofNat 8 (field w 29 3)))
  | 0x15 => row w .v .v .v .none [(0, 29)] <| .ok (.vsll c (Fin.ofNat 32 (slot1 w)) (Fin.ofNat 32 (slot2 w)) (Fin.ofNat 32 (slot3 w)) (Fin.ofNat 8 (field w 29 3)))
  | 0x16 => row w .v .v .v .none [(0, 29)] <| .ok (.vsrl c (Fin.ofNat 32 (slot1 w)) (Fin.ofNat 32 (slot2 w)) (Fin.ofNat 32 (slot3 w)) (Fin.ofNat 8 (field w 29 3)))
  | 0x17 => row w .v .v .v .none [(0, 29)] <| .ok (.vsra c (Fin.ofNat 32 (slot1 w)) (Fin.ofNat 32 (slot2 w)) (Fin.ofNat 32 (slot3 w)) (Fin.ofNat 8 (field w 29 3)))
  | 0x18 => row w .v .v .v .none [(0, 29)] <| .ok (.vand c (Fin.ofNat 32 (slot1 w)) (Fin.ofNat 32 (slot2 w)) (Fin.ofNat 32 (slot3 w)) (Fin.ofNat 8 (field w 29 3)))
  | 0x19 => row w .v .v .v .none [(0, 29)] <| .ok (.vor c (Fin.ofNat 32 (slot1 w)) (Fin.ofNat 32 (slot2 w)) (Fin.ofNat 32 (slot3 w)) (Fin.ofNat 8 (field w 29 3)))
  | 0x1A => row w .v .v .v .none [(0, 29)] <| .ok (.vxor c (Fin.ofNat 32 (slot1 w)) (Fin.ofNat 32 (slot2 w)) (Fin.ofNat 32 (slot3 w)) (Fin.ofNat 8 (field w 29 3)))
  | 0x1C => row w .v .v .v .none [(0, 29)] <| .ok (.vaddISat c (Fin.ofNat 32 (slot1 w)) (Fin.ofNat 32 (slot2 w)) (Fin.ofNat 32 (slot3 w)) (Fin.ofNat 8 (field w 29 3)))
  | 0x1D => row w .v .v .v .none [(0, 29)] <| .ok (.vsubISat c (Fin.ofNat 32 (slot1 w)) (Fin.ofNat 32 (slot2 w)) (Fin.ofNat 32 (slot3 w)) (Fin.ofNat 8 (field w 29 3)))
  | 0x20 => row w .v .v .v .none [(0, 29)] <| .ok (.vperm c (Fin.ofNat 32 (slot1 w)) (Fin.ofNat 32 (slot2 w)) (Fin.ofNat 32 (slot3 w)) (Fin.ofNat 8 (field w 29 3)))
  | 0x21 => row w .v .v .v .p [(0, 29)] <| .ok (.vsel c (Fin.ofNat 32 (slot1 w)) (Fin.ofNat 32 (slot2 w)) (Fin.ofNat 32 (slot3 w)) (Fin.ofNat 8 (slot4 w)) (Fin.ofNat 8 (field w 29 3)))
  | 0x22 => row w .v .g .none .none [(0, 29)] <| .ok (.vbcast c (Fin.ofNat 32 (slot1 w)) (Fin.ofNat 32 (slot2 w)) (Fin.ofNat 8 (field w 29 3)))
  | 0x23 => row w .g .v .none .none [(8, 24)] <| .ok (.vext c (Fin.ofNat 32 (slot1 w)) (Fin.ofNat 32 (slot2 w)) (Fin.ofNat 256 (field w 0 8)))
  | 0x28 => row w .p .v .v .none [(5, 24)] <| reserved (Rel.ofCode (field w 0 3)) fun rel => reserved (CmpType.ofCode (field w 3 2)) fun ty => .ok (.vcmp c (Fin.ofNat 8 (slot1 w)) (Fin.ofNat 32 (slot2 w)) (Fin.ofNat 32 (slot3 w)) rel ty (Fin.ofNat 8 (field w 29 3)))
  | 0x29 => row w .p .p .p .none [(0, 32)] <| .ok (.pand c (Fin.ofNat 8 (slot1 w)) (Fin.ofNat 8 (slot2 w)) (Fin.ofNat 8 (slot3 w)))
  | 0x2A => row w .p .p .p .none [(0, 32)] <| .ok (.por c (Fin.ofNat 8 (slot1 w)) (Fin.ofNat 8 (slot2 w)) (Fin.ofNat 8 (slot3 w)))
  | 0x2B => row w .p .p .p .none [(0, 32)] <| .ok (.pxor c (Fin.ofNat 8 (slot1 w)) (Fin.ofNat 8 (slot2 w)) (Fin.ofNat 8 (slot3 w)))
  | 0x2C => row w .p .p .none .none [(0, 32)] <| .ok (.pnot c (Fin.ofNat 8 (slot1 w)) (Fin.ofNat 8 (slot2 w)))
  | 0x30 => row w .v .v .none .none [(0, 29)] <| .ok (.vrsum c (Fin.ofNat 32 (slot1 w)) (Fin.ofNat 32 (slot2 w)) (Fin.ofNat 8 (field w 29 3)))
  | 0x31 => row w .v .v .none .none [(0, 29)] <| .ok (.vrmax c (Fin.ofNat 32 (slot1 w)) (Fin.ofNat 32 (slot2 w)) (Fin.ofNat 8 (field w 29 3)))
  | 0x32 => row w .v .v .none .none [(0, 29)] <| .ok (.vrmin c (Fin.ofNat 32 (slot1 w)) (Fin.ofNat 32 (slot2 w)) (Fin.ofNat 8 (field w 29 3)))
  | 0x33 => row w .v .v .none .none [(0, 29)] <| .ok (.vrsumI c (Fin.ofNat 32 (slot1 w)) (Fin.ofNat 32 (slot2 w)) (Fin.ofNat 8 (field w 29 3)))
  | 0x38 => row w .v .v .none .none [(0, 29)] <| .ok (.vexp2 c (Fin.ofNat 32 (slot1 w)) (Fin.ofNat 32 (slot2 w)) (Fin.ofNat 8 (field w 29 3)))
  | 0x39 => row w .v .v .none .none [(0, 29)] <| .ok (.vexp2A c (Fin.ofNat 32 (slot1 w)) (Fin.ofNat 32 (slot2 w)) (Fin.ofNat 8 (field w 29 3)))
  | 0x3A => row w .v .v .none .none [(0, 29)] <| .ok (.vlog2 c (Fin.ofNat 32 (slot1 w)) (Fin.ofNat 32 (slot2 w)) (Fin.ofNat 8 (field w 29 3)))
  | 0x3B => row w .v .v .none .none [(0, 29)] <| .ok (.vlog2A c (Fin.ofNat 32 (slot1 w)) (Fin.ofNat 32 (slot2 w)) (Fin.ofNat 8 (field w 29 3)))
  | 0x3C => row w .v .v .none .none [(0, 29)] <| .ok (.vrcp c (Fin.ofNat 32 (slot1 w)) (Fin.ofNat 32 (slot2 w)) (Fin.ofNat 8 (field w 29 3)))
  | 0x3D => row w .v .v .none .none [(0, 29)] <| .ok (.vrcpA c (Fin.ofNat 32 (slot1 w)) (Fin.ofNat 32 (slot2 w)) (Fin.ofNat 8 (field w 29 3)))
  | 0x3E => row w .v .v .none .none [(0, 29)] <| .ok (.vrsqrt c (Fin.ofNat 32 (slot1 w)) (Fin.ofNat 32 (slot2 w)) (Fin.ofNat 8 (field w 29 3)))
  | 0x3F => row w .v .v .none .none [(0, 29)] <| .ok (.vrsqrtA c (Fin.ofNat 32 (slot1 w)) (Fin.ofNat 32 (slot2 w)) (Fin.ofNat 8 (field w 29 3)))
  | 0x40 => row w .v .v .none .none [(0, 29)] <| .ok (.vsinpi c (Fin.ofNat 32 (slot1 w)) (Fin.ofNat 32 (slot2 w)) (Fin.ofNat 8 (field w 29 3)))
  | 0x41 => row w .v .v .none .none [(0, 29)] <| .ok (.vcospi c (Fin.ofNat 32 (slot1 w)) (Fin.ofNat 32 (slot2 w)) (Fin.ofNat 8 (field w 29 3)))
  | 0x48 => row w .v .none .none .none [(0, 29)] <| .ok (.vrand c (Fin.ofNat 32 (slot1 w)) (Fin.ofNat 8 (field w 29 3)))
  | 0x50 => row w .v .g .none .none [(24, 8)] <| .ok (.vld c (Fin.ofNat 32 (slot1 w)) (Fin.ofNat 32 (slot2 w)) (BitVec.ofNat 24 (field w 0 24)))
  | 0x51 => row w .v .g .none .none [(24, 8)] <| .ok (.vst c (Fin.ofNat 32 (slot1 w)) (Fin.ofNat 32 (slot2 w)) (BitVec.ofNat 24 (field w 0 24)))
  | 0x52 => row w .v .g .v .none [(0, 29)] <| .ok (.vldx c (Fin.ofNat 32 (slot1 w)) (Fin.ofNat 32 (slot2 w)) (Fin.ofNat 32 (slot3 w)) (Fin.ofNat 8 (field w 29 3)))
  | 0x53 => row w .v .g .v .none [(0, 29)] <| .ok (.vstx c (Fin.ofNat 32 (slot1 w)) (Fin.ofNat 32 (slot2 w)) (Fin.ofNat 32 (slot3 w)) (Fin.ofNat 8 (field w 29 3)))
  | _ => .error 0x03

/-- Class 0x5 (R186 to R188): XCVT. Slots 3 and 4 of an unlisted pairing are not judged by check 5. -/
def decodeClassX (c : CoreId) (w op : Nat) : Except Nat Instr :=
  match op with
  | 0x00 =>
    let dst := Fmt.convertOfCode (field w 0 4)
    let src := Fmt.convertOfCode (field w 4 4)
    let kinds := ((do xcvtSlots (← dst) (← src)) : Option (SlotKind × SlotKind))
    row w .v .v (kinds.getD (.g, .v)).1 (kinds.getD (.g, .v)).2 [(8, 3), (14, 15)] <|
      reserved dst fun dst => reserved src fun src =>
        if (xcvtSlots dst src).isNone then .error 0x08
        else if field w 11 1 == 1 && field w 13 1 == 1 then .error 0x09
        else .ok (.xcvt c dst src (Fin.ofNat 32 (slot1 w)) (Fin.ofNat 32 (slot2 w)) (Fin.ofNat 32 (slot3 w))
          (Fin.ofNat 32 (slot4 w)) (Fin.ofNat 8 (field w 29 3)) (field w 11 1 == 1) (field w 12 1 == 1)
          (field w 13 1 == 1))
  | _ => .error 0x03

/-- Class 0x6 (R189). -/
def decodeClassD (c : CoreId) (w op : Nat) : Except Nat Instr :=
  match op with
  | 0x00 => row w .t .t .g .none [(0, 32)] <| .ok (.dcopy c (Fin.ofNat 16 (slot1 w)) (Fin.ofNat 16 (slot2 w)) (Fin.ofNat 32 (slot3 w)))
  | 0x01 => row w .t .t .g .g [(0, 27)] <| .ok (.dcopyR c (Fin.ofNat 16 (slot1 w)) (Fin.ofNat 16 (slot2 w)) (Fin.ofNat 32 (slot3 w)) (Fin.ofNat 32 (slot4 w)) (Fin.ofNat 32 (field w 27 5)))
  | 0x08 => row w .t .t .g .none [(4, 28)] <| reserved (Fmt.ofCode (field w 0 4)) fun fmt => .ok (.dcopyRed c (Fin.ofNat 16 (slot1 w)) (Fin.ofNat 16 (slot2 w)) (Fin.ofNat 32 (slot3 w)) fmt)
  | 0x09 => row w .t .t .g .g [(4, 23)] <| reserved (Fmt.ofCode (field w 0 4)) fun fmt => .ok (.dcopyRedR c (Fin.ofNat 16 (slot1 w)) (Fin.ofNat 16 (slot2 w)) (Fin.ofNat 32 (slot3 w)) (Fin.ofNat 32 (slot4 w)) (Fin.ofNat 32 (field w 27 5)) fmt)
  | 0x10 => row w .g .t .g .none [(0, 32)] <| .ok (.dhash c (Fin.ofNat 32 (slot1 w)) (Fin.ofNat 16 (slot2 w)) (Fin.ofNat 32 (slot3 w)))
  | _ => .error 0x03

/-- Class 0x7 (R190). -/
def decodeClassY (c : CoreId) (w op : Nat) : Except Nat Instr :=
  match op with
  | 0x00 => row w .none .g .g .none [(0, 32)] <| .ok (.semAdd c (Fin.ofNat 32 (slot2 w)) (Fin.ofNat 32 (slot3 w)))
  | 0x01 => row w .none .g .g .none [(0, 32)] <| .ok (.semAddRel c (Fin.ofNat 32 (slot2 w)) (Fin.ofNat 32 (slot3 w)))
  | 0x02 => row w .none .g .g .g [(0, 32)] <| .ok (.semAddR c (Fin.ofNat 32 (slot2 w)) (Fin.ofNat 32 (slot3 w)) (Fin.ofNat 32 (slot4 w)))
  | 0x03 => row w .none .g .g .g [(0, 32)] <| .ok (.semAddRRel c (Fin.ofNat 32 (slot2 w)) (Fin.ofNat 32 (slot3 w)) (Fin.ofNat 32 (slot4 w)))
  | 0x08 => row w .none .g .g .none [(0, 32)] <| .ok (.semWait c (Fin.ofNat 32 (slot2 w)) (Fin.ofNat 32 (slot3 w)))
  | 0x09 => row w .none .g .g .none [(0, 32)] <| .ok (.semWaitAcq c (Fin.ofNat 32 (slot2 w)) (Fin.ofNat 32 (slot3 w)))
  | 0x0A => row w .none .g .g .none [(0, 32)] <| .ok (.semAcq c (Fin.ofNat 32 (slot2 w)) (Fin.ofNat 32 (slot3 w)))
  | 0x0C => row w .none .g .g .none [(0, 32)] <| .ok (.semSet c (Fin.ofNat 32 (slot2 w)) (Fin.ofNat 32 (slot3 w)))
  | 0x10 => row w .none .none .none .none [(0, 32)] <| .ok (.fenceCore c)
  | 0x11 => row w .none .none .none .none [(0, 32)] <| .ok (.fenceCluster c)
  | 0x12 => row w .none .none .none .none [(0, 32)] <| .ok (.fenceDie c)
  | 0x13 => row w .none .none .none .none [(0, 32)] <| .ok (.fenceSys c)
  | _ => .error 0x03

/-- Class 0x8 (R191). -/
def decodeClassT (c : CoreId) (w op : Nat) : Except Nat Instr :=
  match op with
  | 0x00 => row w .g .none .none .none [(0, 32)] <| .ok (.nstatSat c (Fin.ofNat 32 (slot1 w)))
  | 0x01 => row w .g .none .none .none [(0, 32)] <| .ok (.nstatFlush c (Fin.ofNat 32 (slot1 w)))
  | 0x02 => row w .g .none .none .none [(0, 32)] <| .ok (.nstatNan c (Fin.ofNat 32 (slot1 w)))
  | 0x03 => row w .g .none .none .none [(0, 32)] <| .ok (.nstatInf c (Fin.ofNat 32 (slot1 w)))
  | 0x04 => row w .g .none .none .none [(0, 32)] <| .ok (.nstatStat c (Fin.ofNat 32 (slot1 w)))
  | 0x08 => row w .g .none .none .none [(0, 32)] <| .ok (.ptime c (Fin.ofNat 32 (slot1 w)))
  | 0x09 => row w .g .none .none .none [(0, 32)] <| .ok (.ptimeV c (Fin.ofNat 32 (slot1 w)))
  | 0x10 => row w .none .g .none .none [(0, 32)] <| .ok (.lstat c (Fin.ofNat 32 (slot2 w)))
  | 0x18 => row w .none .g .g .none [(0, 32)] <| .ok (.seed c (Fin.ofNat 32 (slot2 w)) (Fin.ofNat 32 (slot3 w)))
  | 0x20 => row w .none .g .none .none [(4, 28)] <| reserved (Part.ofCode (field w 0 4)) fun part => .ok (.sget c part (Fin.ofNat 32 (slot2 w)))
  | 0x21 => row w .none .g .none .none [(4, 28)] <| reserved (Part.ofCode (field w 0 4)) fun part => .ok (.sput c part (Fin.ofNat 32 (slot2 w)))
  | _ => .error 0x03

/-- The instruction on core `c` that a word spells, or the detail of the first failing check (R195). -/
def decodeFz (c : CoreId) (w : Nat) : Except Nat Instr :=
  match field w 60 4 with
  | 0x0 => decodeClassC c w (field w 52 8)
  | 0x1 => decodeClassG c w (field w 52 8)
  | 0x2 => decodeClassL c w (field w 52 8)
  | 0x3 => decodeClassM c w (field w 52 8)
  | 0x4 => decodeClassV c w (field w 52 8)
  | 0x5 => decodeClassX c w (field w 52 8)
  | 0x6 => decodeClassD c w (field w 52 8)
  | 0x7 => decodeClassY c w (field w 52 8)
  | 0x8 => decodeClassT c w (field w 52 8)
  | 0xF => .error 0x02
  | _ => .error 0x01

/-- The word of an FZ instruction: class, opcode, four slots and the low 32 bits (R171, R172). -/
def word (cls op s1 s2 s3 s4 low : Nat) : Nat :=
  1152921504606846976 * cls + 4503599627370496 * op + 140737488355328 * s1 + 4398046511104 * s2
    + 137438953472 * s3 + 4294967296 * s4 + low

/-- The instruction word of an FZ instruction, from the tables of chapter 07; none for any other command. -/
def encodeFz : Instr → Option Nat
  | .nop _ => some (word 0x0 0x00 0 0 0 0 0)
  | .j _ off => some (word 0x0 0x01 0 0 0 0 off.toNat)
  | .jal _ gd off => some (word 0x0 0x02 gd.val 0 0 0 off.toNat)
  | .jr _ gs => some (word 0x0 0x03 0 gs.val 0 0 0)
  | .beq _ gs gt off => some (word 0x0 0x08 0 gs.val gt.val 0 off.toNat)
  | .bne _ gs gt off => some (word 0x0 0x09 0 gs.val gt.val 0 off.toNat)
  | .blt _ gs gt off => some (word 0x0 0x0A 0 gs.val gt.val 0 off.toNat)
  | .bge _ gs gt off => some (word 0x0 0x0B 0 gs.val gt.val 0 off.toNat)
  | .bltu _ gs gt off => some (word 0x0 0x0C 0 gs.val gt.val 0 off.toNat)
  | .bgeu _ gs gt off => some (word 0x0 0x0D 0 gs.val gt.val 0 off.toNat)
  | .endProg _ => some (word 0x0 0x0F 0 0 0 0 0)
  | .add _ gd gs gt => some (word 0x1 0x00 gd.val gs.val gt.val 0 0)
  | .sub _ gd gs gt => some (word 0x1 0x01 gd.val gs.val gt.val 0 0)
  | .mul _ gd gs gt => some (word 0x1 0x02 gd.val gs.val gt.val 0 0)
  | .mulh _ gd gs gt => some (word 0x1 0x03 gd.val gs.val gt.val 0 0)
  | .mulhu _ gd gs gt => some (word 0x1 0x04 gd.val gs.val gt.val 0 0)
  | .and _ gd gs gt => some (word 0x1 0x08 gd.val gs.val gt.val 0 0)
  | .or _ gd gs gt => some (word 0x1 0x09 gd.val gs.val gt.val 0 0)
  | .xor _ gd gs gt => some (word 0x1 0x0A gd.val gs.val gt.val 0 0)
  | .sll _ gd gs gt => some (word 0x1 0x0C gd.val gs.val gt.val 0 0)
  | .srl _ gd gs gt => some (word 0x1 0x0D gd.val gs.val gt.val 0 0)
  | .sra _ gd gs gt => some (word 0x1 0x0E gd.val gs.val gt.val 0 0)
  | .slt _ gd gs gt => some (word 0x1 0x10 gd.val gs.val gt.val 0 0)
  | .sltu _ gd gs gt => some (word 0x1 0x11 gd.val gs.val gt.val 0 0)
  | .min _ gd gs gt => some (word 0x1 0x14 gd.val gs.val gt.val 0 0)
  | .max _ gd gs gt => some (word 0x1 0x15 gd.val gs.val gt.val 0 0)
  | .minu _ gd gs gt => some (word 0x1 0x16 gd.val gs.val gt.val 0 0)
  | .maxu _ gd gs gt => some (word 0x1 0x17 gd.val gs.val gt.val 0 0)
  | .addi _ gd gs imm => some (word 0x1 0x40 gd.val gs.val 0 0 imm.toNat)
  | .andi _ gd gs imm => some (word 0x1 0x48 gd.val gs.val 0 0 imm.toNat)
  | .ori _ gd gs imm => some (word 0x1 0x49 gd.val gs.val 0 0 imm.toNat)
  | .xori _ gd gs imm => some (word 0x1 0x4A gd.val gs.val 0 0 imm.toNat)
  | .slli _ gd gs sh => some (word 0x1 0x4C gd.val gs.val 0 0 sh.toNat)
  | .srli _ gd gs sh => some (word 0x1 0x4D gd.val gs.val 0 0 sh.toNat)
  | .srai _ gd gs sh => some (word 0x1 0x4E gd.val gs.val 0 0 sh.toNat)
  | .slti _ gd gs imm => some (word 0x1 0x50 gd.val gs.val 0 0 imm.toNat)
  | .movi _ gd imm => some (word 0x1 0x60 gd.val 0 0 0 imm.toNat)
  | .movhi _ gd imm => some (word 0x1 0x61 gd.val 0 0 0 imm.toNat)
  | .ldB _ gd gs off => some (word 0x2 0x00 gd.val gs.val 0 0 off.toNat)
  | .ldBu _ gd gs off => some (word 0x2 0x01 gd.val gs.val 0 0 off.toNat)
  | .ldH _ gd gs off => some (word 0x2 0x02 gd.val gs.val 0 0 off.toNat)
  | .ldHu _ gd gs off => some (word 0x2 0x03 gd.val gs.val 0 0 off.toNat)
  | .ldW _ gd gs off => some (word 0x2 0x04 gd.val gs.val 0 0 off.toNat)
  | .ldWu _ gd gs off => some (word 0x2 0x05 gd.val gs.val 0 0 off.toNat)
  | .ldD _ gd gs off => some (word 0x2 0x06 gd.val gs.val 0 0 off.toNat)
  | .stB _ gs gt off => some (word 0x2 0x10 0 gs.val gt.val 0 off.toNat)
  | .stH _ gs gt off => some (word 0x2 0x11 0 gs.val gt.val 0 off.toNat)
  | .stW _ gs gt off => some (word 0x2 0x12 0 gs.val gt.val 0 off.toNat)
  | .stD _ gs gt off => some (word 0x2 0x13 0 gs.val gt.val 0 off.toNat)
  | .tdld _ tn gs off => some (word 0x2 0x20 tn.val gs.val 0 0 off.toNat)
  | .tdst _ tn gs off => some (word 0x2 0x21 tn.val gs.val 0 0 off.toNat)
  | .tdadd _ tn gs => some (word 0x2 0x22 tn.val gs.val 0 0 0)
  | .tdaddS _ tn gs => some (word 0x2 0x23 tn.val gs.val 0 0 0)
  | .mzero _ e ai => some (word 0x3 0x00 ai.val 0 0 0 (1073741824 * e.val))
  | .mzeroW _ e ai => some (word 0x3 0x01 ai.val 0 0 0 (1073741824 * e.val))
  | .mprime _ e tW => some (word 0x3 0x08 0 tW.val 0 0 (1073741824 * e.val))
  | .mswap _ e => some (word 0x3 0x09 0 0 0 0 (1073741824 * e.val))
  | .mma _ e ai r0 tA fmt grp prc => some (word 0x3 0x10 ai.val tA.val 0 0 (1073741824 * e.val + 65536 * r0.val + fmt.code + 256 * grp.code + 1024 * prc.toNat))
  | .mdrain _ e ai r0 tD gk gl fmt sr sat => some (word 0x3 0x18 ai.val tD.val gk.val gl.val (1073741824 * e.val + 65536 * r0.val + fmt.code + 2048 * sr.toNat + 4096 * sat.toNat))
  | .mdrainF32x2 _ e ai r0 tD gk gl => some (word 0x3 0x19 ai.val tD.val gk.val gl.val (1073741824 * e.val + 65536 * r0.val))
  | .vadd _ vd vs vt pk => some (word 0x4 0x00 vd.val vs.val vt.val 0 (536870912 * pk.val))
  | .vsub _ vd vs vt pk => some (word 0x4 0x01 vd.val vs.val vt.val 0 (536870912 * pk.val))
  | .vmul _ vd vs vt pk => some (word 0x4 0x02 vd.val vs.val vt.val 0 (536870912 * pk.val))
  | .vfma _ vd vs vt vu pk => some (word 0x4 0x03 vd.val vs.val vt.val vu.val (536870912 * pk.val))
  | .vdiv _ vd vs vt pk => some (word 0x4 0x04 vd.val vs.val vt.val 0 (536870912 * pk.val))
  | .vsqrt _ vd vs pk => some (word 0x4 0x05 vd.val vs.val 0 0 (536870912 * pk.val))
  | .vmin _ vd vs vt pk => some (word 0x4 0x06 vd.val vs.val vt.val 0 (536870912 * pk.val))
  | .vmax _ vd vs vt pk => some (word 0x4 0x07 vd.val vs.val vt.val 0 (536870912 * pk.val))
  | .vabs _ vd vs pk => some (word 0x4 0x08 vd.val vs.val 0 0 (536870912 * pk.val))
  | .vneg _ vd vs pk => some (word 0x4 0x09 vd.val vs.val 0 0 (536870912 * pk.val))
  | .vaddI _ vd vs vt pk => some (word 0x4 0x10 vd.val vs.val vt.val 0 (536870912 * pk.val))
  | .vsubI _ vd vs vt pk => some (word 0x4 0x11 vd.val vs.val vt.val 0 (536870912 * pk.val))
  | .vmulI _ vd vs vt pk => some (word 0x4 0x12 vd.val vs.val vt.val 0 (536870912 * pk.val))
  | .vmulh _ vd vs vt pk => some (word 0x4 0x13 vd.val vs.val vt.val 0 (536870912 * pk.val))
  | .vmulhU _ vd vs vt pk => some (word 0x4 0x14 vd.val vs.val vt.val 0 (536870912 * pk.val))
  | .vsll _ vd vs vt pk => some (word 0x4 0x15 vd.val vs.val vt.val 0 (536870912 * pk.val))
  | .vsrl _ vd vs vt pk => some (word 0x4 0x16 vd.val vs.val vt.val 0 (536870912 * pk.val))
  | .vsra _ vd vs vt pk => some (word 0x4 0x17 vd.val vs.val vt.val 0 (536870912 * pk.val))
  | .vand _ vd vs vt pk => some (word 0x4 0x18 vd.val vs.val vt.val 0 (536870912 * pk.val))
  | .vor _ vd vs vt pk => some (word 0x4 0x19 vd.val vs.val vt.val 0 (536870912 * pk.val))
  | .vxor _ vd vs vt pk => some (word 0x4 0x1A vd.val vs.val vt.val 0 (536870912 * pk.val))
  | .vaddISat _ vd vs vt pk => some (word 0x4 0x1C vd.val vs.val vt.val 0 (536870912 * pk.val))
  | .vsubISat _ vd vs vt pk => some (word 0x4 0x1D vd.val vs.val vt.val 0 (536870912 * pk.val))
  | .vperm _ vd vs vt pk => some (word 0x4 0x20 vd.val vs.val vt.val 0 (536870912 * pk.val))
  | .vsel _ vd vs vt pq pk => some (word 0x4 0x21 vd.val vs.val vt.val pq.val (536870912 * pk.val))
  | .vbcast _ vd gs pk => some (word 0x4 0x22 vd.val gs.val 0 0 (536870912 * pk.val))
  | .vext _ gd vs lane => some (word 0x4 0x23 gd.val vs.val 0 0 (lane.val))
  | .vcmp _ pd vs vt rel ty pk => some (word 0x4 0x28 pd.val vs.val vt.val 0 (rel.code + 8 * ty.code + 536870912 * pk.val))
  | .pand _ pd ps pt => some (word 0x4 0x29 pd.val ps.val pt.val 0 0)
  | .por _ pd ps pt => some (word 0x4 0x2A pd.val ps.val pt.val 0 0)
  | .pxor _ pd ps pt => some (word 0x4 0x2B pd.val ps.val pt.val 0 0)
  | .pnot _ pd ps => some (word 0x4 0x2C pd.val ps.val 0 0 0)
  | .vrsum _ vd vs pk => some (word 0x4 0x30 vd.val vs.val 0 0 (536870912 * pk.val))
  | .vrmax _ vd vs pk => some (word 0x4 0x31 vd.val vs.val 0 0 (536870912 * pk.val))
  | .vrmin _ vd vs pk => some (word 0x4 0x32 vd.val vs.val 0 0 (536870912 * pk.val))
  | .vrsumI _ vd vs pk => some (word 0x4 0x33 vd.val vs.val 0 0 (536870912 * pk.val))
  | .vexp2 _ vd vs pk => some (word 0x4 0x38 vd.val vs.val 0 0 (536870912 * pk.val))
  | .vexp2A _ vd vs pk => some (word 0x4 0x39 vd.val vs.val 0 0 (536870912 * pk.val))
  | .vlog2 _ vd vs pk => some (word 0x4 0x3A vd.val vs.val 0 0 (536870912 * pk.val))
  | .vlog2A _ vd vs pk => some (word 0x4 0x3B vd.val vs.val 0 0 (536870912 * pk.val))
  | .vrcp _ vd vs pk => some (word 0x4 0x3C vd.val vs.val 0 0 (536870912 * pk.val))
  | .vrcpA _ vd vs pk => some (word 0x4 0x3D vd.val vs.val 0 0 (536870912 * pk.val))
  | .vrsqrt _ vd vs pk => some (word 0x4 0x3E vd.val vs.val 0 0 (536870912 * pk.val))
  | .vrsqrtA _ vd vs pk => some (word 0x4 0x3F vd.val vs.val 0 0 (536870912 * pk.val))
  | .vsinpi _ vd vs pk => some (word 0x4 0x40 vd.val vs.val 0 0 (536870912 * pk.val))
  | .vcospi _ vd vs pk => some (word 0x4 0x41 vd.val vs.val 0 0 (536870912 * pk.val))
  | .vrand _ vd pk => some (word 0x4 0x48 vd.val 0 0 0 (536870912 * pk.val))
  | .vld _ vd gs off => some (word 0x4 0x50 vd.val gs.val 0 0 off.toNat)
  | .vst _ vs gs off => some (word 0x4 0x51 vs.val gs.val 0 0 off.toNat)
  | .vldx _ vd gs vt pk => some (word 0x4 0x52 vd.val gs.val vt.val 0 (536870912 * pk.val))
  | .vstx _ vs gs vt pk => some (word 0x4 0x53 vs.val gs.val vt.val 0 (536870912 * pk.val))
  | .xcvt _ dst src vd vs gk vx pk sr sat tz => some (word 0x5 0x00 vd.val vs.val gk.val vx.val
      (536870912 * pk.val + dst.code + 16 * src.code + 2048 * sr.toNat + 4096 * sat.toNat + 8192 * tz.toNat))
  | .dcopy _ tD tS gsem => some (word 0x6 0x00 tD.val tS.val gsem.val 0 0)
  | .dcopyR _ tD tS gsem gchip gdsem => some (word 0x6 0x01 tD.val tS.val gsem.val gchip.val (134217728 * gdsem.val))
  | .dcopyRed _ tD tS gsem fmt => some (word 0x6 0x08 tD.val tS.val gsem.val 0 (fmt.code))
  | .dcopyRedR _ tD tS gsem gchip gdsem fmt => some (word 0x6 0x09 tD.val tS.val gsem.val gchip.val (134217728 * gdsem.val + fmt.code))
  | .dhash _ gd tS gsem => some (word 0x6 0x10 gd.val tS.val gsem.val 0 0)
  | .semAdd _ gs gv => some (word 0x7 0x00 0 gs.val gv.val 0 0)
  | .semAddRel _ gs gv => some (word 0x7 0x01 0 gs.val gv.val 0 0)
  | .semWait _ gs gn => some (word 0x7 0x08 0 gs.val gn.val 0 0)
  | .semWaitAcq _ gs gn => some (word 0x7 0x09 0 gs.val gn.val 0 0)
  | .semAcq _ gs gn => some (word 0x7 0x0A 0 gs.val gn.val 0 0)
  | .semSet _ gs gv => some (word 0x7 0x0C 0 gs.val gv.val 0 0)
  | .semAddR _ gs gv gchip => some (word 0x7 0x02 0 gs.val gv.val gchip.val 0)
  | .semAddRRel _ gs gv gchip => some (word 0x7 0x03 0 gs.val gv.val gchip.val 0)
  | .fenceCore _ => some (word 0x7 0x10 0 0 0 0 0)
  | .fenceCluster _ => some (word 0x7 0x11 0 0 0 0 0)
  | .fenceDie _ => some (word 0x7 0x12 0 0 0 0 0)
  | .fenceSys _ => some (word 0x7 0x13 0 0 0 0 0)
  | .nstatSat _ gd => some (word 0x8 0x00 gd.val 0 0 0 0)
  | .nstatFlush _ gd => some (word 0x8 0x01 gd.val 0 0 0 0)
  | .nstatNan _ gd => some (word 0x8 0x02 gd.val 0 0 0 0)
  | .nstatInf _ gd => some (word 0x8 0x03 gd.val 0 0 0 0)
  | .nstatStat _ gd => some (word 0x8 0x04 gd.val 0 0 0 0)
  | .ptime _ gd => some (word 0x8 0x08 gd.val 0 0 0 0)
  | .ptimeV _ gd => some (word 0x8 0x09 gd.val 0 0 0 0)
  | .lstat _ gl => some (word 0x8 0x10 0 gl.val 0 0 0)
  | .seed _ gj gs => some (word 0x8 0x18 0 gj.val gs.val 0 0)
  | .sget _ part ga => some (word 0x8 0x20 0 ga.val 0 0 (part.code))
  | .sput _ part ga => some (word 0x8 0x21 0 ga.val 0 0 (part.code))
  | _ => none

end Sys2Proof
end

