-- ==== Sys2Proof/Config.lean ====
section
/-! DEFINITION. What the manual leaves open and what it takes from other published standards without giving
the computation. Every constant here is opaque: no proof can see its value, so whatever is proved holds for
every value of it (log entries 2, 3 and 4). -/

namespace Sys2Proof.Config

/-- The `n`-th free word: a value the device chooses and the manual does not state (random draws at boot,
undefined results). -/
opaque freeWord : Nat → Word
/-- The `n`-th free choice between two behaviours the manual allows. -/
opaque freeBool : Nat → Bool
/-- ML-DSA-44 verification (FIPS 204) of a signature over a message under a public key. -/
opaque mldsaVerify (key message signature : Bytes) : Bool
/-- The alias key's ML-DSA-44 signature over a message, at the running security version (19 R499, R503). -/
opaque aliasSign (measurement : Bytes) (svn : Nat) (message : Bytes) : Bytes
/-- ML-KEM-768 decapsulation (FIPS 203) under the device's KEM key; none where it fails (19 R521). -/
opaque kemDecapsulate (ciphertext : Bytes) : Option Bytes
/-- The device's KEM encapsulation key (19 R499). -/
opaque kemPublicKey : Bytes
/-- The owner MAC key (19 R499). -/
opaque ownerMacKey : Bytes
/-- AES-256-GCM opening: key, IV, associated data, ciphertext, tag (19 R520). -/
opaque gcmOpen (key iv aad ciphertext tag : Bytes) : Option Bytes
/-- AES-256-GCM sealing: the ciphertext and the tag (11 R313). -/
opaque gcmSeal (key iv aad plaintext : Bytes) : Bytes × Bytes
/-- A fresh ML-KEM-768 encapsulation key from a random value (19 R517). -/
opaque kemFresh : Word → Bytes
/-- The ciphertext to an encapsulation key from a random value, and the secret that the two ends then share: as the end that
encapsulates has it, and as the end that made the key recovers it (19 R517, R518). -/
opaque kemCipher (seed : Word) (key : Bytes) : Bytes
/-- See `kemCipher`. -/
opaque kemSecretSent (seed : Word) (key : Bytes) : Bytes
/-- See `kemCipher`. -/
opaque kemSecretGot (seed : Word) (ciphertext : Bytes) : Bytes
/-- A 32-byte nonce from a random value (19 R517). -/
opaque linkNonce : Word → Bytes
/-- The bytes that a certificate chain at the head of a message takes (19 R503, R517). -/
opaque chainLength : Bytes → Nat
/-- The certificate chain of slot 0 (19 R503). -/
opaque certificateChain : Bytes
/-- The body of an SPDM response beyond what the manual states, by request code (19 R502, DSP0274). -/
opaque spdmBody (code : Nat) (input : Bytes) : Bytes
/-- Version, security version and verified content of a firmware image (17 R480): none where the image does
not verify. The result is its version and its security version. -/
opaque firmwareVerify (component : Nat) (image : Bytes) : Option (Nat × Nat)
/-- Firmware versions of the images a new module carries, by component. -/
opaque factoryVersion (component : Nat) : Nat
/-- SHA3-256 digests of the images a new module carries, by component. -/
opaque factoryDigest (component : Nat) : Bytes
/-- Boot nonces that the security core draws (11 R307), by draw. -/
opaque bootNonce : Nat → Word
/-- Reset generations that the security core draws (14 R399), by draw and context. -/
opaque resetGeneration : Nat → Nat → BitVec 8

/-- Clock edges between two congestion notifications of a queue pair (13 R383): DCQCN's own, which the manual does not restate. -/
opaque cnpGap : Nat
/-- The DRAM row that holds the line at a physical address; the manual does not give the geometry (08 R216). -/
opaque dramRow (line : Nat) : Nat
/-- The bank of a DRAM row (08 R216). -/
opaque dramBank (row : Nat) : Nat
/-- The group of a hawk queue (15 R435): 0 core, 1 cluster, 2 die, 3 pass-through; the manual does not number the queues. -/
opaque hawkGroup (q : Nat) : Fin 4
/-- The checksum term of a weight that is a NaN or an infinity (04 R103, R104), by its code. -/
opaque specialCheck (code : Nat) : Int

end Sys2Proof.Config
end

