-- ==== Sys2Proof/Machine/Table.lean ====
section
/-! DEFINITION. Sparse tables in one canonical form: the container of every indexed piece of state (memory
bytes, registers, cores, queues). The keys rise strictly and no row holds the default, so equal contents are
equal data (DESIGN CHOICE, log entry 5). -/

namespace Sys2Proof.Machine

/-- Rows of (key, value), keys strictly rising, no value equal to the default. Memory is a table of bytes, so
its rows are a list of `Host.Cell`. -/
structure Table (α : Type) where
  rows : List (Nat × α)
  deriving DecidableEq, Repr

variable {α : Type}

/-- The table that lists nothing: every key reads as the default. -/
def Table.empty : Table α := ⟨[]⟩

/-- The value a list of rows holds at `k`, or `d`. -/
def Table.find (d : α) (k : Nat) : List (Nat × α) → α
  | [] => d
  | (j, v) :: rest => if j = k then v else Table.find d k rest

/-- The value at key `k`, where an unlisted key reads as `d`. -/
def Table.get (t : Table α) (d : α) (k : Nat) : α := Table.find d k t.rows

/-- Insert, replace or (for the default) drop the row of `k`, keeping keys rising. -/
def Table.put [DecidableEq α] (d : α) (k : Nat) (v : α) : List (Nat × α) → List (Nat × α)
  | [] => if v = d then [] else [(k, v)]
  | (j, w) :: rest =>
    if k < j then (if v = d then (j, w) :: rest else (k, v) :: (j, w) :: rest)
    else if k = j then (if v = d then rest else (k, v) :: rest)
    else (j, w) :: Table.put d k v rest

/-- The table with `v` at `k`. -/
def Table.set [DecidableEq α] (t : Table α) (d : α) (k : Nat) (v : α) : Table α := ⟨Table.put d k v t.rows⟩

/-- The table with `f` applied to the value at `k`. -/
def Table.update [DecidableEq α] (t : Table α) (d : α) (k : Nat) (f : α → α) : Table α :=
  t.set d k (f (t.get d k))

/-- The table with `f k` written at each key of `ks`, in order. -/
def Table.setAll [DecidableEq α] (t : Table α) (d : α) (ks : List Nat) (f : Nat → α) : Table α :=
  ks.foldl (fun t k => t.set d k (f k)) t

/-- The table whose keys below `n` hold what `f` gives. -/
def Table.ofFn [DecidableEq α] (n : Nat) (d : α) (f : Nat → α) : Table α :=
  ⟨(List.range n).filterMap fun k => if f k = d then none else some (k, f k)⟩

/-- The table with `f` applied to every value that it lists; the default stays as it is. -/
def Table.mapAll [DecidableEq α] (t : Table α) (d : α) (f : α → α) : Table α :=
  ⟨(t.rows.map fun r => (r.1, f r.2)).filter fun r => decide (r.2 ≠ d)⟩

/-- The table without the values that fail `p`. -/
def Table.keep (t : Table α) (p : α → Bool) : Table α := ⟨t.rows.filter fun r => p r.2⟩

/-- The rows whose key fails `p`. -/
def Table.drop (t : Table α) (p : Nat → Bool) : Table α := ⟨t.rows.filter fun r => !p r.1⟩

/-- Keys strictly rising. -/
def Table.rising : List (Nat × α) → Bool
  | [] => true
  | [_] => true
  | a :: b :: rest => decide (a.1 < b.1) && Table.rising (b :: rest)

/-- The canonical form: keys strictly rising, no row equal to the default. -/
def Table.wf [DecidableEq α] (t : Table α) (d : α) : Bool :=
  Table.rising t.rows && t.rows.all fun r => decide (r.2 ≠ d)

end Sys2Proof.Machine
end

