-- ==== Sys2Proof/Machine/State.lean ====
section
/-! DEFINITION. The state of the block, as plain data, and the state right after reset.

Every field names the rule of the manual that gives it. A register that software reads whole is kept as its
word; named accessors for its fields stand in Machine/Bits.lean and in the unit that uses it. -/

namespace Sys2Proof.Machine

/-! ## Memory (chapter 08) -/

/-- The bytes of DRAM and of the stores, by device address: rows of `Host.Cell`. An unlisted byte reads 0
(DESIGN CHOICE, log entry 6). -/
abbrev Memory := Table Byte

/-- What an unlisted byte reads as (DESIGN CHOICE, log entry 6). -/
abbrev Memory.unlisted : Byte := 0

/-- The canonical form of memory. -/
def Memory.wf (m : Memory) : Bool := Table.wf m Memory.unlisted

/-! ## Cores (chapters 04 to 07) -/

/-- A tile descriptor (06 Tile descriptors, 07 R192). -/
structure TileDesc where
  fmt : Fmt
  base : BitVec 48
  rows : Nat
  cols : Nat
  rstride : Nat
  sbase : BitVec 48
  sstride : Nat
  deriving DecidableEq, Repr

/-- The shape record of a weight bank (04 Dataflow). -/
structure Shape where
  fmt : Fmt
  contraction : Nat
  columns : Nat
  deriving DecidableEq, Repr

/-- A weight bank: cells by `64 * row + column`, scales by `8 * column + block`, scrim checksums by
`4 * row + slot`, the shape record (none: empty), the poison mark, and by scale the parity bits that disagree with their
byte (04 R97, R103, R104, R106, 15 R426). -/
structure Bank where
  cells : Table (BitVec 16)
  scales : Table Byte
  c0 : Table Int
  c1 : Table Int
  shape : Option Shape
  poison : Bool
  scaleBad : Table Bool
  deriving DecidableEq, Repr

/-- An empty bank (04 R101). -/
def Bank.reset : Bank := ⟨.empty, .empty, .empty, .empty, none, false, .empty⟩

/-- A physical fault that the next row of an engine meets, with the row of the MMA and the column whose partial it
upsets: a column's sum of a unit wrong by `diff`, two copies of an adder that differ, or an activation scale byte whose
parity fails on its way to the columns (04 R103 to R107). No command sets one: the field lets statements cover the engine's
answer to it (DESIGN CHOICE, log entry 8). -/
inductive EngineUpset where
  | scrim (unit row col : Nat) (diff : Int)
  | dup (unit row col : Nat)
  | scaleParity (row col : Nat)
  deriving DecidableEq, Repr

/-- The row and the column that the fault upsets. -/
def EngineUpset.site : EngineUpset → Nat × Nat
  | .scrim _ row col _ => (row, col)
  | .dup _ row col => (row, col)
  | .scaleParity row col => (row, col)

/-- Feather-mode admission of an engine (04 R110): the duty level in eighths and what the engine is doing. -/
inductive Feather where
  | idle
  | rampUp (level : Nat)
  | steady (level : Nat)
  | rampDown (level : Nat)
  deriving DecidableEq, Repr

/-- One engine. `acc` holds word `w` of column `n` at `512 * n + w`; bit `i` of `wide` and of `tilePoison`
belongs to tile `ai` (03 R80, 04 R94, R107). -/
structure EngineSt where
  active : Bank
  shadow : Bank
  acc : Table Word
  accPoison : Table Bool
  accParityBad : Table Bool
  wide : BitVec 8
  tilePoison : BitVec 8
  upset : Option EngineUpset
  feather : Feather
  /-- MMAs issued to the engine since a stripback capture was armed (04 R113). -/
  stbCount : Nat
  deriving DecidableEq, Repr

/-- An engine after a core reset (04 R101, 14 R398). -/
def EngineSt.reset : EngineSt :=
  ⟨.reset, .reset, .empty, .empty, .empty, 0, 0, none, .idle, 0⟩

/-- What a fault record holds before it is written to SEQ_FLT0 to SEQ_FLT3 (06 R168, R170). -/
structure FaultRec where
  cause : Nat
  detail : Nat
  unit : Nat
  eng : Nat
  prec : Nat
  lane : Nat
  pc : Addr
  addr : BitVec 48
  chip : BitVec 16
  insn : Word
  more : Bool
  deriving DecidableEq, Repr

/-- What SEQ_STAT.state says of a core (06 R170). -/
inductive SeqState where
  | idle | running | ownFault | ctxStopped
  deriving DecidableEq, Repr

/-- The three waits a core can be held at (06 R163). -/
inductive WaitKind where
  | wait | waitAcq | acq
  deriving DecidableEq, Repr

/-- What holds the issue of a core (06 R163, R164). -/
inductive Hold where
  | none
  | fence (k : FenceKind)
  | endWait
  | sem (k : WaitKind) (sem : SemId) (name target : Word) (pc : Addr)
  /-- An issued instruction waits in its unit for a self-test visit to end (04 R108, 05 R144, 15 R437). -/
  | visit (i : Instr)
  deriving DecidableEq, Repr

/-- A data-mover operation on this die, from its issue to its completion (06 R159, R160). -/
inductive MoverKind where
  | copy
  | reduce (fmt : Fmt)
  | hash (digestAt : BitVec 48)
  deriving DecidableEq, Repr

/-- One operation of a core's data mover: `pages` maps the 2 MiB page of a context address to the physical
page the mover translated it to before it moved a byte (06 R159); `before` and `beforePoison` are memory as it stood at its
issue, which a word that another access races for may still hold (06 R155; DEDUCED, log entry 167); `hurt` says that a hawk queue reset may have
ended requests of it (15 R434). -/
structure MoverOp where
  id : Nat
  kind : MoverKind
  src : TileDesc
  dst : TileDesc
  pages : Table Nat
  gsem : Option SemId
  pc : Addr
  insn : Word
  before : Memory
  beforePoison : Table Bool
  hurt : Bool
  deriving DecidableEq, Repr

/-- What a check finds in the state of a sequencer at its next use: a word of the instruction cache, which is fetched again, or
state with no poison path (15 R423, 14 Ladder). -/
inductive SeqUpset where
  | cacheWord | lost
  deriving DecidableEq, Repr

/-- A semaphore operation that the port of a core still holds behind a release (09 R237, R238). `before` bounds
the data-mover and remote operations that precede a release; `msg` names a remote add, `release` one that is a release. -/
inductive PortOp where
  | add (sem : SemId) (value : Word)
  | addRel (sem : SemId) (value : Word) (before : Nat)
  | addRemote (msg : BitVec 16) (release : Bool)
  | set (sem : SemId) (value : Word) (pc : Addr) (insn : Word)
  | wait (k : WaitKind) (sem : SemId) (name target : Word) (pc : Addr)
  deriving DecidableEq, Repr

/-- What a launch gave the core (10 R278, 06 R148, R149): the queue and branch it works for, the pinned text, and
the results counted in each class since its start, until the core has ended its part (`done`) (02 R58). -/
structure CoreLaunch where
  sq : Nat
  branch : Nat
  chipIndex : Nat
  textBase : BitVec 48
  textLen : Nat
  sat : Nat
  flush : Nat
  nan : Nat
  inf : Nat
  done : Bool
  deriving DecidableEq, Repr

/-- A line of the read-combining buffer (09 R236): its address, its bytes and the poison of its words. -/
structure BufLine where
  line : Nat
  data : Bytes
  poison : List Bool
  deriving DecidableEq, Repr

/-- One core. `v` holds lane `i` of `vr` at `256 * r + i`. -/
structure CoreSt where
  g : Table Word
  v : Table Word32
  vPoison : Table Bool
  p : Table (BitVec 256)
  t : Table (Option TileDesc)
  pc : Addr
  engines : Table EngineSt
  stipple : Table Word
  seeded : Bool
  stpMism : Bool
  stpFirstLane : BitVec 8
  stpBusy : Bool
  /-- A lane whose next draw finds its two generator copies different (05 R143; DESIGN CHOICE, log entry 8). -/
  stpUpset : Option Nat
  /-- A lane whose next vector result fails its check, and the path: 0 parity, 1 residue, 2 duplicate (05 R142,
  R143; DESIGN CHOICE, log entry 8). -/
  vecUpset : Option (Nat × Nat)
  /-- The sequencer's next check fails; the addressing of the mover's next operation fails its residue (15 R423; DESIGN CHOICE,
  log entry 8). -/
  seqUpset : Option SeqUpset
  moverUpset : Bool
  ntmSat : Word
  ntmFlush : Word
  ntmNan : Word
  ntmInf : Word
  ntmStat : Word
  poisonSeen : Bool
  stbCtl : Word
  stbCap : Table Word
  seqState : SeqState
  seqCtx : BitVec 6
  seqDirect : Bool
  flt0 : Word
  flt1 : Word
  flt2 : Word
  flt3 : Word
  hold : Hold
  mover : List MoverOp
  moverNext : Nat
  port : List PortOp
  /-- A fault detected, not yet recorded (06 R168). -/
  fault : Option FaultRec
  /-- Issue has been stopped by the context, or by a fence of the context (06 R168, 14 R397). -/
  stopping : Bool
  launch : Option CoreLaunch
  readBuf : List BufLine
  deriving DecidableEq, Repr

/-- A core after reset (05 R139, 06 R150, R170, 02 R57, 04 R113). -/
def CoreSt.reset : CoreSt where
  g := .empty
  v := .empty
  vPoison := .empty
  p := .empty
  t := .empty
  pc := 0
  engines := .empty
  stipple := .empty
  seeded := false
  stpMism := false
  stpFirstLane := 0
  stpBusy := false
  stpUpset := none
  vecUpset := none
  seqUpset := none
  moverUpset := false
  ntmSat := 0
  ntmFlush := 0
  ntmNan := 0
  ntmInf := 0
  ntmStat := 0
  poisonSeen := false
  stbCtl := 0
  stbCap := .empty
  seqState := .idle
  seqCtx := 0
  seqDirect := false
  flt0 := 0
  flt1 := 0
  flt2 := 0
  flt3 := 0
  hold := .none
  mover := []
  moverNext := 0
  port := []
  fault := none
  stopping := false
  launch := none
  readBuf := []

/-! ## Latent errors and semaphores (chapters 08, 09) -/

/-- An error latent in a store word or a DRAM line, that its next read finds (08 R202, R211): correctable with
its syndrome or symbol, or uncorrectable. No command sets one (DESIGN CHOICE, log entry 8). -/
inductive Latent where
  | sound
  | correctable (syndrome : Nat)
  | uncorrectable (syndrome : Nat)
  deriving DecidableEq, Repr

/-- Who waits at a semaphore (09 R249, 10 R277). -/
inductive Agent where
  | core (c : CoreId)
  | queue (q : SqId)
  deriving DecidableEq, Repr

/-- A registered waiter (09 R249). -/
structure Waiter where
  who : Agent
  kind : WaitKind
  target : Word
  tick : Word
  deriving DecidableEq, Repr

/-- An operation that has reached a semaphore and is not yet applied (09 R246, R247). `rank` is its arrival
port's place in the order of R246. -/
inductive SemArrival where
  | add (rank : Nat) (ctx : CtxId) (name value : Word)
  | set (rank : Nat) (c : CoreId) (value : Word) (pc : Addr) (insn : Word)
  | wait (rank : Nat) (who : Agent) (kind : WaitKind) (name target : Word) (pc : Addr)
  deriving DecidableEq, Repr

/-- A semaphore: its value, its waiters in order of registration, what has arrived, and an error that its word's next use finds:
correctable (`some true`) or not (15 R423; DESIGN CHOICE, log entry 8). -/
structure Sem where
  value : Word
  waiters : List Waiter
  arrivals : List SemArrival
  upset : Option Bool
  deriving DecidableEq, Repr

/-- A semaphore at 0 with no waiter (09 R244). -/
def Sem.reset : Sem := ⟨0, [], [], none⟩

/-! ## Contexts, queues, images (chapters 08 to 10, 14, 16) -/

/-- A generation of a graph image (10 R285, R286): its number, the context address of its header, its text,
its digest, its pins and the physical 2 MiB pages that R288 protects. -/
structure Gen where
  num : Nat
  header : Nat
  textLen : Nat
  tslCount : Nat
  digest : Bytes
  pins : Nat
  pages : List Nat
  /-- Physical 2 MiB page behind each page of the header, text and list, as mapped when it was created. -/
  map : Table Nat
  deriving DecidableEq, Repr

/-- An image ID: its live generations, oldest first, and the highest number used since it was loaded. -/
structure Image where
  gens : List Gen
  highest : Nat
  deriving DecidableEq, Repr

/-- No image under this ID. -/
def Image.none : Image := ⟨[], 0⟩

/-- The context fault of 06 R169: the core, cause, detail and pc named, and the clock of its signal. -/
structure CtxFault where
  core : CoreId
  cause : Nat
  detail : Nat
  pc : Addr
  clk : Nat
  deriving DecidableEq, Repr

/-- The reset rungs of a context (14 R414). -/
inductive Rung where
  | context | core | partition
  deriving DecidableEq, Repr

/-- A reset in progress (14 R396, R409): its rung and, for a core rung, its cores. -/
structure ResetRun where
  rung : Rung
  cores : List CoreId
  start : Nat
  deriving DecidableEq, Repr

/-- The open run of a kind 0x03 journal record (16 R466): first and next physical address, the bytes so far,
whether one arrived poisoned, and the clock of the last write. -/
structure JournalRun where
  first : Nat
  next : Nat
  data : Bytes
  poisoned : Bool
  clk : Nat
  deriving DecidableEq, Repr

/-- One hardware context: its registers and what the front end keeps for it. -/
structure Ctx where
  gfeCtx : Word
  gfeBdt : Word
  atuPtb : Word
  atuFlt : Word
  semAllot : Word
  rstCore : BitVec 8
  rstLast : BitVec 3
  tainted : Bool
  gen : BitVec 8
  late : Nat
  genHeld : List (BitVec 8 × Nat)
  genAging : Bool
  resetRun : Option ResetRun
  jnlCtl : Word
  jnlBase : Word
  jnlHead : Word
  jnlTail : Nat
  jnlGap : Bool
  jnlGapPending : Bool
  jnlLost : Nat
  jnlSeq : BitVec 32
  jnlRun : Option JournalRun
  images : Table Image
  fault : Option CtxFault
  /-- A core has signalled its fault and the front end has not yet acted (06 R168). -/
  faultRaised : Bool
  /-- A timeout stopped the context's commands (10 R292). -/
  hung : Bool
  /-- TDISP or the security core fences the context (13 R380, 14 R407). -/
  fenced : Bool
  /-- Frames frozen by LOCK_INTERFACE or held by a stopping TDI (19 R510, R514). -/
  frozen : Bool
  blockedSince : Option Word
  deadlockFired : Bool
  deriving DecidableEq, Repr

/-- A context after reset (08 R224 to R226, 09 R245, 10 R262, R264, 14 R414, 16 R468). -/
def Ctx.reset : Ctx where
  gfeCtx := 0
  gfeBdt := 0
  atuPtb := 0
  atuFlt := 0
  semAllot := 0
  rstCore := 0
  rstLast := 0
  tainted := false
  gen := 0
  late := 0
  genHeld := []
  genAging := false
  resetRun := none
  jnlCtl := 0xA00
  jnlBase := 0
  jnlHead := 0
  jnlTail := 0
  jnlGap := false
  jnlGapPending := false
  jnlLost := 0
  jnlSeq := 0
  jnlRun := none
  images := .empty
  fault := none
  faultRaised := false
  hung := false
  fenced := false
  frozen := false
  blockedSince := none
  deadlockFired := false

/-- The states of a submission queue (10 R291). -/
inductive SqState where
  | disabled | idle | active | waiting | halted | stalledCpl | hung
  deriving DecidableEq, Repr

/-- A branch of a launch (10 R282, R283); a LAUNCH is one branch. Cores are die-level logical indices. -/
structure Branch where
  index : Nat
  image : Nat
  gen : Nat
  entry : BitVec 48
  textBase : BitVec 48
  textLen : Nat
  args : Word
  cores : List CoreId
  weight : Nat
  done : Bool
  deriving DecidableEq, Repr

/-- A LAUNCH or COLAUNCH that has passed its checks (10 R278, R279, R283). -/
structure LaunchRun where
  branches : List Branch
  chipIndex : Nat
  startAt : Word
  stamp : Nat
  assigned : Bool
  started : Bool
  isCo : Bool
  deriving DecidableEq, Repr

/-- An end of a COPY: host memory or context DRAM (10 R265). -/
inductive CopyEnd where
  | host (addr : Nat)
  | dram (addr : Nat)
  deriving DecidableEq, Repr

/-- A COPY in progress (10 R276): what is still to be issued, what is outstanding, the lowest failed offset. -/
structure CopyRun where
  src : CopyEnd
  dst : CopyEnd
  len : Nat
  pages : Table Nat
  next : Nat
  outstanding : Nat
  failedAt : Option Nat
  poisoned : Bool
  received : Table Byte
  /-- Offsets of bytes whose read failed, and of bytes that arrived poisoned. -/
  lost : Table Bool
  tainted : Table Bool
  deriving DecidableEq, Repr

/-- The work of a command in progress. -/
inductive CmdWork where
  | waitSem (sem : SemId) (name target : Word)
  | launch (l : LaunchRun)
  | copy (r : CopyRun)
  | completing
  deriving DecidableEq, Repr

/-- A command in progress (10 R271): its 64 bytes, its start, the generations it pins (image and number), and
its work. -/
structure CmdRun where
  bytes : Bytes
  opcode : Nat
  tag : Word
  irq : Bool
  tStart : Word
  startClk : Nat
  pins : List (Nat × Nat)
  work : CmdWork
  deriving DecidableEq, Repr

/-- A submission queue (10 R266). -/
structure Sq where
  base : Word
  ctl : Word
  state : SqState
  fetchErr : Bool
  head : Nat
  tail : Nat
  lastErr : BitVec 8
  cmd : Option CmdRun
  /-- An entry in the holding slot, and the order in which it was held (10 R289). -/
  heldEntry : Option Bytes
  heldOrder : Nat
  /-- On ack the queue returns to HALTED (10 R290). -/
  haltAtAck : Bool
  deriving DecidableEq, Repr

/-- A submission queue after reset (10 R266). -/
def Sq.reset : Sq where
  base := 0
  ctl := 0x0000EA60_00001000
  state := .disabled
  fetchErr := false
  head := 0
  tail := 0
  lastErr := 0
  cmd := none
  heldEntry := none
  heldOrder := 0
  haltAtAck := false

/-- A completion waiting to be written (10 R269, R289): the queue it belongs to, its status and its fields
before head, phase and t_end are known. -/
structure Cpl where
  sq : SqId
  tag : Word
  status : Nat
  branch : Nat
  fault : Option CtxFault
  info : Word
  tStart : Word
  sat : Nat
  flush : Nat
  nan : Nat
  inf : Nat
  gen : Nat
  irq : Bool
  /-- The last entry of its command. -/
  final : Bool
  deriving DecidableEq, Repr

/-- A completion queue (10 R268). `inflight` is the host write that carries its next entry, `entry` that entry's
bytes; `failed` says that the write has failed and the entry is to be orphaned (R289). -/
structure Cq where
  base : Word
  ctl : Word
  head : Nat
  tail : Nat
  phase : Bool
  waiting : List Cpl
  inflight : Option Nat
  entry : Bytes
  failed : Bool
  deriving DecidableEq, Repr

/-- A completion queue after reset (10 R268). -/
def Cq.reset : Cq := ⟨0, 0x40, 0, 0, true, [], none, [], false⟩

/-! ## Error log, self-test, hawk queues (chapter 15) -/

/-- The key of a coalescing window (15 R445) and what has fallen in it. -/
structure ErrWindow where
  cause : Nat
  loc : Nat
  lidx : Nat
  pos : Nat
  sev : Nat
  opened : Nat
  last : Bytes
  lastTime : Word
  count : Nat
  deriving DecidableEq, Repr

/-- The error log (15 R441 to R449): the ring, by slot, and the unredacted copies the security core holds. -/
structure ErrLog where
  ring : Table (List Byte)
  head : Nat
  tail : Nat
  ovf : Bool
  seq : BitVec 32
  lost : Table Nat
  windows : List ErrWindow
  unredacted : Table (List Byte)
  deriving DecidableEq, Repr

/-- An empty log. -/
def ErrLog.reset : ErrLog := ⟨.empty, 0, 0, false, 0, .empty, [], .empty⟩

/-- The self-test rotor (15 R436 to R439). `eng`, `vec` and `stk` give the next unit and the clock at which
its visit falls due; `passed*` count visits on time since the last breach. -/
structure Bst where
  intCtl : Word
  late : Bool
  fails : Nat
  engNext : Nat
  vecNext : Nat
  stkNext : Nat
  engDue : Nat
  vecDue : Nat
  stkDue : Nat
  /-- Visits that have fallen due: the clock, and whether 100 ms passed before the start. -/
  due : List (BstUnit × Nat × Bool)
  visiting : List (BstUnit × Bool)
  passedEng : Nat
  passedVec : Nat
  passedStk : Nat
  /-- Contexts that ran on a unit since its previous passing visit, by engine `4 * core + e` and by core
  (15 R438). -/
  ranEng : Table (List CtxId)
  ranVec : Table (List CtxId)
  /-- Of a stack's Keccak engines. -/
  ranStk : Table (List CtxId)
  deriving DecidableEq, Repr

/-- The rotor after chip reset. -/
def Bst.reset : Bst :=
  ⟨0, false, 0, 0, 0, 0, 614400, 2457600, 38400000, [], [], 0, 0, 0, .empty, .empty, .empty⟩

/-- A word in a hawk-queue bank: its data and its parity bit (15 R431). -/
structure HawkWord where
  data : Word
  parity : Bool
  deriving DecidableEq, Repr

/-- A hawk queue (15 R431 to R435): the producer's bank, the consumer's bank, the count the producer recorded
at the last toggle, the words the consumer drained since, the lap bit of each bank's words, the toggles so far, the mode in
force, the write and the read pointer with their second copies, the words delivered with their poison tags, the clock before
which it accepts nothing after a reset, and the contexts whose requests passed through the bank. -/
structure Hawk where
  fill : List HawkWord
  drain : List HawkWord
  depth : Nat
  ended : Bool
  recorded : Nat
  drained : Nat
  lap : Bool
  drainLap : Bool
  toggles : Nat
  dual : Bool
  writePtr : Nat
  writeCopy : Nat
  readPtr : Nat
  readCopy : Nat
  delivered : List (Word × Bool)
  openAt : Nat
  ctxs : List CtxId
  deriving DecidableEq, Repr

/-- An empty queue. -/
def Hawk.reset : Hawk := ⟨[], [], 16, false, 0, 0, false, false, 0, false, 0, 0, 0, 0, [], 0, []⟩

/-! ## Apbor ports and the fabric (chapters 11, 12) -/

/-- Port states (11 Training and identity). -/
inductive LinkState where
  | disabled | detect | equalise | laneMap | identify | active | quarantine | fastRetrain | down
  deriving DecidableEq, Repr

/-- How far a key agreement has come (19 R517). -/
inductive KeyAgreement where
  | none | awaitM1 | awaitM2 | awaitM3
  deriving DecidableEq, Repr

/-- The last PLUMB frame of a neighbour (12 R354, R355) and when it came. -/
structure PlumbSeen where
  info : PlumbInfo
  arrive : Word
  clk : Nat
  deriving DecidableEq, Repr

/-- A packet that waits at an output port, with the channel of its hop (12 R334, R336). -/
structure QueuedPkt where
  vc : Nat
  k : Pkt
  deriving DecidableEq, Repr

/-- A flit group that has been sent and is not acknowledged: its bytes as they went out, sealed on a sealed link, and the flits of
it that begin a packet (11 R302, R313). -/
structure SentGroup where
  seq : BitVec 12
  image : Bytes
  starts : List Nat
  deriving DecidableEq, Repr

/-- What of a packet has arrived: its flits so far and the flits still to come (11 R304, 12 R329). -/
structure PartPkt where
  bytes : Bytes
  left : Nat
  deriving DecidableEq, Repr

/-- One Apbor port (11 R293 to R321). -/
structure Port where
  ctl : Word
  state : LinkState
  qReason : BitVec 3
  sealed : Bool
  ver : BitVec 2
  degr : Bool
  qev : Bool
  downEv : Bool
  peerReset : Bool
  peer : Word
  peerV : Word
  haveRecord : Bool
  record : Option IdRecord
  nonce : Word
  localVerdict : Bool
  peerVerdict : Bool
  rxUsed : BitVec 17
  txUsed : BitVec 17
  rxHalf : Bool
  txHalf : Bool
  ceSym : Nat
  ueCw : Nat
  crcFail : Nat
  fastRt : Nat
  fullRt : Nat
  /-- Sequence number of the next group sent, and the groups sent and not acknowledged, oldest first. -/
  txSeq : BitVec 12
  replay : List SentGroup
  /-- Next sequence number expected; the last good one is one below. -/
  rxSeq : BitVec 12
  gotAny : Bool
  nakSent : Bool
  /-- The next group sent carries a nak, and has an ack to give (11 R302). -/
  nakDue : Bool
  ackDue : Bool
  /-- Failures in a row of the number expected next, and whether it has failed its tag (11 R305, R314). -/
  failCount : Nat
  tagFailed : Bool
  lastAckClk : Nat
  fastTimes : List Nat
  /-- The state a fast retrain returns to. -/
  cameFrom : LinkState
  trainClk : Nat
  /-- The highest version offered since the last training began (11 R317). -/
  verOffer : Nat
  degraded : BitVec 17
  laneCe : Table Nat
  laneOver : Table Nat
  retryCount : Nat
  ueCount : Nat
  /-- The windows of 1 ms and of 1 s of plumb time that were judged last (11 R316). -/
  msWindow : Nat
  secondWindow : Nat
  /-- A threshold crossing, a key switch and a refresh that fell during training (11 R306). -/
  pendCross : Bool
  pendSwitch : Bool
  pendRefresh : Bool
  txPhase : Bool
  rxPhase : Bool
  txGroups : Nat
  rxGroups : Nat
  /-- The next key of a direction is agreed and waits for its switch (11 R315). -/
  nextTx : Bool
  nextRx : Bool
  retryKeyAt : Option Nat
  agreement : KeyAgreement
  /-- Of the exchange in progress: the random value of this end, the first message, the transcript and the shared secret (19 R517,
  R518). -/
  keySeed : Word
  keyHello : Bytes
  keyTranscript : Bytes
  keySecret : Bytes
  /-- The keys and the salts in the key store, by `2 * receive + phase` (19 R500, R518). -/
  keyBytes : Table Bytes
  salts : Table Bytes
  /-- Credits held for transmit and units freed to return, by `2 * vc + class` (12 R334). -/
  credits : Table Nat
  freed : Table Nat
  /-- Packets routed to this port that have not left, in the order of their routing, and which of VC0 and VC2 has the next turn
  (12 R336). -/
  queued : List QueuedPkt
  transitTurn : Bool
  /-- Packets that have arrived whole and in order and are not routed yet, and the one that is still coming (11 R304). -/
  arrived : List Pkt
  coming : Option PartPkt
  /-- The receiver has returned its whole buffer, on VC3 and on VC0 to VC2 (12 R334). -/
  grantedCtl : Bool
  grantedData : Bool
  /-- Closed by a peer-down notice (14 R412). -/
  closed : Bool
  routeClk : Option Nat
  routeDrops : Nat
  plumb : Option PlumbSeen
  /-- When the last PLUMB frame was sent (12 R354). -/
  plumbSent : Option Nat
  deriving DecidableEq, Repr

/-- A port after chip reset (11 R317 to R321). -/
def Port.reset : Port where
  ctl := 0x00104000_50000021
  state := .detect
  qReason := 0
  sealed := false
  ver := 0
  degr := false
  qev := false
  downEv := false
  peerReset := false
  peer := 0
  peerV := 0
  haveRecord := false
  record := none
  nonce := 0
  localVerdict := false
  peerVerdict := false
  rxUsed := 0
  txUsed := 0
  rxHalf := false
  txHalf := false
  ceSym := 0
  ueCw := 0
  crcFail := 0
  fastRt := 0
  fullRt := 0
  txSeq := 0
  replay := []
  rxSeq := 0
  gotAny := false
  nakSent := false
  nakDue := false
  ackDue := false
  failCount := 0
  tagFailed := false
  lastAckClk := 0
  fastTimes := []
  cameFrom := .active
  trainClk := 0
  verOffer := 2
  degraded := 0
  laneCe := .empty
  laneOver := .empty
  retryCount := 0
  ueCount := 0
  msWindow := 0
  secondWindow := 0
  pendCross := false
  pendSwitch := false
  pendRefresh := false
  txPhase := false
  rxPhase := false
  txGroups := 0
  rxGroups := 0
  nextTx := false
  nextRx := false
  retryKeyAt := none
  agreement := .none
  keySeed := 0
  keyHello := []
  keyTranscript := []
  keySecret := []
  keyBytes := .empty
  salts := .empty
  credits := .empty
  freed := .empty
  queued := []
  transitTurn := false
  arrived := []
  coming := none
  grantedCtl := false
  grantedData := false
  closed := false
  routeClk := none
  routeDrops := 0
  plumb := none
  plumbSent := none

/-- A topology table, staged or active (12 R322 to R328, R338). -/
structure Topo where
  topg : Word
  topm : Word
  port : Table Word
  job0 : Table Word
  job1 : Table Word
  exc : Table Word
  deriving DecidableEq, Repr

/-- A port entry with no role (12 R327). -/
def Topo.noPort : Word := 0xFFFF07

/-- The table after chip reset (12 R326). -/
def Topo.reset : Topo := ⟨0xFFFF, 0xFFFFFFFF, .empty, .empty, .empty, .empty⟩

/-- What a remote operation does (06 R161, R162, 09 R255). -/
inductive RemoteKind where
  | copy
  | reduce (fmt : Fmt)
  | semAdd (name value : Word)
  deriving DecidableEq, Repr

/-- How far a remote operation has come at its source (12 R342 to R346). -/
inductive RemotePhase where
  | held
  | opened
  | busy
  | granted (handle : BitVec 16)
  deriving DecidableEq, Repr

/-- An operation of a core to another chip, from issue to acknowledgement (12 R342). -/
structure RemoteOp where
  msgId : BitVec 16
  ctx : CtxId
  core : CoreId
  pc : Addr
  insn : Word
  kind : RemoteKind
  dst : BitVec 16
  job : BitVec 16
  gen : BitVec 8
  src : TileDesc
  dstDesc : TileDesc
  pages : Table Nat
  gsem : Option SemId
  gdsem : Word
  phase : RemotePhase
  startClk : Nat
  openClk : Nat
  resends : Table Nat
  /-- Its place among the core's data-mover and remote operations. -/
  seq : Nat
  /-- It waits in the core's semaphore port (09 R237, R238). -/
  inPort : Bool
  deriving DecidableEq, Repr

/-- A message entry at the destination (12 R343, R345). -/
structure MsgEntry where
  srcChip : BitVec 16
  gen : BitVec 8
  msgId : BitVec 16
  job : BitVec 16
  ctx : CtxId
  reduce : Bool
  desc : TileDesc
  pages : Table Nat
  gdsem : Option SemId
  gdsemName : Word
  /-- Fixed by the first accepted DATA packet's header; the descriptor gives it too. -/
  total : Nat
  accepted : List Nat
  crcFails : Table Nat
  poisoned : Bool
  echo : Bool
  outside : Bool
  bytes : Bytes
  lastClk : Nat
  deriving DecidableEq, Repr

/-- A rate limiter (12 R348). -/
structure Limiter where
  chip : BitVec 16
  q : Nat
  lastClk : Nat
  used : Nat
  deriving DecidableEq, Repr

/-- The fabric switch and its tables (12). -/
structure Fabric where
  staged : Topo
  active : Topo
  ctl : Word
  commitRej : Bool
  rejWhy : BitVec 3
  drops : Nat
  peerDown : Table (Option (BitVec 16))
  peerOrder : List Nat
  ops : List RemoteOp
  nextMsg : BitVec 16
  entries : Table (Option MsgEntry)
  limiters : List Limiter
  uses : Nat
  /-- Clock of the last ECHO sent to a chip, and marked packets since (12 R347, R330). -/
  echoes : Table (Option (Nat × Nat))
  deriving DecidableEq, Repr

/-- The fabric after chip reset (12 R349). -/
def Fabric.reset : Fabric where
  staged := .reset
  active := .reset
  ctl := 0x01051000_004E2000
  commitRej := false
  rejWhy := 0
  drops := 0
  peerDown := .empty
  peerOrder := []
  ops := []
  nextMsg := 0
  entries := .empty
  limiters := []
  uses := 0
  echoes := .empty

/-- The plumb counter and its synchronisation (01 R30 to R32, 12 R354 to R360). -/
structure Plumb where
  now : Word
  valid : Bool
  lost : Bool
  /-- The latched high half, by reader (01 R32). -/
  latches : List (Initiator × BitVec 32)
  parent : Option PortId
  hops : Nat
  thetas : List Int
  measures : Nat
  calm : Nat
  loaded : Bool
  /-- The slew in force: the next adjustment adds 2, 0 or 1. -/
  slew : Int
  lastAdjust : Nat
  noParentSince : Option Nat
  commitClk : Option Nat
  heardValid : Bool
  deriving DecidableEq, Repr

/-- The counter after chip reset (01 R31, 12 R360). -/
def Plumb.reset : Plumb where
  now := 0
  valid := false
  lost := false
  latches := []
  parent := none
  hops := 255
  thetas := []
  measures := 0
  calm := 0
  loaded := false
  slew := 0
  lastAdjust := 0
  noParentSince := none
  commitClk := none
  heardValid := false

/-! ## Host port, Ethernet, sideband (chapter 13) -/

/-- Why the device reads host memory. -/
inductive ReadUse where
  | copyLine (sq : SqId) (off lineOff count : Nat)
  /-- The next command of a queue. -/
  | fetch (sq : SqId)
  /-- A COPY of a queue that has ended without it. -/
  | orphaned (sq : SqId)
  deriving DecidableEq, Repr

/-- A slot of host reads (13 R375, R376): its generation, its user and start, and when each generation value
was last abandoned. -/
structure ReadSlot where
  gen : Nat
  use : Option ReadUse
  startClk : Nat
  abandoned : Table (Option Nat)
  deriving DecidableEq, Repr

/-- A free slot. -/
def ReadSlot.reset : ReadSlot := ⟨0, none, 0, .empty⟩

/-- Why the device writes host memory. -/
inductive WriteUse where
  | completion (cq : CqId)
  | copyLine (sq : SqId) (off : Nat)
  | orphanedCopy
  deriving DecidableEq, Repr

/-- A write to host memory without its GO response (13 R374). -/
structure HostWrite where
  id : Nat
  addr : Nat
  use : WriteUse
  startClk : Nat
  deriving DecidableEq, Repr

/-- The host port (13 R362 to R380, 21 R558). -/
structure HostPort where
  up : Bool
  x16 : Bool
  fast : Bool
  fence : Bool
  /-- A function-level reset of the PF is in progress (13 R378). -/
  flr : Bool
  /-- The host has disabled the link (13 R377). -/
  linkDisabled : Bool
  /-- When training last started (13 R362). -/
  trainClk : Nat
  ideLink : Bool
  ideCm : Bool
  ideSel : Table Bool
  downEv : Bool
  dropped : Nat
  upClk : Nat
  vfMap : Table Word
  cqMap : Table Word
  evVec : Word
  msixOn : Table Bool
  /-- Vector `1024 * function + vector` is unmasked. -/
  msixUnmasked : Table Bool
  msixPending : Table Bool
  /-- Address and data of a vector's message, as the host wrote them (13 R368). -/
  msixEntry : Table (Word × BitVec 32)
  hdmBase : Nat
  hdmSize : Nat
  numVfs : Nat
  slots : Table ReadSlot
  writes : List HostWrite
  nextWrite : Nat
  /-- When a refusal was last recorded, by cause (13 R370): the frame of a confidential context, and a text page. -/
  lastHdmRecord : Option Nat
  lastTextRecord : Option Nat
  deriving DecidableEq, Repr

/-- The host port after chip reset (21 R558: the fence bit resets to 0). -/
def HostPort.reset : HostPort where
  up := false
  x16 := false
  fast := false
  fence := false
  flr := false
  linkDisabled := false
  trainClk := 0
  ideLink := false
  ideCm := false
  ideSel := .empty
  downEv := false
  dropped := 0
  upClk := 0
  vfMap := .empty
  cqMap := .empty
  evVec := 0x10000
  msixOn := .empty
  msixUnmasked := .empty
  msixPending := .empty
  msixEntry := .empty
  hdmBase := 0
  hdmSize := 0
  numVfs := 0
  slots := .empty
  writes := []
  nextWrite := 0
  lastHdmRecord := none
  lastTextRecord := none

/-- How a transmitted frame is classed (13 R382): its 802.1p priority, its DSCP, the UDP port that the manual gives it. -/
structure FrameTag where
  prio : Nat
  dscp : Nat
  udp : Option Nat
  deriving DecidableEq, Repr

/-- A packet of a RoCE request (13 R383): one of as many as the message takes at the queue pair's MTU. -/
structure RocePkt where
  op : Nat
  psn : BitVec 24
  first : Bool
  last : Bool
  data : Bytes
  deriving DecidableEq, Repr

/-- What an Ethernet frame carries: a datagram, a packet of a queue pair's request, its answer to a request, its congestion
notification (13 R382 to R385). -/
inductive EthFrame where
  | datagram (src : BitVec 48) (dst : BitVec 128) (data : Bytes)
  | roce (qp : Nat) (k : RocePkt)
  | roceReply (qp : Nat) (code : Nat)
  | congestion (qp : Nat)
  deriving DecidableEq, Repr

/-- An Ethernet port (13 R386). -/
structure EthPort where
  ctl : Word
  up0 : Bool
  up1 : Bool
  fmDrop : Nat
  telSeq : BitVec 32
  telClk : Nat
  paused : BitVec 8
  /-- Frames that a pause holds back, oldest first (13 R382). -/
  waiting : List (FrameTag × EthFrame)
  deriving DecidableEq, Repr

/-- An Ethernet port after reset (13 R386). -/
def EthPort.reset : EthPort := ⟨0x640801, false, false, 0, 0, 0, 0, []⟩

/-- A RoCE queue pair (16 R462, R463): its context bytes, its ring indices and its DCQCN rate. -/
structure Qp where
  bytes : Table Byte
  head : Nat
  tail : Nat
  /-- Ring indices of RECV entries posted and not filled, oldest first; of entries that have ended and wait for their
  completion, with their status. -/
  posted : List Nat
  ended : List (Nat × BitVec 8)
  /-- The entry whose request the far end has not yet answered. -/
  flight : Option Nat
  /-- The next packet sequence number (16 R462). -/
  psn : BitVec 24
  /-- DCQCN (13 R383): the rate in Mbit/s, from when it lets the next message leave, and the last notification sent. -/
  rate : Nat
  sendAt : Nat
  cnpClk : Option Nat
  deriving DecidableEq, Repr

/-- An unused queue pair. -/
def Qp.reset : Qp := ⟨.empty, 0, 0, [], [], none, 0, 800000, 0, none⟩

/-- A flash transfer in progress (16 R460): its fields as they stood at go, and the physical pages of its DRAM
extent. `dir` is true from flash to DRAM. -/
structure FlashRun where
  dir : Bool
  ctx : CtxId
  units : Nat
  addr : Nat
  unit : Nat
  sem : Option SemId
  pages : Table Nat
  deriving DecidableEq, Repr

/-- A flash slot (16 R460, R461): `ctl` holds dir, ctx and nunits in their places. -/
structure FlashSlot where
  ctl : Word
  addr : Word
  off : Word
  sem : Word
  run : Option FlashRun
  status : BitVec 3
  deriving DecidableEq, Repr

/-- A flash slot after reset. -/
def FlashSlot.reset : FlashSlot := ⟨0, 0, 0, 0, none, 0⟩

/-- States of a TDI (19 R510). -/
inductive TdiState where
  | unlocked | locked | run | error
  /-- Between START_INTERFACE and the end of its partition reset. -/
  | starting
  /-- A function-level reset, whose context reset comes before what STOP_INTERFACE does (R514). -/
  | flr
  /-- Between STOP_INTERFACE, or the context reset of a function-level reset, and the end of its partition reset;
  `reply` says that a response is due. -/
  | stopping (reply : Bool)
  deriving DecidableEq, Repr

/-- An SPDM session (19 R502). -/
inductive SessionState where
  | closed
  | handshake (t : Transport)
  | established (t : Transport)
  deriving DecidableEq, Repr

/-- The negotiation of a transport (19 R502). -/
structure SpdmConn where
  version : Bool
  capabilities : Bool
  algorithms : Bool
  /-- A large response kept for CHUNK_GET, with its handle. -/
  large : Bytes
  largeHandle : Nat
  deriving DecidableEq, Repr

/-- The security core's protection set-up, keys and sessions (19). `keys` marks a key-store slot that holds a
key (19 R500). -/
structure Sec where
  locked : Bool
  dbgEn : Bool
  udsHidden : Bool
  deviceKeys : Bool
  keys : Table Bool
  sessions : Table SessionState
  conns : Table SpdmConn
  /-- Owner slot: none while empty (19 R522). -/
  owner : Option (List Byte × Nat)
  unsealing : Nat
  tdi : Table TdiState
  /-- The context that LOCK_INTERFACE found bound to the VF. -/
  tdiCtx : Table (Option CtxId)
  nonceDraws : Nat
  ownNonce : Word
  /-- An owner field or matrix entry that a fault has changed (15 R423; DESIGN CHOICE, log entry 8): its page. -/
  ownUpset : Option Nat
  deriving DecidableEq, Repr

/-- No negotiation yet. -/
def SpdmConn.reset : SpdmConn := ⟨false, false, false, [], 0⟩

/-! ## Firmware processors, power, boot (chapters 17, 18, 20) -/

/-- A firmware processor and its mailbox (17 R471 to R475). -/
structure Proc where
  req : Table Byte
  rsp : Table Byte
  busy : Bool
  rspNew : Bool
  heldDb : Bool
  down : Bool
  downClk : Nat
  restarts : Nat
  seq : BitVec 16
  lastKick : Nat
  fails : List Nat
  /-- The restart under way belongs to an activation, whose failure brings back the previous bank (17 R482). -/
  live : Bool
  deriving DecidableEq, Repr

/-- A processor at work. -/
def Proc.reset : Proc := ⟨.empty, .empty, false, false, false, false, 0, 0, 0, 0, [], false⟩

/-- Bank states of a component (17 R482). -/
inductive BankState where
  | noneStaged | staged | awaitingReset | running | rejected
  deriving DecidableEq, Repr

/-- A firmware component: the state of its other bank and the versions, security versions and digests of the
staged, running and previous images (17 R480 to R482). -/
structure Component where
  bank : BankState
  stagedVersion : Nat
  stagedSvn : Nat
  stagedDigest : Bytes
  runVersion : Option Nat
  runSvn : Nat
  runDigest : Option (List Byte)
  prevVersion : Option Nat
  prevSvn : Nat
  prevDigest : Option (List Byte)
  /-- The image runs since a chip reset that its skim boot has not yet confirmed (17 R482). -/
  trial : Bool
  deriving DecidableEq, Repr

/-- A component as the module leaves the factory. -/
def Component.reset : Component := ⟨.noneStaged, 0, 0, [], none, 0, none, none, 0, none, false⟩

/-- An activation in progress (17 R481): the processors still to restart, the live components that it
swapped, who asked. -/
structure Activation where
  remaining : List (Fin 19)
  live : List Nat
  pldm : Bool
  deriving DecidableEq, Repr

/-- The firmware processors and the update agent. -/
structure Fw where
  procs : Table Proc
  components : Table Component
  activation : Option Activation
  /-- The update agent: a transfer requested and not finished (13 R391). -/
  updating : Bool
  deriving DecidableEq, Repr

/-- Clock generator (01 R26 to R29): the request, the setting in force, the clock of the last raising step while
stepping goes on, whether the thermal trip holds, and the code of the source behind the setting in force while a lower
one waits for its window boundary. -/
structure Ckg where
  reqDiv : Nat
  reqKeep : Nat
  curDiv : Nat
  curKeep : Nat
  lastStep : Option Nat
  trip : Bool
  src : Nat
  deriving DecidableEq, Repr

/-- Power and temperatures (17 R477 to R479, 18 R494, 20 R524 to R539). -/
structure Power where
  cap : Option Nat
  meanWatts : Nat
  overSince : Option Nat
  nearTrip : Bool
  badInput : Bool
  overCap : Bool
  emergency : Bool
  lastEmergency : Nat
  duty : Nat
  dutyAct : Bool
  compute : Table Int
  memory : Table Int
  compMax : Int
  memMax : Int
  compId : Nat
  memId : Nat
  inputMv : Nat
  inputMa : Nat
  tripped : List Sensor
  coolSince : Option Nat
  fthCtl : Word
  /-- The requests of the power loop and of the thermal loop, as divider and keep count (17 R477). -/
  powReq : Nat × Nat
  thmReq : Option (Nat × Nat)
  deriving DecidableEq, Repr

/-- Pins and rails (13 R388, 18 R485, 20 R529). -/
structure Pins where
  pwrEn : Bool
  resetN : Bool
  perstN : Bool
  pwrGood : Bool
  tripN : Bool
  rails : List RailGroup
  moduleFault : Bool
  i3cAddr : Option (BitVec 7)
  mctpEid : Option (BitVec 8)
  deriving DecidableEq, Repr

/-- Boot (18 R483 to R497). -/
structure Boot where
  done : Bool
  skim : Bool
  result : BitVec 2
  phase : Nat
  reason : Nat
  place : Nat
  ms : Nat
  running : Bool
  stopped : Bool
  waitResetN : Bool
  pllLocked : Bool
  fullDone : Bool
  startClk : Nat
  endClk : Nat
  unfitReason : Nat
  unfitPlace : Nat
  recovery : Bool
  /-- Frames that belonged to a confidential context at the chip reset: phase 0x6 zeroes them (14 R395). -/
  confFrames : List Nat
  deriving DecidableEq, Repr

/-- A repair-record entry (18 R489): kind, unit, index, row, boots, and whether its crc is correct. -/
structure Repair where
  kind : Nat
  unit : Nat
  index : Nat
  row : Nat
  boots : Nat
  crcOk : Bool
  deriving DecidableEq, Repr

/-- The fuse arrays and the repair record in flash (18 Fuse records, R491, 19 R504). -/
structure Fuses where
  variant : Nat
  serial : BitVec 48
  svnFloor : Nat
  badCore : Table (Option (Fin 17))
  badRow : Table (Option Nat)
  badLane : Table (List Nat)
  apbRx : Table (BitVec 17)
  apbTx : Table (BitVec 17)
  repair : List Repair
  boots : Nat
  /-- The map in force by cluster: the unusable physical core and whether the repair record named it. -/
  map : Table (Option (Fin 17 × Bool))
  /-- Spare rows that manufacture used, by bank `65536 * stack + bank` (08 R216). -/
  sparesUsed : Table Nat
  /-- The MAC address of each Ethernet sub-port, at `2 * port + sub` (13 R381). -/
  macs : Table (BitVec 48)
  deriving DecidableEq, Repr

/-- Chip-level reset state (14 R415 to R417). -/
structure Rst where
  cause : Nat
  proc : Nat
  badCl : BitVec 16
  chipResets : Nat
  /-- The end of skim boot, while .R operations still wait for the end-to-end time (14 R401). -/
  remoteHold : Option Nat
  /-- Cores that stand stopped because their self-test failed (14 R406). -/
  failedCores : List CoreId
  deriving DecidableEq, Repr

/-- Translation invalidation and frame registers (08 R222, R225). -/
structure Atu where
  frm : Table Byte
  invCtx : BitVec 6
  invScope : BitVec 2
  invVa : BitVec 24
  invBusy : Bool
  deriving DecidableEq, Repr

/-- One stack controller (08 R212 to R218). -/
structure Stack where
  stat : Word
  failedGroups : List (Nat × Nat)
  /-- Corrected lines with their clocks, by `18 * channel + group` and by row (R212, R216). -/
  laneHits : Table (List (Nat × Nat))
  rowHits : Table (List (Nat × Nat))
  rowPass : List Nat
  rowPassNow : List Nat
  sparedRows : List Nat
  sparesUsed : Table Nat
  patrolLine : Nat
  passStart : Nat
  deriving DecidableEq, Repr

/-- A stack after chip reset. -/
def Stack.reset : Stack := ⟨0, [], .empty, .empty, [], [], [], .empty, 0, 0⟩

/-- What the device has sent to the outside, oldest first: packets, host-port requests, interrupts, sideband
messages (DESIGN CHOICE, log entry 7). -/
inductive Out where
  | packet (port : Option PortId) (vc : Nat) (k : Pkt)
  /-- A flit group, and the flits of it that begin a packet (11 R295). -/
  | group (p : PortId) (image : Bytes) (starts : List Nat)
  /-- A training frame with this end's identity record, and one with its verdict (11 R307, R309). -/
  | identity (p : PortId) (frame : Bytes)
  | verdict (p : PortId) (pass : Bool)
  /-- A refresh frame (11 R311). -/
  | refresh (p : PortId) (frame : Bytes)
  | hostWrite (id : Nat) (addr : Nat) (data : Bytes) (enable : List Bool) (poison : Bool)
  | hostRead (cqid : BitVec 12) (addr : Nat)
  | msix (fn : CtxId) (vec : Nat) (addr : Word) (data : BitVec 32)
  | hdmData (off : Nat) (data : Bytes) (poison : Bool)
  | hdmComplete (off : Nat)
  | snoopReply (addr : Word)
  | readReply (ini : Initiator) (value : Word) (refused : Bool)
  /-- A host read of another size or alignment completes with Unsupported Request (13 R366). -/
  | unsupportedRequest (ini : Initiator)
  /-- A read whose word fails its parity check has the poison response (04 R115). -/
  | readPoisoned (ini : Initiator)
  | pldmEvent (kind : Nat) (value : Nat)
  | pldmReply (code : Nat) (data : Bytes)
  | spdm (t : Transport) (code : Nat) (data : Bytes)
  | spdmError (t : Transport) (code : Nat)
  | tdisp (vf : CtxId) (code : Nat) (data : Bytes)
  | secured (vf : CtxId) (status : Nat) (data : Bytes)
  /-- A frame of an Ethernet port (13 R382). -/
  | frame (port : Nat) (tag : FrameTag) (f : EthFrame)
  | i3cAck (addr : BitVec 7)
  /-- An in-band interrupt: MCTP packets are ready, or an alert is (13 R387). -/
  | inBandInterrupt (addr : BitVec 7) (alert : Bool)
  deriving DecidableEq, Repr

/-- Faults that the next use of their place meets, where no other part of State holds them: the reduce adders at a device word,
a word and hop of the on-die network (with whether its header fails), the parity of a frame's register, of a control register,
and the state of a cluster's sequencer or of its store's control (15 R423, 14 Ladder). No command sets one (DESIGN CHOICE, log
entry 8). -/
structure Upsets where
  reduce : Option Nat
  network : Option (Nat × Nat × Bool)
  frame : Option Nat
  register : Option Nat
  clusters : List ClusterId
  deriving DecidableEq, Repr

/-- No fault. -/
def Upsets.none : Upsets := ⟨.none, .none, .none, .none, []⟩

/-- The state of the block. -/
structure State where
  /-- Commands that wait, first in, first out. -/
  pending : List Instr
  /-- NCLK edges since power-on: the clock that every stated time is judged by (DESIGN CHOICE, log entry 9). -/
  clk : Nat
  /-- Counter of free values drawn: the model's own field (DESIGN CHOICE, log entry 2). -/
  draws : Nat
  /-- Arrival stamps given so far (10 R278). -/
  stamps : Nat
  out : List Out
  pins : Pins
  ckg : Ckg
  plumb : Plumb
  mem : Memory
  /-- Poison marks, by device address ÷ 8 (08 R202, R213). -/
  poison : Table Bool
  /-- Latent errors, by device address ÷ 8 for stores and of a line's first word for DRAM. -/
  latent : Table Latent
  cores : Table CoreSt
  /-- Cluster semaphores at `4096 * k + i`, die semaphores at `65536 + i`. -/
  sems : Table Sem
  dlkCtl : Table Word
  dlkStat : Word
  dlkSnap : Bytes
  ctxs : Table Ctx
  sqs : Table Sq
  cqs : Table Cq
  orphans : Table (Option (SqId × List Byte))
  heldCount : Nat
  err : ErrLog
  bst : Bst
  hawks : Table Hawk
  ports : Table Port
  fab : Fabric
  host : HostPort
  eth : Table EthPort
  ethFm : Bool
  ethFma0 : Word
  ethFma1 : Word
  qps : Table Qp
  flashSlots : Table FlashSlot
  /-- Module flash, by byte from unit 0, and its units that read uncorrectable. -/
  flashMem : Table Byte
  flashBad : Table Bool
  sec : Sec
  fw : Fw
  power : Power
  boot : Boot
  fuses : Fuses
  rst : Rst
  atu : Atu
  stackCtl : Table Stack
  own : Table (Option (BitVec 32))
  cspRfl : Word
  upsets : Upsets
  deriving DecidableEq, Repr

/-- Reasons the machine stops with a fault. -/
inductive Fault where
  /-- Raised by HDM_READ and HDM_WRITE for a window offset at or beyond 0x0180_0000_0000, where 08 R199 has no
  memory. Safe: nothing is claimed of such an access. -/
  | addressAbsent
  deriving DecidableEq, Repr

/-- Reasons a command is refused. -/
inductive Refusal where
  /-- Raised by the dispatcher for a command that has no meaning yet. Safe. -/
  | notModelled (mnemonic : String)
  deriving DecidableEq, Repr

/-- Latent errors that a table does not list. -/
abbrev noLatent : Latent := .sound

/-- The machine right after reset: a full render boot stands at the start of phase 0x2, every register at its
reset value (18 R497; DESIGN CHOICE, log entries 6 and 10 name the values the manual does not give). -/
def State.reset : State where
  pending := []
  clk := 0
  draws := 0
  stamps := 0
  out := []
  pins := ⟨true, true, true, true, true, [.auxiliary, .memory, .serdes, .compute], false, none, none⟩
  ckg := ⟨6, 20, 6, 20, none, false, 2⟩
  plumb := .reset
  mem := .empty
  poison := .empty
  latent := .empty
  cores := .empty
  sems := .empty
  dlkCtl := .empty
  dlkStat := 0
  dlkSnap := []
  ctxs := .empty
  sqs := .empty
  cqs := .empty
  orphans := .empty
  heldCount := 0
  err := .reset
  bst := .reset
  hawks := .empty
  ports := .empty
  fab := .reset
  host := .reset
  eth := .empty
  ethFm := false
  ethFma0 := 0
  ethFma1 := 0
  qps := .empty
  flashSlots := .empty
  flashMem := .empty
  flashBad := .empty
  sec := ⟨false, false, false, false, .empty, .empty, .empty, none, 0, .empty, .empty, 0, 0, none⟩
  fw := ⟨.empty, .empty, none, false⟩
  power := ⟨none, 0, none, false, false, false, false, 0, 8, false, .empty, .empty, 0, 0, 0, 0, 54000, 0, [], none,
    0x0000_0010_0100_0401, (6, 20), none⟩
  boot := ⟨false, false, 0, 2, 0, 0, 0, true, false, false, false, false, 0, 0, 0, 0, false, []⟩
  fuses := ⟨1, 0, 0, .empty, .empty, .empty, .empty, .empty, [], 0, .empty, .empty, .empty⟩
  rst := ⟨0, 0, 0, 0, none, []⟩
  atu := ⟨.empty, 0, 0, 0, false⟩
  stackCtl := .empty
  own := .empty
  cspRfl := 0
  upsets := .none

end Sys2Proof.Machine
end

