-- ==== Sys2Proof/Machine/Bits.lean ====
section
/-! DEFINITION. Fields of words that software reads whole: how a field is read and written, and the fields of
the context registers that many units use. -/

namespace Sys2Proof.Machine

/-- Bits `lo` to `lo + n - 1` of a register word, as a number. -/
def bitsAt (w : Word) (lo n : Nat) : Nat := field w.toNat lo n

/-- Bit `i` of a register word. -/
def bitAt (w : Word) (i : Nat) : Bool := w.getLsbD i

/-- A word whose bits from `lo` spell `v`: an operand of `|||`. -/
def putAt (lo v : Nat) : Word := BitVec.ofNat 64 v <<< lo

/-- One bit at `lo`. -/
def flagAt (lo : Nat) (b : Bool) : Word := if b then putAt lo 1 else 0

/-- The word of ones in bits `lo` to `lo + n - 1`. -/
def maskAt (lo n : Nat) : Word := putAt lo (2 ^ n - 1)

/-- `w` with bits `lo` to `lo + n - 1` replaced by `v`. -/
def setBits (w : Word) (lo n v : Nat) : Word := (w &&& ~~~maskAt lo n) ||| putAt lo (v % 2 ^ n)

/-- The number saturating at `top`. -/
def satTo (top n : Nat) : Nat := min top n

/-- The `n`-th element of a list of bytes, zero beyond its end. -/
def byteAt (bs : Bytes) (n : Nat) : Byte := bs.getD n 0

/-- Bytes `lo` to `lo + n - 1` of a structure, as a little-endian number (00 R8). -/
def leAt (bs : Bytes) (lo n : Nat) : Nat := leNat ((bs.drop lo).take n)

/-- `n` bytes at offset `lo` of a structure replaced by the little-endian bytes of `v`. -/
def putLe (bs : Bytes) (lo n v : Nat) : Bytes := bs.take lo ++ leBytes n v ++ bs.drop (lo + n)

/-- `n` zero bytes. -/
def zeros (n : Nat) : Bytes := List.replicate n 0

/-- A list padded with zeros, or cut, to `n` bytes. -/
def fitTo (n : Nat) (bs : Bytes) : Bytes := (bs ++ zeros (n - bs.length)).take n

/-! ## Context registers (10 R262, R264) -/

/-- GFE_CTX.en. -/
def Ctx.en (c : Ctx) : Bool := bitAt c.gfeCtx 0
/-- GFE_CTX.direct. -/
def Ctx.direct (c : Ctx) : Bool := bitAt c.gfeCtx 1
/-- GFE_CTX.first_cluster. -/
def Ctx.first (c : Ctx) : Nat := bitsAt c.gfeCtx 4 4
/-- Clusters of the partition: 2^size_log2. -/
def Ctx.clusters (c : Ctx) : Nat := 2 ^ bitsAt c.gfeCtx 8 3
/-- GFE_CTX.conf: a confidential context. -/
def Ctx.conf (c : Ctx) : Bool := bitAt c.gfeCtx 11
/-- A cluster of the context's partition. -/
def Ctx.hasCluster (c : Ctx) (k : Nat) : Bool := c.en && decide (c.first ≤ k) && decide (k < c.first + c.clusters)
/-- A core of the context's partition (01 R16). -/
def Ctx.hasCore (c : Ctx) (i : Nat) : Bool := c.hasCluster (i / 16)
/-- A die semaphore inside the context's allotment (09 R243, R245). -/
def Ctx.hasDieSem (c : Ctx) (i : Nat) : Bool :=
  bitAt c.semAllot 0 && decide (64 * bitsAt c.semAllot 8 8 ≤ i)
    && decide (i < 64 * (bitsAt c.semAllot 8 8 + bitsAt c.semAllot 16 9))

/-! ## Access to the indexed parts of the state -/

/-- A core. -/
def State.core (s : State) (c : Nat) : CoreSt := s.cores.get .reset c
/-- The state with a core replaced. -/
def State.setCore (s : State) (c : Nat) (v : CoreSt) : State := { s with cores := s.cores.set .reset c v }
/-- A context. -/
def State.ctx (s : State) (k : Nat) : Ctx := s.ctxs.get .reset k
/-- The state with a context replaced. -/
def State.setCtx (s : State) (k : Nat) (v : Ctx) : State := { s with ctxs := s.ctxs.set .reset k v }
/-- A submission queue. -/
def State.sq (s : State) (q : Nat) : Sq := s.sqs.get .reset q
/-- The state with a submission queue replaced. -/
def State.setSq (s : State) (q : Nat) (v : Sq) : State := { s with sqs := s.sqs.set .reset q v }
/-- A completion queue. -/
def State.cq (s : State) (q : Nat) : Cq := s.cqs.get .reset q
/-- The state with a completion queue replaced. -/
def State.setCq (s : State) (q : Nat) (v : Cq) : State := { s with cqs := s.cqs.set .reset q v }
/-- An Apbor port. -/
def State.port (s : State) (p : Nat) : Port := s.ports.get .reset p
/-- The state with a port replaced. -/
def State.setPort (s : State) (p : Nat) (v : Port) : State := { s with ports := s.ports.set .reset p v }
/-- A stack controller. -/
def State.stack (s : State) (k : Nat) : Stack := s.stackCtl.get .reset k
/-- The state with a stack controller replaced. -/
def State.setStack (s : State) (k : Nat) (v : Stack) : State := { s with stackCtl := s.stackCtl.set .reset k v }
/-- A firmware processor. -/
def State.proc (s : State) (m : Nat) : Proc := s.fw.procs.get .reset m
/-- The state with a firmware processor replaced. -/
def State.setProc (s : State) (m : Nat) (v : Proc) : State :=
  { s with fw := { s.fw with procs := s.fw.procs.set .reset m v } }
/-- A context is fenced: by itself, or while the security core is down if it is confidential (14 R407). -/
def State.ctxFenced (s : State) (k : Nat) : Bool := (s.ctx k).fenced || ((s.ctx k).conf && (s.proc 0).down)
/-- Something sent to the outside (DESIGN CHOICE, log entry 7). -/
def State.emit (s : State) (o : Out) : State := { s with out := s.out ++ [o] }
/-- An MCTP message sent over the sideband: an in-band interrupt tells the bus owner, once the device has its address (13 R387). -/
def State.sendMctp (alert : Bool) (o : Out) (s : State) : State :=
  match s.pins.i3cAddr with
  | some a => (s.emit o).emit (.inBandInterrupt a alert)
  | none => s.emit o
/-- A free value drawn: the word and the state with the counter advanced (DESIGN CHOICE, log entry 2). -/
def State.draw (s : State) : Word × State := (Config.freeWord s.draws, { s with draws := s.draws + 1 })
/-- A free choice drawn (DESIGN CHOICE, log entry 2). -/
def State.choose (s : State) : Bool × State := (Config.freeBool s.draws, { s with draws := s.draws + 1 })
/-- The next arrival stamp (10 R278). -/
def State.stamp (s : State) : Nat × State := (s.stamps, { s with stamps := s.stamps + 1 })

/-- All core indices. -/
def allCores : List CoreId := List.finRange 256
/-- All contexts. -/
def allCtxs : List CtxId := List.finRange 64

/-- The index of a semaphore in the table of semaphores. -/
def semKey : SemId → Nat
  | .cluster k i => 4096 * k.val + i.val
  | .die i => 65536 + i.val

/-- A semaphore. -/
def State.sem (s : State) (n : SemId) : Sem := s.sems.get .reset (semKey n)
/-- The state with a semaphore replaced. -/
def State.setSem (s : State) (n : SemId) (v : Sem) : State := { s with sems := s.sems.set .reset (semKey n) v }

/-! ## Firmware components (17 R480, R481) -/

/-- A component. -/
def State.component (s : State) (k : Nat) : Component := s.fw.components.get .reset k

/-- The digest of the running image of a component. -/
def runningDigest (s : State) (k : Nat) : Bytes :=
  match (s.component k).runDigest with
  | some d => d
  | none => Config.factoryDigest k

end Sys2Proof.Machine
end

