-- ==== Sys2Proof/Machine/Fp.lean ====
section
/-! DEFINITION. Numbers: the formats, exact values, rounding and conversion (chapter 02, and 03 R70, R71).

An exact finite value is a sign, a magnitude and a power of two. Every operation forms the exact value and
rounds it once. -/

namespace Sys2Proof.Machine

/-- An exact value of a floating-point operand or result: `fin neg mag exp` is ±mag × 2^exp, with the sign kept
for zero. -/
inductive FVal where
  | nan
  | inf (neg : Bool)
  | fin (neg : Bool) (mag : Nat) (exp : Int)
  deriving DecidableEq, Repr

/-- +0. -/
def FVal.zero : FVal := .fin false 0 0

/-- A floating-point format (02 Element formats): exponent and fraction widths, bias, the code of the largest
finite magnitude, and whether it holds infinities and NaNs in the IEEE manner. -/
structure FloatFmt where
  expBits : Nat
  man : Nat
  bias : Nat
  maxFin : Nat
  ieee : Bool
  deriving DecidableEq, Repr

/-- IEEE binary32. -/
def ffp32 : FloatFmt := ⟨8, 23, 127, 0x7F7FFFFF, true⟩
/-- bfloat16. -/
def ffbf16 : FloatFmt := ⟨8, 7, 127, 0x7F7F, true⟩
/-- IEEE binary16. -/
def ffp16 : FloatFmt := ⟨5, 10, 15, 0x7BFF, true⟩
/-- CP24 (R38). -/
def fcp24 : FloatFmt := ⟨8, 15, 127, 0x7F7FFF, true⟩
/-- MXFP8 E4M3 element. -/
def fe4m3 : FloatFmt := ⟨4, 3, 7, 0x7E, false⟩
/-- MXFP8 E5M2 element. -/
def fe5m2 : FloatFmt := ⟨5, 2, 15, 0x7B, true⟩
/-- MXFP6 E3M2 element. -/
def fe3m2 : FloatFmt := ⟨3, 2, 3, 0x1F, false⟩
/-- MXFP6 E2M3 element. -/
def fe2m3 : FloatFmt := ⟨2, 3, 1, 0x1F, false⟩
/-- MXFP4 E2M1 element. -/
def fe2m1 : FloatFmt := ⟨2, 1, 1, 0x7, false⟩

/-- The exact value of a code (02). An E4M3 code S.1111.111 is NaN. -/
def FloatFmt.decode (f : FloatFmt) (code : Nat) : FVal :=
  let neg := field code (f.expBits + f.man) 1 == 1
  let e := field code f.man f.expBits
  let m := field code 0 f.man
  if f.ieee && e == 2 ^ f.expBits - 1 then (if m = 0 then .inf neg else .nan)
  else if f.expBits == 4 && e == 15 && m == 7 then .nan
  else if e = 0 then .fin neg m (1 - (f.bias : Int) - f.man)
  else .fin neg (2 ^ f.man + m) ((e : Int) - f.bias - f.man)

/-- How a value is rounded: to nearest even (R35), stochastically against the upper 24 bits of a draw (R43), or
toward zero (R132). -/
inductive Rounding where
  | nearest
  | stochastic (d24 : Nat)
  | towardZero
  deriving DecidableEq, Repr

/-- The integer that `mag ÷ 2^sh` rounds to (R42, R43). -/
def roundShift (r : Rounding) (mag : Nat) (sh : Int) : Nat :=
  if sh ≤ 0 then mag * 2 ^ (-sh).toNat
  else
    let d := 2 ^ sh.toNat
    let t := mag / d
    let f := mag % d
    match r with
    | .nearest => if 2 * f > d ∨ (2 * f = d ∧ t % 2 = 1) then t + 1 else t
    | .stochastic d24 => if f * 2 ^ 24 / d > d24 then t + 1 else t
    | .towardZero => t

/-- The magnitude code that a finite magnitude rounds to on a format's grid, its subnormal range included (R42).
A code above the largest finite one stands for an overflow. -/
def FloatFmt.encodeMag (f : FloatFmt) (r : Rounding) (mag : Nat) (exp : Int) : Nat :=
  if mag = 0 then 0
  else
    let e := max ((mag.log2 : Int) + exp) (1 - (f.bias : Int))
    (e + f.bias - 1).toNat * 2 ^ f.man + roundShift r mag (e - f.man - exp)

/-- Which of the four counts a result adds to (R54). -/
inductive Count where
  | none | sat | flush | nan | inf
  deriving DecidableEq, Repr

/-- A result's code and its count. -/
structure Conv where
  code : Nat
  count : Count
  deriving DecidableEq, Repr

/-- The sign bit of a format. -/
def FloatFmt.sign (f : FloatFmt) (neg : Bool) : Nat := if neg then 2 ^ (f.expBits + f.man) else 0
/-- The code of infinity. -/
def FloatFmt.infCode (f : FloatFmt) : Nat := (2 ^ f.expBits - 1) * 2 ^ f.man
/-- The canonical NaN (R36): a quiet NaN with only the top fraction bit set, and 0x7F in E4M3. -/
def FloatFmt.nanCode (f : FloatFmt) : Nat := if f.ieee then f.infCode + 2 ^ (f.man - 1) else 0x7F

/-- A conversion into FP32, FP16, BF16 or CP24 (R42, R46 to R49): `sat` is the saturating mode. -/
def FloatFmt.convert (f : FloatFmt) (r : Rounding) (sat : Bool) : FVal → Conv
  | .nan => ⟨f.nanCode, .nan⟩
  | .inf neg => ⟨f.sign neg + f.infCode, .inf⟩
  | .fin neg mag exp =>
    let c := f.encodeMag r mag exp
    if c > f.maxFin then
      (if sat then ⟨f.sign neg + f.maxFin, .sat⟩ else ⟨f.sign neg + f.infCode, .inf⟩)
    else ⟨f.sign neg + c, if mag ≠ 0 ∧ c = 0 then .flush else .none⟩

/-- A conversion into a floating-point block element (R46, R47, R49); a NaN source is met by the block (R48). -/
def FloatFmt.convertElement (f : FloatFmt) (r : Rounding) : FVal → Conv
  | .nan => ⟨0, .nan⟩
  | .inf neg => if f.ieee then ⟨f.sign neg + f.infCode, .inf⟩ else ⟨f.sign neg + f.maxFin, .sat⟩
  | .fin neg mag exp =>
    let c := f.encodeMag r mag exp
    if c > f.maxFin then ⟨f.sign neg + f.maxFin, .sat⟩
    else ⟨f.sign neg + c, if mag ≠ 0 ∧ c = 0 then .flush else .none⟩

/-- A conversion into two's complement of `w` bits in units of 2^unit, with largest magnitudes `hi` and `lo`
(R37, R46 to R49, R132): MXINT8 elements and INT32. -/
def convertInt (w : Nat) (unit : Int) (hi lo : Nat) (r : Rounding) : FVal → Conv
  | .nan => ⟨0, .nan⟩
  | .inf neg => ⟨if neg then 2 ^ w - lo else hi, .sat⟩
  | .fin neg mag exp =>
    let t := roundShift r mag (unit - exp)
    if neg then
      (if t > lo then ⟨2 ^ w - lo, .sat⟩
       else ⟨(2 ^ w - t) % 2 ^ w, if mag ≠ 0 ∧ t = 0 then .flush else .none⟩)
    else if t > hi then ⟨hi, .sat⟩
    else ⟨t, if mag ≠ 0 ∧ t = 0 then .flush else .none⟩

/-- INT32 destination. -/
def convertInt32 (r : Rounding) (v : FVal) : Conv := convertInt 32 0 (2 ^ 31 - 1) (2 ^ 31) r v

/-- The code of a word in two's complement, as an integer. -/
def signedOf (w : Nat) (n : Nat) : Int := if n ≥ 2 ^ (w - 1) then (n : Int) - 2 ^ w else n

/-- The exact value of an integer times a power of two; zero is +0. -/
def FVal.ofInt (m : Int) (e : Int) : FVal := .fin (decide (m < 0)) m.natAbs e

/-- The exact value of an element code (R37, R38). INT32 and RAW8 codes are read as integers. -/
def fmtValue (f : Fmt) (code : Nat) : FVal :=
  match f with
  | .fp32 => ffp32.decode code
  | .fp16 => ffp16.decode code
  | .bf16 => ffbf16.decode code
  | .e4m3 => fe4m3.decode code
  | .e5m2 => fe5m2.decode code
  | .e3m2 => fe3m2.decode code
  | .e2m3 => fe2m3.decode code
  | .e2m1 => fe2m1.decode code
  | .mxint8 => .ofInt (signedOf 8 code) (-6)
  | .int32 => .ofInt (signedOf 32 code) 0
  | .raw8 => .ofInt code 0

/-- A block element of a type from an exact value (R42 to R49). -/
def convertBlockElement (f : Fmt) (r : Rounding) (v : FVal) : Conv :=
  match f with
  | .e4m3 => fe4m3.convertElement r v
  | .e5m2 => fe5m2.convertElement r v
  | .e3m2 => fe3m2.convertElement r v
  | .e2m3 => fe2m3.convertElement r v
  | .e2m1 => fe2m1.convertElement r v
  | _ => convertInt 8 (-6) 127 127 r v

/-! ## Exact arithmetic (03 R70, R71) -/

/-- A value times 2^k, exactly (R42). -/
def FVal.scale (k : Int) : FVal → FVal
  | .fin neg mag exp => .fin neg mag (exp + k)
  | v => v

/-- The sign of a value, false for NaN. -/
def FVal.neg : FVal → Bool
  | .nan => false
  | .inf n => n
  | .fin n _ _ => n

/-- The value is zero. -/
def FVal.isZero : FVal → Bool
  | .fin _ m _ => m == 0
  | _ => false

/-- The value is a NaN. -/
def FVal.isNan : FVal → Bool
  | .nan => true
  | _ => false

/-- The value is infinite. -/
def FVal.isInf : FVal → Bool
  | .inf _ => true
  | _ => false

/-- The value is neither NaN nor infinite. -/
def FVal.isFin : FVal → Bool
  | .fin _ _ _ => true
  | _ => false

/-- The magnitude of a value. -/
def FVal.abs : FVal → FVal
  | .nan => .nan
  | .inf _ => .inf false
  | .fin _ m e => .fin false m e

/-- The value with its sign inverted. -/
def FVal.negate : FVal → FVal
  | .nan => .nan
  | .inf n => .inf !n
  | .fin n m e => .fin (!n) m e

/-- A signed integer magnitude at exponent `e`, where `e` is at most the value's own exponent. -/
def alignTo (e : Int) (neg : Bool) (mag : Nat) (exp : Int) : Int :=
  (if neg then -1 else 1) * ((mag * 2 ^ (exp - e).toNat : Nat) : Int)

/-- The exact sum, with special values and signs of zero as IEEE 754 addition gives them (R71). -/
def FVal.add : FVal → FVal → FVal
  | .nan, _ => .nan
  | _, .nan => .nan
  | .inf a, .inf b => if a = b then .inf a else .nan
  | .inf a, _ => .inf a
  | _, .inf b => .inf b
  | .fin n1 m1 e1, .fin n2 m2 e2 =>
    let e := min e1 e2
    let m := alignTo e n1 m1 e1 + alignTo e n2 m2 e2
    if m = 0 then .fin (n1 && n2) 0 0 else .ofInt m e

/-- The exact difference. -/
def FVal.sub (a b : FVal) : FVal := a.add b.negate

/-- The exact product; an infinity times a zero is NaN (R122). -/
def FVal.mul : FVal → FVal → FVal
  | .nan, _ => .nan
  | _, .nan => .nan
  | .inf a, b => if b.isZero then .nan else .inf (a != b.neg)
  | a, .inf b => if a.isZero then .nan else .inf (a.neg != b)
  | .fin n1 m1 e1, .fin n2 m2 e2 => .fin (n1 != n2) (m1 * m2) (e1 + e2)

/-- Order of two values that are not NaN: −1, 0 or 1, with −0 equal to +0. -/
def FVal.compare : FVal → FVal → Int
  | .inf a, .inf b => if a = b then 0 else if a then -1 else 1
  | .inf a, _ => if a then -1 else 1
  | _, .inf b => if b then 1 else -1
  | .fin n1 m1 e1, .fin n2 m2 e2 =>
    let e := min e1 e2
    (alignTo e n1 m1 e1 - alignTo e n2 m2 e2).sign
  | _, _ => 0

/-- A value of a result, rounded into FP32 to nearest even: `rn32` (R70) with the count of a vector result. -/
def round32 (v : FVal) : Conv := ffp32.convert .nearest false v

/-- `rn32` as a value: the rounded value and whether a non-zero value became zero (R70, R86). -/
def rn32 (v : FVal) : FVal × Bool :=
  let c := round32 v
  (ffp32.decode c.code, c.count == .flush)

/-- `rn24`: rounding into CP24 (R70). -/
def rn24 (v : FVal) : FVal × Bool :=
  let c := fcp24.convert .nearest false v
  (fcp24.decode c.code, c.count == .flush)

/-- The FP32 code of a value that FP32 holds exactly. -/
def code32 (v : FVal) : Word32 := BitVec.ofNat 32 (round32 v).code

/-- The value of an FP32 lane word. -/
def val32 (w : Word32) : FVal := ffp32.decode w.toNat

/-! ## Roots, quotients and transcendental functions (R123, R129, R131)

An inexact result is handed to rounding as a long prefix of its binary expansion with a last bit of 1 standing
for the digits beyond (UNVERIFIED, log entry 11). -/

/-- The integer square root by digits: the largest `r` with `r * r ≤ n`, refining the lowest `k` bits. -/
def isqrtDigits (n : Nat) : Nat → Nat → Nat
  | 0, r => r
  | k + 1, r => if (r + 2 ^ k) * (r + 2 ^ k) ≤ n then isqrtDigits n k (r + 2 ^ k) else isqrtDigits n k r

/-- The integer square root. -/
def isqrt (n : Nat) : Nat := isqrtDigits n (n.log2 / 2 + 1) 0

/-- A quotient's prefix with its sticky bit. -/
def sticky (q : Nat) (exact : Bool) : Nat := 2 * q + (if exact then 0 else 1)

/-- Exact quotient of two finite magnitudes, the divisor not zero, with 64 or more good bits. -/
def quotient (neg : Bool) (m1 : Nat) (e1 : Int) (m2 : Nat) (e2 : Int) : FVal :=
  let k := 64 + m2.log2
  .fin neg (sticky (m1 * 2 ^ k / m2) (m1 * 2 ^ k % m2 = 0)) (e1 - e2 - k - 1)

/-- Division as IEEE 754 defines it (R123). -/
def FVal.div : FVal → FVal → FVal
  | .nan, _ => .nan
  | _, .nan => .nan
  | .inf _, .inf _ => .nan
  | .inf a, b => .inf (a != b.neg)
  | .fin n _ _, .inf b => .fin (n != b) 0 0
  | .fin n1 m1 e1, .fin n2 m2 e2 =>
    if m2 = 0 then (if m1 = 0 then .nan else .inf (n1 != n2))
    else if m1 = 0 then .fin (n1 != n2) 0 0
    else quotient (n1 != n2) m1 e1 m2 e2

/-- Square root as IEEE 754 defines it (R123). -/
def FVal.sqrt : FVal → FVal
  | .nan => .nan
  | .inf n => if n then .nan else .inf false
  | .fin n m e =>
    if m = 0 then .fin n 0 0
    else if n then .nan
    else
      let odd := (e % 2).toNat
      let m' := m * 2 ^ (odd + 128)
      let r := isqrt m'
      .fin false (sticky r (r * r = m')) ((e - odd - 128) / 2 - 1)

/-- 1 / √x (R129, R131). -/
def FVal.rsqrt : FVal → FVal
  | .nan => .nan
  | .inf n => if n then .nan else .fin false 0 0
  | .fin n m e =>
    if m = 0 then .inf n
    else if n then .nan
    else
      let odd := (e % 2).toNat
      let m' := m * 2 ^ odd
      let k := 2 * (m'.log2 + 64)
      let r := isqrt (2 ^ k / m')
      .fin false (sticky r (r * r * m' = 2 ^ k)) (-((k / 2 : Nat) : Int) - (e - odd) / 2 - 1)

/-- Fraction bits of the fixed-point values that the series below use. -/
abbrev workBits : Nat := 256

/-- A series of fixed-point terms: `n` terms from index `i`, each made from the last. -/
def seriesSum (next : Nat → Int → Int) : Nat → Nat → Int → Int → Int
  | 0, _, _, acc => acc
  | n + 1, i, term, acc => seriesSum next n (i + 1) (next i term) (acc + term)

/-- atanh(1/k) in fixed point, or atan(1/k) with alternating signs: Σ ± 1 / ((2i+1) k^(2i+1)). -/
def inverseTan (alternating : Bool) (k : Nat) : Nat → Nat → Int → Int → Int
  | 0, _, _, acc => acc
  | n + 1, i, pow, acc =>
    let t := pow / (2 * i + 1 : Nat)
    inverseTan alternating k n (i + 1) (pow / ((k * k : Nat) : Int))
      (if alternating && i % 2 == 1 then acc - t else acc + t)

/-- ln 2 = 2 atanh(1/3) in fixed point. -/
def ln2Fixed : Int := 2 * inverseTan false 3 120 0 (2 ^ workBits / 3) 0

/-- π = 16 atan(1/5) − 4 atan(1/239) in fixed point (Machin). -/
def piFixed : Int :=
  16 * inverseTan true 5 80 0 (2 ^ workBits / 5) 0 - 4 * inverseTan true 239 40 0 (2 ^ workBits / 239) 0

/-- e^y in fixed point for 0 ≤ y < 1. -/
def expFixed (y : Int) : Int :=
  seriesSum (fun i t => t * y / 2 ^ workBits / ((i + 1 : Nat) : Int)) 70 0 (2 ^ workBits) 0

/-- Floor of a finite value, and its fraction in fixed point. -/
def splitFixed (neg : Bool) (mag : Nat) (exp : Int) : Int × Int :=
  let fx := if exp + workBits ≥ 0 then alignTo (-(workBits : Int)) neg mag exp
    else (alignTo exp neg mag exp) / 2 ^ (-(exp + workBits)).toNat
  (fx / 2 ^ workBits, fx % 2 ^ workBits)

/-- 2^x (R129, R131). -/
def FVal.exp2 : FVal → FVal
  | .nan => .nan
  | .inf n => if n then .fin false 0 0 else .inf false
  | .fin n m e =>
    if m = 0 then .fin false 1 0
    else if (m.log2 : Int) + e ≥ 9 then .fin false 1 (if n then -400 else 400)
    else
      let p := splitFixed n m e
      if p.2 = 0 ∧ -(workBits : Int) ≤ e then .fin false 1 p.1
      else .fin false (sticky (expFixed (p.2 * ln2Fixed / 2 ^ workBits)).toNat false) (p.1 - workBits - 1)

/-- log2 x (R129, R131). -/
def FVal.log2 : FVal → FVal
  | .nan => .nan
  | .inf n => if n then .nan else .inf false
  | .fin n m e =>
    if m = 0 then .inf true
    else if n then .nan
    else if m = 2 ^ m.log2 then .ofInt ((m.log2 : Int) + e) 0
    else
      let one : Int := 2 ^ workBits
      let s := (m : Int) * 2 ^ (workBits - m.log2)
      let z := (s - one) * one / (s + one)
      let z2 := z * z / one
      let ln := 2 * (seriesSum (fun i t => t * (2 * i + 1 : Nat) / (2 * i + 3 : Nat) * z2 / one) 140 0 z 0)
      let v := ((m.log2 : Int) + e) * one + ln * one / ln2Fixed
      .fin (decide (v < 0)) (sticky v.natAbs false) (-(workBits : Int) - 1)

/-- sin(π r) for 0 < r ≤ 1/2, r = mag × 2^exp: r times π times a series in (π r)². -/
def sinPiCore (neg : Bool) (mag : Nat) (exp : Int) : FVal :=
  let one : Int := 2 ^ workBits
  let r := (splitFixed false mag exp).2
  let a := r * piFixed / one
  let a2 := a * a / one
  let s := seriesSum (fun i t => -(t * a2 / one / (((2 * i + 2) * (2 * i + 3) : Nat) : Int))) 60 0 one 0
  .fin neg (sticky (mag * (s * piFixed / one).toNat) false) (exp - workBits - 1)

/-- A finite value's magnitude modulo 2, at an exponent not above 0: the numerator over 2^k. -/
def modTwo (mag : Nat) (exp : Int) : Nat × Nat :=
  if exp ≥ 1 then (0, 0)
  else
    let k := (-exp).toNat
    (mag % 2 ^ (k + 1), k)

/-- sin(π x) for a finite x (R129, R131): exact at integers and half-integers. -/
def FVal.sinPi : FVal → FVal
  | .nan => .nan
  | .inf _ => .nan
  | .fin n m e =>
    let p := modTwo m e
    let one := 2 ^ p.2
    let r := p.1 % one
    let neg := n != decide (p.1 ≥ one)
    if r = 0 then .fin n 0 0
    else if 2 * r = one then .fin neg 1 0
    else if 2 * r < one then sinPiCore neg r (-(p.2 : Int))
    else sinPiCore neg (one - r) (-(p.2 : Int))

/-- cos(π x) for a finite x (R129, R131). -/
def FVal.cosPi : FVal → FVal
  | .nan => .nan
  | .inf _ => .nan
  | .fin _ m e =>
    let p := modTwo m e
    let one := 2 ^ p.2
    let r := p.1 % one
    let flip := decide (p.1 ≥ one)
    if r = 0 then .fin flip 1 0
    else if 2 * r = one then .fin false 0 0
    else if 2 * r < one then sinPiCore flip (one - 2 * r) (-(p.2 : Int) - 1)
    else sinPiCore (!flip) (2 * r - one) (-(p.2 : Int) - 1)

end Sys2Proof.Machine
end

