-- ==== Sys2Proof/Machine/Flags.lean ====
section
/-! DEFINITION. The numeric counters, which take the place of status flags (02 R34, R54, R55). -/

namespace Sys2Proof.Machine

/-- Where a count stops (R55). -/
abbrev countTop : Nat := 0xFFFFFFFFFFFFFFFE

/-- A count with `n` added, and whether it has reached its stop value (R55); the NTM_STAT bit follows an increment alone, so a count
that is written or restored at the stop value has none before the next (DESIGN CHOICE, log entry 166). -/
def addCount (w : Word) (n : Nat) : Word × Bool :=
  (BitVec.ofNat 64 (satTo countTop (w.toNat + n)), decide (n ≠ 0 ∧ w.toNat + n ≥ countTop))

/-- How many results fall in each class. -/
structure Tally where
  sat : Nat := 0
  flush : Nat := 0
  nan : Nat := 0
  inf : Nat := 0
  deriving DecidableEq, Repr

/-- The increments of a launch that has not ended its part on the core; they go on where a counter has stopped (R58). -/
def CoreLaunch.add (l : CoreLaunch) (t : Tally) : CoreLaunch :=
  if l.done then l else { l with sat := l.sat + t.sat, flush := l.flush + t.flush, nan := l.nan + t.nan, inf := l.inf + t.inf }

/-- A tally with its counts added to a core's counters, and to the increments of its launch (R55, R58). -/
def CoreSt.tally (v : CoreSt) (t : Tally) : CoreSt :=
  let a := addCount v.ntmSat t.sat
  let b := addCount v.ntmFlush t.flush
  let c := addCount v.ntmNan t.nan
  let d := addCount v.ntmInf t.inf
  { v with launch := v.launch.map fun l => l.add t, ntmSat := a.1, ntmFlush := b.1, ntmNan := c.1, ntmInf := d.1,
           ntmStat := v.ntmStat ||| flagAt 0 a.2 ||| flagAt 1 b.2 ||| flagAt 2 c.2 ||| flagAt 3 d.2 }

/-- A tally of one result (R54). -/
def Tally.of : Count → Tally
  | .none => {}
  | .sat => { sat := 1 }
  | .flush => { flush := 1 }
  | .nan => { nan := 1 }
  | .inf => { inf := 1 }

/-- Two tallies together. -/
def Tally.plus (a b : Tally) : Tally := ⟨a.sat + b.sat, a.flush + b.flush, a.nan + b.nan, a.inf + b.inf⟩

/-- The tally of a list of results. -/
def Tally.sum (cs : List Count) : Tally := cs.foldl (fun t c => t.plus (Tally.of c)) {}

end Sys2Proof.Machine
end

