-- ==== Sys2Proof/Machine/Clock.lean ====
section
/-! DEFINITION. Spans of time in edges of NCLK, and the plumb counter at an edge (01 R25 to R31). -/

namespace Sys2Proof.Machine

/-- NCLK edges per microsecond: NCLK is 1.2 GHz (01 Clocks). -/
abbrev usEdges : Nat := 1200

/-- NCLK edges per millisecond. -/
abbrev msEdges : Nat := 1200000

/-- The window in which the counter is adjusted at most once (01 R30, 12 R356). -/
abbrev slewEdges : Nat := 1024

/-- The counter adjusts at this edge: a slew is in force and the last adjustment lies a window back (R356). -/
def Plumb.adjusts (p : Plumb) (clk : Nat) : Bool := p.slew != 0 && decide (p.lastAdjust + slewEdges ≤ clk)

/-- What an edge adds: 1, or 2 or 0 at an adjustment (01 R30, 12 R356). -/
def Plumb.increment (p : Plumb) (clk : Nat) : Word :=
  if p.adjusts clk then (if p.slew > 0 then 2 else 0) else 1

/-- The counter after an edge. -/
def Plumb.tick (p : Plumb) (clk : Nat) : Plumb :=
  { p with now := p.now + p.increment clk, lastAdjust := if p.adjusts clk then clk else p.lastAdjust }

end Sys2Proof.Machine
end

