-- ==== Sys2Proof/Machine/Errors.lean ====
section
/-! DEFINITION. Error records and the interrupts that report them (15 R441 to R449, 13 R368). -/

namespace Sys2Proof.Machine

/-! ## Interrupts (13 R368) -/

/-- A vector's message, with the address and data of its table entry (13 R368). -/
def sendVector (fn : CtxId) (vec : Nat) (s : State) : State :=
  let e := s.host.msixEntry.get (0, 0) (1024 * fn.val + vec)
  s.emit (.msix fn vec e.1 e.2)

/-- Raise a vector of a function: a message, or the pending bit while the fence stands, MSI-X is off or the
vector is masked. -/
def raiseVector (fn : CtxId) (vec : Nat) (s : State) : State :=
  let k := 1024 * fn.val + vec
  if s.host.up && !s.host.fence && s.host.msixOn.get false fn.val && s.host.msixUnmasked.get false k then
    sendVector fn vec s
  else { s with host := { s.host with msixPending := s.host.msixPending.set false k true } }

/-- HIF_EVVEC.err_vec. -/
def raiseErrVec (s : State) : State := raiseVector 0 (bitsAt s.host.evVec 0 10) s

/-- HIF_EVVEC.orph_vec. -/
def raiseOrphVec (s : State) : State := raiseVector 0 (bitsAt s.host.evVec 16 10) s

/-! ## Records (15 R443, R444, R447) -/

/-- An error record before it is numbered: `names` is the context that the detection names. -/
structure ErrRec where
  cause : Nat
  sev : Nat
  names : Option CtxId := none
  loc : Nat := 0
  sub : Nat := 0
  lidx : Nat := 0
  pidx : Nat := 0
  pos : Nat := 0
  addr : Nat := 0
  info0 : Nat := 0
  info1 : Nat := 0
  snapLost : Bool := false
  /-- The contexts that an UNCONTAINED detection taints, where it names several (15 R438). -/
  taints : Option (List CtxId) := none
  deriving DecidableEq, Repr

/-- Severity codes (R444). -/
abbrev sevCorrected : Nat := 0
/-- Detected before consumption (R444). -/
abbrev sevPoisoned : Nat := 1
/-- Detected, possibly after consumption (R444). -/
abbrev sevUncontained : Nat := 2
/-- A reset rung started (R444). -/
abbrev sevReset : Nat := 3
/-- A report without a corrupted value (R444). -/
abbrev sevEvent : Nat := 4

/-- The die-level physical core behind a logical core: logical cores skip the core that the map marks (01 R18,
R443). -/
def physCore (s : State) (c : Nat) : Nat :=
  let k := c / 16
  let i := c % 16
  17 * k + (match s.fuses.map.get none k with
    | some (bad, _) => if bad.val ≤ i then i + 1 else i
    | none => i)

/-- A record located at a core, vector unit or local store (R443). -/
def atCore (s : State) (loc : Nat) (c : CoreId) (r : ErrRec) : ErrRec :=
  { r with loc := loc, lidx := c.val, pidx := physCore s c.val, names := some ((s.core c.val).seqCtx.toFin) }

/-- A record located at an engine (R443). -/
def atEngine (s : State) (c : CoreId) (e : EngId) (r : ErrRec) : ErrRec :=
  { r with loc := 0x02, sub := e.val, lidx := 4 * c.val + e.val, pidx := 4 * physCore s c.val + e.val,
           names := some ((s.core c.val).seqCtx.toFin) }

/-- A record located at a place whose physical index is its logical one (R443). -/
def atPlace (loc idx : Nat) (r : ErrRec) : ErrRec := { r with loc := loc, lidx := idx, pidx := idx }

/-- The record names a confidential context (R446). -/
def ErrRec.redacted (s : State) (r : ErrRec) : Bool :=
  match r.names with
  | some k => (s.ctx k.val).conf
  | none => false

/-- The 64 bytes of a record (R443, R446). -/
def ErrRec.image (s : State) (r : ErrRec) (redact coalesced : Bool) (tDet : Word) (count : Nat) : Bytes :=
  let flags := s.plumb.valid.toNat + 2 * r.snapLost.toNat + 4 * redact.toNat
    + 8 * (r.sev == sevUncontained && r.names.isNone && r.taints.isNone).toNat + 16 * coalesced.toNat
  let hide (n : Nat) : Nat := if redact then 0 else n
  leBytes 8 tDet.toNat ++ leBytes 4 s.err.seq.toNat ++ leBytes 1 r.cause ++ leBytes 1 r.sev ++ leBytes 1 flags
    ++ leBytes 1 (match r.names with | some k => k.val | none => 0xFF) ++ leBytes 1 r.loc ++ leBytes 1 r.sub
    ++ leBytes 2 r.lidx ++ leBytes 2 r.pidx ++ leBytes 2 r.pos ++ leBytes 8 (hide r.addr)
    ++ leBytes 8 (hide r.info0) ++ leBytes 8 (hide r.info1) ++ leBytes 8 count ++ zeros 8

/-- ERR_STAT.full. -/
def ErrLog.full (e : ErrLog) : Bool := (e.tail + 1) % 1024 == e.head

/-- Where an unstored record of a severity stops counting (R449). -/
abbrev lostTop : Nat := 0xFFE

/-- Write one record at the tail, or count it as lost; either way it takes a number and raises err_vec (R421,
R441, R442). -/
def storeRecord (sev : Nat) (image full : Bytes) (secret : Bool) (s : State) : State :=
  let e := s.err
  let e' := if e.full then
      { e with ovf := true, seq := e.seq + 1, lost := e.lost.set 0 sev (satTo lostTop (e.lost.get 0 sev + 1)) }
    else
      { e with ring := e.ring.set [] e.tail image, seq := e.seq + 1, tail := (e.tail + 1) % 1024,
               unredacted := e.unredacted.set [] e.tail (if secret then full else []) }
  raiseErrVec { s with err := e' }

/-- A record written as `r` now says, at time `tDet` for `count` events. -/
def writeRecord (r : ErrRec) (coalesced : Bool) (tDet : Word) (count : Nat) (s : State) : State :=
  let secret := r.redacted s
  storeRecord r.sev (r.image s secret coalesced tDet count) (r.image s false coalesced tDet count) secret s

/-- Contexts that an UNCONTAINED detection taints: the one it names, or every enabled one (R430). -/
def taint (names : Option CtxId) (s : State) : State :=
  { s with
    ctxs := (allCtxs.filter fun k => match names with | some n => n = k | none => (s.ctx k.val).en).foldl
      (fun t k => t.update .reset k.val fun c => { c with tainted := true }) s.ctxs
    cores := (allCores.filter fun c => (s.core c.val).seqState == .running &&
        (match names with | some n => (s.core c.val).seqCtx.toNat == n.val | none => true)).foldl
      (fun t c => t.update .reset c.val fun v => { v with poisonSeen := true }) s.cores }

/-- A window of the same cause, location and severity (R445). -/
def ErrWindow.covers (w : ErrWindow) (r : ErrRec) : Bool :=
  w.cause == r.cause && w.loc == r.loc && w.lidx == r.lidx && w.pos == r.pos && w.sev == r.sev

/-- The millisecond of a window has passed (R445). -/
def ErrWindow.over (w : ErrWindow) (clk : Nat) : Bool := decide (w.opened + msEdges ≤ clk)

/-- The last detection that a window holds, as its coalesced record (R445): the record's own image with its
number, its time, the coalesced flag and the count set. -/
def ErrWindow.image (w : ErrWindow) (seq : BitVec 32) : Bytes :=
  let b := putLe w.last 0 8 w.lastTime.toNat
  let b := putLe b 8 4 seq.toNat
  let b := putLe b 14 1 ((byteAt b 14).toNat ||| 16)
  putLe b 48 8 w.count

/-- The image with the fields a confidential context hides set to zero (R446). -/
def redactImage (b : Bytes) : Bytes :=
  if (byteAt b 14).getLsbD 2 then b.take 24 ++ zeros 24 ++ b.drop 48 else b

/-- Close a window: its coalesced record is written if a later detection fell in it (R445). -/
def closeWindow (w : ErrWindow) (s : State) : State :=
  if w.count = 0 then s
  else
    let full := w.image s.err.seq
    storeRecord w.sev (redactImage full) full ((byteAt full 14).getLsbD 2) s

/-- A detection: taint at once, then a record of its own or one more event of an open window (R425, R430,
R445). -/
def logError (r : ErrRec) (s : State) : State :=
  let s := if r.sev != sevUncontained then s
    else match r.taints with
      | some ks => ks.foldl (fun s k => taint (some k) s) s
      | none => taint r.names s
  match s.err.windows.find? (fun w => w.covers r && !w.over s.clk) with
  | some _ =>
    let image := r.image s false true s.plumb.now 1
    let image := putLe image 14 1 ((byteAt image 14).toNat ||| (if r.redacted s then 4 else 0))
    let add (w : ErrWindow) : ErrWindow :=
      if w.covers r && !w.over s.clk then { w with last := image, lastTime := s.plumb.now, count := w.count + 1 } else w
    { s with err := { s.err with windows := s.err.windows.map add } }
  | none =>
    let old := s.err.windows.filter fun w => w.covers r
    let s := { s with err := { s.err with windows := s.err.windows.filter fun w => !w.covers r } }
    let s := old.foldl (fun s w => closeWindow w s) s
    let s := writeRecord r false s.plumb.now 1 s
    { s with err := { s.err with windows := s.err.windows ++
        [⟨r.cause, r.loc, r.lidx, r.pos, r.sev, s.clk, [], 0, 0⟩] } }

end Sys2Proof.Machine
end

