-- ==== Sys2Proof/Machine/Memory.lean ====
section
/-! DEFINITION. Memory: the address map, bytes and poison, latent errors, translation (chapter 08). -/

namespace Sys2Proof.Machine

/-! ## The address map (R199) -/

/-- First address beyond DRAM. -/
abbrev dramEnd : Nat := 0x018000000000
/-- First address beyond the context DRAM addresses (R200). -/
abbrev ctxDramEnd : Nat := 0x200000000000
/-- Cluster store 0. -/
abbrev clusterBase : Nat := 0x200000000000
/-- Bytes of a cluster store. -/
abbrev clusterSize : Nat := 0x02000000
/-- Local store 0. -/
abbrev localBase : Nat := 0x210000000000
/-- Bytes of a local store. -/
abbrev localSize : Nat := 0x00800000
/-- Control space. -/
abbrev controlBase : Nat := 0x300000000000

/-- What an address of a program names (R199, R200). -/
inductive Place where
  | dram
  | clusterStore (k : Nat)
  | localStore (c : Nat)
  | control
  | nothing
  deriving DecidableEq, Repr

/-- The range of the map that an address falls in. -/
def placeOf (a : Nat) : Place :=
  if a < ctxDramEnd then .dram
  else if a < clusterBase + 16 * clusterSize then .clusterStore ((a - clusterBase) / clusterSize)
  else if localBase ≤ a ∧ a < localBase + 256 * localSize then .localStore ((a - localBase) / localSize)
  else if controlBase ≤ a ∧ a < controlBase + 0x10000000 then .control
  else .nothing

/-- The address of a byte of a core's local store. -/
def localAddr (c : CoreId) (off : Nat) : Nat := localBase + c.val * localSize + off

/-- The stack of a physical address (R210). -/
def stackOf (pa : Nat) : Nat := Nat.xor (field pa 9 4) (field pa 13 4)
/-- The stack-local address (R210). -/
def stackLocal (pa : Nat) : Nat := pa / 8192 * 512 + pa % 512
/-- The channel within the stack (R210). -/
def channelOf (pa : Nat) : Nat := Nat.xor (field (stackLocal pa) 9 5) (field (stackLocal pa) 14 5)

/-! ## Bytes and poison -/

/-- One byte. -/
def State.byte (s : State) (a : Nat) : Byte := s.mem.get Memory.unlisted a

/-- `n` bytes from a device address, ascending. -/
def State.bytes (s : State) (a n : Nat) : Bytes := (List.range n).map fun i => s.byte (a + i)

/-- Device words that `n` bytes from `a` touch, by number. -/
def wordsOf (a n : Nat) : List Nat := if n = 0 then [] else List.range' (a / 8) ((a + n - 1) / 8 - a / 8 + 1)

/-- A word is poisoned (R202, R213). -/
def State.wordPoisoned (s : State) (w : Nat) : Bool := s.poison.get false w

/-- Some word that `n` bytes from `a` touch is poisoned. -/
def State.poisonedIn (s : State) (a n : Nat) : Bool := (wordsOf a n).any s.wordPoisoned

/-- A write of `n` bytes at `a` replaces all of word `w`'s protection unit: the word's 8 bytes in a store (R202),
its line's 64 bytes in DRAM (R213). -/
def coversUnit (a n w : Nat) : Bool :=
  if 8 * w < ctxDramEnd then decide (a ≤ w / 8 * 64) && decide (w / 8 * 64 + 64 ≤ a + n)
  else decide (a ≤ 8 * w) && decide (8 * w + 8 ≤ a + n)

/-- The poison marks after a write of `n` bytes at `a`, where `bad` says which words are written poisoned (R202,
R213, R424). -/
def poisonAfter (t : Table Bool) (a n : Nat) (bad : Nat → Bool) : Table Bool :=
  t.setAll false (wordsOf a n) fun w => bad w || (t.get false w && !coversUnit a n w)

/-- Bytes written at consecutive addresses. -/
def putBytes (m : Memory) (a : Nat) : Bytes → Memory
  | [] => m
  | b :: bs => putBytes (m.set Memory.unlisted a b) (a + 1) bs

/-- The latent errors after a write of `n` bytes at `a`: a protection unit written whole is encoded afresh (R202, R213). -/
def latentAfter (t : Table Latent) (a n : Nat) : Table Latent := t.drop (coversUnit a n)

/-- A write at a device address, with the words that it writes poisoned. -/
def State.write (s : State) (a : Nat) (bs : Bytes) (bad : Nat → Bool) : State :=
  { s with
    mem := putBytes s.mem a bs
    poison := poisonAfter s.poison a bs.length bad
    latent := latentAfter s.latent a bs.length }

/-- A write of sound bytes. -/
def State.writeClean (s : State) (a : Nat) (bs : Bytes) : State := s.write a bs fun _ => false

/-- A write of `n` poisoned bytes: the bytes keep what stood there (the manual gives them no value). -/
def State.writePoison (s : State) (a n : Nat) : State :=
  { s with poison := poisonAfter s.poison a n fun _ => true, latent := latentAfter s.latent a n }

/-! ## Latent errors that a read finds (R202, R211 to R216; DESIGN CHOICE, log entry 8) -/

/-- The context that an error in memory names: the one whose partition holds the store, or to which the DRAM frame is
assigned (R443, R446; DEDUCED, log entry 136). -/
def memoryContext (s : State) (a : Nat) : Option CtxId :=
  match placeOf a with
  | .localStore i => allCtxs.find? fun k => (s.ctx k.val).hasCore i
  | .clusterStore i => allCtxs.find? fun k => (s.ctx k.val).hasCluster i
  | _ =>
    let f := s.atu.frm.get 0 (a / 0x40000000)
    if f.getLsbD 7 then some (Fin.ofNat 64 (f.toNat % 64)) else none

/-- A record of a store word (R447). -/
def storeRecordOf (cause sev w syndrome : Nat) (s : State) : ErrRec :=
  let r : ErrRec := { cause := cause, sev := sev, names := memoryContext s (8 * w), addr := 8 * w, info0 := syndrome }
  match placeOf (8 * w) with
  | .clusterStore k => atPlace 0x05 k r
  | .localStore c => { r with loc := 0x04, lidx := c, pidx := physCore s c }
  | _ => r

/-- A store read finds a correctable or an uncorrectable error in a word (R202). -/
def storeErrorFound (w : Nat) (l : Latent) (s : State) : State :=
  let s := { s with latent := s.latent.set noLatent w noLatent }
  match l with
  | .sound => s
  | .correctable syn => logError (storeRecordOf 0x01 sevCorrected w syn s) s
  | .uncorrectable syn =>
    logError (storeRecordOf 0x02 sevPoisoned w syn s) { s with poison := s.poison.set false w true }

/-- Hits within the last `span` edges, the newest for each line kept. -/
def recentHits (hits : List (Nat × Nat)) (line clk span : Nat) : List (Nat × Nat) :=
  (hits.filter fun h => h.1 != line && decide (clk < h.2 + span)) ++ [(line, clk)]

/-- STK_STAT with a saturating counter field raised by one. -/
def bumpStat (w : Word) (lo n top : Nat) : Word := setBits w lo n (satTo top (bitsAt w lo n + 1))

/-- A lane group of a channel is marked failed (R212). -/
def failLaneGroup (k ch g : Nat) (s : State) : State :=
  let st := s.stack k
  if st.failedGroups.contains (ch, g) then s
  else
    let fresh := st.failedGroups.all fun f => f.1 != ch
    let s := s.setStack k { st with
      failedGroups := st.failedGroups ++ [(ch, g)]
      stat := if fresh then bumpStat st.stat 40 6 32 else st.stat }
    logError (atPlace 0x07 k { cause := 0x05, sev := sevEvent, sub := ch, pos := g, info0 := ch, info1 := g }) s

/-- An uncorrectable line: all eight words poisoned, counted and recorded (R211, R213). -/
def dramUncorrectable (line : Nat) (s : State) : State :=
  let k := stackOf line
  let st := s.stack k
  let s := s.setStack k { st with stat := bumpStat st.stat 24 16 0xFFFE }
  let s := { s with poison := s.poison.setAll false (wordsOf line 64) fun _ => true }
  logError (atPlace 0x07 k
    { cause := 0x04, sev := sevPoisoned, names := memoryContext s line, sub := channelOf line, addr := line }) s

/-- A read of a line with latent error `l` cannot correct it (R211, R212). -/
def beyondCode (s : State) (line : Nat) : Latent → Bool
  | .sound => false
  | .uncorrectable _ => true
  | .correctable sym => (s.stack (stackOf line)).failedGroups.any fun f => f.1 == channelOf line && f.2 != sym

/-- A row is copied to its spare: what is latent in it is corrected, or found uncorrectable (R216; that the copy counts no
correction is a DESIGN CHOICE, log entry 156). -/
def copyRow (k row : Nat) (s : State) : State :=
  let inRow (w : Nat) : Bool := decide (8 * w < ctxDramEnd) && stackOf (8 * w) == k && Config.dramRow (8 * w) == row
  let lost := s.latent.rows.filter fun r => inRow r.1 && beyondCode s (8 * r.1) r.2
  lost.foldl (fun s r => dramUncorrectable (8 * r.1) s) { s with latent := s.latent.drop inRow }

/-- The key of a bank of a stack in the fuse records. -/
def bankKey (k bank : Nat) : Nat := 65536 * k + bank

/-- Spare rows of a bank that are taken: by manufacture, and by repairs (R216). -/
def sparesTaken (s : State) (k bank : Nat) : Nat :=
  s.fuses.sparesUsed.get 0 (bankKey k bank) + (s.stack k).sparesUsed.get 0 bank

/-- A row is redirected to a spare of its bank. -/
def Stack.redirect (x : Stack) (bank row : Nat) : Stack :=
  { x with sparedRows := row :: x.sparedRows, sparesUsed := x.sparesUsed.update 0 bank fun n => n + 1 }

/-- A row is spared in the field, if its bank has a spare left (R216). -/
def spareRow (k row line : Nat) (s : State) : State :=
  if (s.stack k).sparedRows.contains row then s
  else
    let bank := Config.dramBank row
    let full := decide (sparesTaken s k bank ≥ 8)
    let s := if full then s else
      let s := copyRow k row s
      let x := (s.stack k).redirect bank row
      let s := s.setStack k { x with rowHits := x.rowHits.set [] row [], stat := bumpStat x.stat 48 8 0xFE }
      { s with fuses := { s.fuses with repair := s.fuses.repair ++ [⟨1, k, bank, row, s.fuses.boots, true⟩] } }
    logError (atPlace 0x07 k { cause := 0x06, sev := sevEvent, addr := line, info0 := bank, info1 := full.toNat }) s

/-- A corrected line of DRAM: its count, its record, and what repeated corrections lead to (R211, R212, R216). -/
def dramCorrected (line sym : Nat) (s : State) : State :=
  let k := stackOf line
  let ch := channelOf line
  let row := Config.dramRow line
  let st := s.stack k
  let lanes := recentHits (st.laneHits.get [] (18 * ch + sym)) line s.clk msEdges
  let rows := recentHits (st.rowHits.get [] row) line s.clk (1000 * msEdges)
  let s := s.setStack k { st with
    stat := bumpStat st.stat 0 24 0xFFFFFE
    laneHits := st.laneHits.set [] (18 * ch + sym) lanes
    rowHits := st.rowHits.set [] row rows }
  let s := logError (atPlace 0x07 k
    { cause := 0x03, sev := sevCorrected, names := memoryContext s line, sub := ch, pos := sym, addr := line, info0 := sym }) s
  let s := if lanes.length ≥ 64 then failLaneGroup k ch sym s else s
  if rows.length ≥ 8 then spareRow k row line s else s

/-- A read of a DRAM line finds an error. In a channel with a failed lane group, a further symbol is
uncorrected (R212). -/
def dramErrorFound (w : Nat) (l : Latent) (s : State) : State :=
  let s := { s with latent := s.latent.set noLatent w noLatent }
  let line := 8 * w
  let failed := (s.stack (stackOf line)).failedGroups.filter fun f => f.1 == channelOf line
  match l with
  | .sound => s
  | .correctable sym =>
    if failed.all fun f => f.2 == sym then dramCorrected line sym s else dramUncorrectable line s
  | .uncorrectable _ => dramUncorrectable line s

/-- Whether a latent error at word `w` lies in what a read of `n` bytes at `a` brings in: the words in a store,
the lines in DRAM. -/
def readMeets (a n w : Nat) : Bool :=
  if 8 * w < ctxDramEnd then decide (a / 64 * 8 ≤ w) && decide (8 * w < a + n)
  else decide (a / 8 ≤ w) && decide (8 * w < a + n)

/-- The state after a read of `n` bytes at `a` has met the errors latent there. -/
def State.touch (s : State) (a n : Nat) : State :=
  (s.latent.rows.filter fun r => readMeets a n r.1).foldl
    (fun s r => if 8 * r.1 < ctxDramEnd then dramErrorFound r.1 r.2 s else storeErrorFound r.1 r.2 s) s

/-- A read of `n` bytes at `a` meets a latent error that the code cannot correct (R202, R211, R212). -/
def State.latentBad (s : State) (a n : Nat) : Bool :=
  s.latent.rows.any fun r => readMeets a n r.1 &&
    (if 8 * r.1 < ctxDramEnd then beyondCode s (8 * r.1) r.2 else r.2 matches .uncorrectable _)

/-! ## Translation (R219 to R226) -/

/-- What an access needs of a page (R221). -/
structure Need where
  r : Bool := false
  w : Bool := false
  x : Bool := false
  deriving DecidableEq, Repr

/-- The kinds of ATU_FLT.kind (R226). -/
inductive WalkFault where
  | notMapped | permission | frame | walk
  deriving DecidableEq, Repr

/-- The code of a kind (R226). -/
def WalkFault.code : WalkFault → Nat
  | .notMapped => 0 | .permission => 1 | .frame => 2 | .walk => 3

/-- The frame of a physical address is assigned to the context (R222). -/
def frameOwned (s : State) (k : CtxId) (pa : Nat) : Bool :=
  let f := s.atu.frm.get 0 (pa / 0x40000000)
  f.getLsbD 7 && f.toNat % 64 == k.val

/-- A table entry that breaks R220; `low` is the number of address bits that must be zero. -/
def malformed (e : Nat) (low : Nat) : Bool :=
  field e 5 7 != 0 || field e 41 23 != 0 || field e 0 low / 4096 != 0 || decide (field e 12 29 * 4096 ≥ dramEnd)

/-- The parity of the register of a frame fails at its use (15 R423). -/
def frameParityBad (s : State) (pa : Nat) : Bool := s.upsets.frame == some (pa / 0x40000000)

/-- Registers of frames are written afresh, with good parity. -/
def State.setFrames (s : State) (frm : Table Byte) (written : Nat → Bool) : State :=
  { s with
    atu := { s.atu with frm := frm }
    upsets := { s.upsets with frame := s.upsets.frame.filter fun f => !written f } }

/-- An entry of a table: the walk reads it from the context's frames, and not poisoned (R222, R226). -/
def tableEntry (s : State) (k : CtxId) (pa : Nat) : Except WalkFault Nat :=
  if frameParityBad s pa then .error .walk
  else if !frameOwned s k pa then .error .frame
  else if s.poisonedIn pa 8 || s.latentBad pa 8 then .error .walk
  else .ok (leNat (s.bytes pa 8))

/-- A page that an entry maps, checked for its frame and its permissions (R221, R222): the physical address of
`va`. -/
def mappedPage (s : State) (k : CtxId) (e size va : Nat) (need : Need) : Except WalkFault Nat :=
  let page := field e 12 29 * 4096
  if frameParityBad s page then .error .walk
  else if !frameOwned s k page then .error .frame
  else if (need.r && !e.testBit 2) || (need.w && !e.testBit 3) || (need.x && !e.testBit 4) then .error .permission
  else .ok (page + va % size)

/-- The address of the level-1 entry that a walk of `va` reads (R219). -/
def rootEntryAddr (s : State) (k : CtxId) (va : Nat) : Nat :=
  bitsAt (s.ctx k.val).atuPtb 18 23 * 0x40000 + 8 * field va 30 15

/-- The two-level walk (R219): the physical address of a context DRAM address. -/
def walk (s : State) (k : CtxId) (va : Nat) (need : Need) : Except WalkFault Nat :=
  let ptb := (s.ctx k.val).atuPtb
  if !bitAt ptb 0 then .error .walk
  else do
    let e ← tableEntry s k (rootEntryAddr s k va)
    if !e.testBit 0 then .error .notMapped
    else if e.testBit 1 then
      if malformed e 30 then .error .walk else mappedPage s k e 0x40000000 va need
    else if malformed e 12 then .error .walk
    else do
      let e2 ← tableEntry s k (field e 12 29 * 4096 + 8 * field va 21 9)
      if !e2.testBit 0 || !e2.testBit 1 then .error .notMapped
      else if malformed e2 21 then .error .walk
      else mappedPage s k e2 0x200000 va need

/-- The 2 MiB pages that hold the text and the training-state list of a generation that exists (10 R288). -/
def State.textPage (s : State) (page : Nat) : Bool :=
  s.ctxs.rows.any fun c => c.2.images.rows.any fun i => i.2.gens.any fun g => g.pages.contains page

/-- A walk for a core or a data mover: a write to a text page fails with kind permission (10 R288). -/
def translate (s : State) (k : CtxId) (va : Nat) (need : Need) : Except WalkFault Nat := do
  let pa ← walk s k va need
  if need.w && s.textPage (pa / 0x200000) then .error .permission else .ok pa

/-- What the reads of a walk that ends with kind walk have met: the level-1 entry, and the level-2 entry where the first
names a table (R219, R226). -/
def touchWalk (k : CtxId) (va : Nat) (s : State) : State :=
  let a := rootEntryAddr s k va
  if !bitAt (s.ctx k.val).atuPtb 0 || !frameOwned s k a then s
  else
    let e := leNat (s.bytes a 8)
    let b := field e 12 29 * 4096 + 8 * field va 21 9
    let sound := !(s.poisonedIn a 8 || s.latentBad a 8)
    let s := s.touch a 8
    if sound && e.testBit 0 && !e.testBit 1 && frameOwned s k b then s.touch b 8 else s

/-- A walk that a frame's parity ended is recorded: a control register whose check failed at its use (15 R423, R430). -/
def recordFrameParity (k : CtxId) (va : Nat) (need : Need) (s : State) : State :=
  match s.upsets.frame with
  | none => s
  | some f =>
    if walk { s with upsets := { s.upsets with frame := none } } k va need = .error .walk then s
    else logError { atPlace 0x00 0 { cause := 0x1A, sev := sevUncontained, addr := 0x70000 + f } with names := some k } s

/-- The first TRANSLATION fault of a context since valid was cleared (R226). -/
def recordWalkFault (k : CtxId) (va : Nat) (f : WalkFault) (need : Need) (s : State) : State :=
  let s := if f = .walk then recordFrameParity k va need (touchWalk k va s) else s
  let c := s.ctx k.val
  if bitAt c.atuFlt 45 then s
  else s.setCtx k.val { c with atuFlt := putAt 0 (va % 2 ^ 45) ||| flagAt 45 true ||| putAt 46 f.code
                                ||| flagAt 48 need.w ||| flagAt 49 need.x }

end Sys2Proof.Machine
end

