-- ==== Sys2Proof/Machine/Ops.lean ====
section
/-! DEFINITION. The operations that every instruction is built from: registers of a core, issue, taking a fault,
scalar memory accesses, semaphore names (chapters 06 to 09). -/

namespace Sys2Proof.Machine

/-- What every meaning answers. -/
abbrev Answer : Type := Host.Outcome State Fault Refusal

/-! ## Registers (06 Architectural registers) -/

/-- A `g` register; g0 reads zero. -/
def CoreSt.gread (v : CoreSt) (r : GReg) : Word := if r = 0 then 0 else v.g.get 0 r.val

/-- A write of a `g` register; a write to g0 is discarded. -/
def CoreSt.gwrite (v : CoreSt) (r : GReg) (x : Word) : CoreSt :=
  if r = 0 then v else { v with g := v.g.set 0 r.val x }

/-- A predicate register; p0 reads all ones (05 R118). -/
def CoreSt.pread (v : CoreSt) (r : PReg) : BitVec 256 := if r = 0 then BitVec.allOnes 256 else v.p.get 0 r.val

/-- A write of p1 to p7. -/
def CoreSt.pwrite (v : CoreSt) (r : PReg) (x : BitVec 256) : CoreSt := { v with p := v.p.set 0 r.val x }

/-- A tile descriptor register. -/
def CoreSt.tread (v : CoreSt) (r : TReg) : Option TileDesc := v.t.get none r.val

/-- A write of a tile descriptor register. -/
def CoreSt.twrite (v : CoreSt) (r : TReg) (d : TileDesc) : CoreSt := { v with t := v.t.set none r.val (some d) }

/-- The key of lane `i` of `vr`. -/
def laneKey (r : VReg) (i : Nat) : Nat := 256 * r.val + i

/-- A lane word. -/
def CoreSt.lane (v : CoreSt) (r : VReg) (i : Nat) : Word32 := v.v.get 0 (laneKey r i)

/-- The poison mark of a lane word. -/
def CoreSt.lanePoison (v : CoreSt) (r : VReg) (i : Nat) : Bool := v.vPoison.get false (laneKey r i)

/-- A lane word written, with its poison mark. -/
def CoreSt.setLane (v : CoreSt) (r : VReg) (i : Nat) (x : Word32) (bad : Bool) : CoreSt :=
  { v with v := v.v.set 0 (laneKey r i) x, vPoison := v.vPoison.set false (laneKey r i) bad }

/-- The active lanes of a predicate, ascending (05 R118). -/
def CoreSt.active (v : CoreSt) (pk : PReg) : List Nat :=
  (List.range 256).filter fun i => (v.pread pk).getLsbD i

/-- An engine of a core. -/
def CoreSt.engine (v : CoreSt) (e : EngId) : EngineSt := v.engines.get .reset e.val

/-- An engine replaced. -/
def CoreSt.setEngine (v : CoreSt) (e : EngId) (x : EngineSt) : CoreSt :=
  { v with engines := v.engines.set .reset e.val x }

/-- The hardware context whose work a core runs or last ran (06 R170). -/
def CoreSt.context (v : CoreSt) : CtxId := v.seqCtx.toFin

/-! ## Faults (06 R167 to R170) -/

/-- Cause codes (06 Faults). -/
abbrev causeIllegalInstr : Nat := 0x01
/-- Cause code. -/
abbrev causeIllegalOperand : Nat := 0x02
/-- Cause code. -/
abbrev causeIllegalState : Nat := 0x03
/-- Cause code. -/
abbrev causeAddress : Nat := 0x04
/-- Cause code. -/
abbrev causeTranslation : Nat := 0x05
/-- Cause code. -/
abbrev causePoison : Nat := 0x06
/-- Cause code. -/
abbrev causePeerLost : Nat := 0x07
/-- Cause code. -/
abbrev causeTransfer : Nat := 0x08
/-- Cause code. -/
abbrev causeContextStop : Nat := 0x09

/-- Executor codes of SEQ_FLT0.unit (06 R170). -/
abbrev unitSequencer : Nat := 0
/-- Executor code. -/
abbrev unitEngine : Nat := 1
/-- Executor code. -/
abbrev unitVector : Nat := 2
/-- Executor code. -/
abbrev unitMover : Nat := 3
/-- Executor code. -/
abbrev unitSemPort : Nat := 4
/-- Executor code. -/
abbrev unitState : Nat := 5
/-- Executor code. -/
abbrev unitFetch : Nat := 6

/-- A fault as an instruction detects it: what the record will hold beside the pc and the word, and the
translation failure that ATU_FLT records (06 R170, 08 R226). -/
structure Trap where
  cause : Nat
  detail : Nat := 0
  unit : Nat := unitSequencer
  eng : Nat := 0
  /-- 0 precise, 1 unit-precise, 2 imprecise (06 R167). -/
  prec : Nat := 0
  lane : Nat := 0
  addr : Nat := 0
  chip : BitVec 16 := 0
  walkFault : Option (WalkFault × Need) := none
  deriving DecidableEq, Repr

/-- The record of a trap of the instruction at `pc` with word `insn`. -/
def Trap.record (t : Trap) (pc : Addr) (insn : Word) : FaultRec :=
  ⟨t.cause, t.detail, t.unit, t.eng, t.prec, t.lane, pc, BitVec.ofNat 48 t.addr, t.chip, insn, false⟩

/-- A core that detects a fault: the first is kept for its record and stops issue, a later one only sets `more`
(06 R168, R169); faults of one cycle are those of commands one after the other (DESIGN CHOICE, log entry 159). -/
def CoreSt.detect (v : CoreSt) (r : FaultRec) : CoreSt :=
  if bitAt v.flt0 63 then { v with flt0 := v.flt0 ||| flagAt 23 true }
  else match v.fault with
    | some f => { v with fault := some { f with more := true } }
    | none => { v with fault := some r }

/-- Taking a fault, the one way every instruction and executor does: ATU_FLT records a translation failure, and
the core detects the fault (06 R168, 08 R226). -/
def takeFault (c : CoreId) (t : Trap) (pc : Addr) (insn : Word) (s : State) : State :=
  let s := match t.walkFault with
    | some (f, need) => recordWalkFault (s.core c.val).context t.addr f need s
    | none => s
  s.setCore c.val ((s.core c.val).detect (t.record pc insn))

/-! ## Issue (06 R145, R148) -/

/-- What an instruction's own effect answers: the state it leaves, or the fault it takes with the state that its
reads have left. -/
inductive Effect where
  | done (s : State)
  | trap (t : Trap) (s : State)
  deriving DecidableEq, Repr

/-- A core can issue: it runs, no wait or fence holds it, no fault or stop has reached it. -/
def CoreSt.canIssue (v : CoreSt) : Bool :=
  v.seqState == .running && v.hold == .none && v.fault.isNone && !v.stopping

/-- The core issues its next instruction: it can, and its context is not fenced (14 R407). -/
def State.coreIssues (s : State) (c : CoreId) : Bool :=
  (s.core c.val).canIssue && !s.ctxFenced (s.core c.val).context.val

/-- The word of an FZ instruction. -/
def fzWord (i : Instr) : Word := BitVec.ofNat 64 ((encodeFz i).getD 0)

/-- The detail of an instruction whose operands have no legal encoding (07 R195). -/
def illegalDetail (c : CoreId) (i : Instr) : Nat :=
  match decodeFz c ((encodeFz i).getD 0) with
  | .error d => d
  | .ok _ => 0

/-- The trap of a failed translation. -/
def walkTrap (a : Nat) (f : WalkFault) (need : Need) : Trap :=
  { cause := causeTranslation, addr := a, walkFault := some (f, need) }

/-- What the fetch of the next instruction meets: a fetch outside the program text that the launch pinned is an ADDRESS
fault, and a page that does not translate for a fetch is a TRANSLATION fault (R148, R170, 08 R221, R226). Neither has a word to
report: SEQ_FLT3 is 0, as R198 says of a poisoned one (DEDUCED, log entry 47). -/
def State.fetchFault (s : State) (c : CoreId) : Option Trap :=
  let v := s.core c.val
  match v.launch with
  | none => none
  | some l =>
    if v.pc.toNat < l.textBase.toNat || l.textBase.toNat + l.textLen < v.pc.toNat + 8 then
      some { cause := causeAddress, detail := 0x06, unit := unitFetch, addr := v.pc.toNat }
    else match translate s v.context v.pc.toNat { x := true } with
      | .ok _ => none
      | .error f => some { walkTrap v.pc.toNat f { x := true } with unit := unitFetch }

/-- Issue of instruction `i` on core `c`. Where the core cannot issue, nothing happens (DESIGN CHOICE, log entry 12). A fetch
that fails and an illegal encoding fault before the instruction has any effect. Otherwise `body` runs on the
state with the pc advanced; a precise fault leaves the pc at the instruction, any other lets it pass. -/
def issue (i : Instr) (c : CoreId) (s : State) (body : CoreSt → State → Effect) : Answer :=
  let v := s.core c.val
  if !s.coreIssues c then .next s
  else match s.fetchFault c with
  | some t => .next (takeFault c t v.pc 0 s)
  | none =>
    if !i.wf then
      .next (takeFault c { cause := causeIllegalInstr, detail := illegalDetail c i } v.pc (fzWord i) s)
    else
      match body v (s.setCore c.val { v with pc := v.pc + 8 }) with
      | .done s => .next s
      | .trap t s =>
        let s := if t.prec = 0 then s.setCore c.val { s.core c.val with pc := v.pc } else s
        .next (takeFault c t v.pc (fzWord i) s)

/-- An instruction that only changes its core's own registers. -/
def issueCore (i : Instr) (c : CoreId) (s : State) (f : CoreSt → CoreSt) : Answer :=
  issue i c s fun _ s => .done (s.setCore c.val (f (s.core c.val)))

/-- A self-test visit to a unit runs, or has fallen due and not started (15 R437). -/
def State.unitVisited (s : State) (u : BstUnit) : Bool :=
  (s.bst.visiting.any fun p => p.1 == u) || s.bst.due.any fun d => d.1 == u

/-- The held instruction `i` of a core leaves its unit and has its effect; it issued before, so a fault of the core since
then or a stop of its context does not keep it back (06 R168). -/
def resumeIssued (i : Instr) (c : CoreId) (s : State) (body : CoreSt → State → Effect) : Answer :=
  let w := { s.core c.val with hold := .none }
  match body { w with pc := w.pc - 8 } (s.setCore c.val w) with
  | .done s => .next s
  | .trap t s => .next (takeFault c t (w.pc - 8) (fzWord i) s)

/-- Issue of an instruction that a self-test visit holds: it waits in its unit, and the core's issue with it, until the visit
has ended (04 R108, 05 R144, 15 R437; that later instructions of other units wait too is timing: DESIGN CHOICE, log entry
149). -/
def issueVisited (visited : Bool) (i : Instr) (c : CoreId) (s : State) (body : CoreSt → State → Effect) : Answer :=
  if visited then issue i c s fun _ s => .done (s.setCore c.val { s.core c.val with hold := .visit i })
  else if (s.core c.val).hold == .visit i then resumeIssued i c s body
  else issue i c s body

/-- An instruction of the core waits in its unit for a visit to end. -/
def CoreSt.visitHeld (v : CoreSt) : Bool :=
  match v.hold with
  | .visit _ => true
  | _ => false

/-- A core that has detected a fault, or that its context stops, issues no more: what it waits for is abandoned (06 R168). -/
def CoreSt.stopsWork (v : CoreSt) : Bool := v.fault.isSome || v.stopping

/-! ## Addresses of scalar accesses (06 R148, R156) -/

/-- A sign-extended displacement added to a register (07 R175). -/
def displaced (base : Word) (off : BitVec 32) : Nat := (base + off.signExtend 64).toNat

/-- The device address that an access of a core reaches from address `a`: a store of the partition, or DRAM
mapped for the context (R156, 08 R199, R200). -/
def reach (s : State) (v : CoreSt) (a : Nat) (need : Need) : Except Trap Nat :=
  match placeOf a with
  | .dram =>
    match translate s v.context a need with
    | .ok pa => .ok pa
    | .error f => .error (walkTrap a f need)
  | .clusterStore k =>
    if (s.ctx v.context.val).hasCluster k then .ok a else .error { cause := causeAddress, detail := 0x04, addr := a }
  | .localStore i =>
    if (s.ctx v.context.val).hasCore i then .ok a else .error { cause := causeAddress, detail := 0x04, addr := a }
  | .control => .error { cause := causeAddress, detail := 0x05, addr := a }
  | .nothing => .error { cause := causeAddress, detail := 0x02, addr := a }

/-- A naturally aligned scalar access of `n` bytes (R156). -/
def scalarReach (s : State) (v : CoreSt) (a n : Nat) (need : Need) : Except Trap Nat :=
  if a % n ≠ 0 then .error { cause := causeAddress, detail := 0x01, addr := a } else reach s v a need

/-! ## The read-combining buffer (09 R236) -/

/-- Lines of the buffer. -/
abbrev bufLines : Nat := 4

/-- The bytes that a line of the buffer serves, with the poison of the words they touch. -/
def BufLine.serve (l : BufLine) (a n : Nat) : Bytes × Bool :=
  ((l.data.drop (a % 64)).take n,
   (List.range' (a % 64 / 8) ((a % 64 + n - 1) / 8 - a % 64 / 8 + 1)).any fun i => l.poison.getD i false)

/-- The line of memory at `a`, as the buffer takes it. -/
def fillLine (s : State) (a : Nat) : BufLine :=
  ⟨a / 64, s.bytes (a / 64 * 64) 64, (List.range 8).map fun i => s.wordPoisoned (a / 64 * 8 + i)⟩

/-- A line entered into the buffer; the oldest leaves when it is full. -/
def CoreSt.fill (v : CoreSt) (l : BufLine) : CoreSt :=
  let kept := v.readBuf.filter fun b => b.line != l.line
  { v with readBuf := (if kept.length ≥ bufLines then kept.drop 1 else kept) ++ [l] }

/-- A line dropped because the core writes it. -/
def CoreSt.dropLines (v : CoreSt) (a n : Nat) : CoreSt :=
  { v with readBuf := v.readBuf.filter fun b => decide (b.line < a / 64) || decide ((a + n - 1) / 64 < b.line) }

/-- What the on-die network does to an access of `n` bytes at device address `a`: the word whose payload or header has failed
twice at a hop, delivered poisoned and recorded (15 R423, R434). -/
def networkFault (a n : Nat) (s : State) : Option Nat × State :=
  match s.upsets.network with
  | none => (none, s)
  | some (w, hop, _) =>
    if (wordsOf a n).contains w then
      (some w, logError (atPlace 0x09 0 { cause := 0x0D, sev := sevPoisoned, addr := a, info0 := hop })
        { s with upsets := { s.upsets with network := none } })
    else (none, s)

/-- A scalar load of `n` bytes at device address `a`: served from memory, or by choice from a line that the buffer
filled earlier (R236). The answer holds the bytes and whether a word was poisoned. -/
def scalarRead (c : CoreId) (a n : Nat) (s : State) : (Bytes × Bool) × State :=
  let fromMemory (s : State) : (Bytes × Bool) × State :=
    let p := networkFault a n (s.touch a n)
    let s := p.2
    ((s.bytes a n, s.poisonedIn a n || p.1.isSome), s.setCore c.val ((s.core c.val).fill (fillLine s a)))
  match (s.core c.val).readBuf.find? (fun b => b.line == a / 64) with
  | none => fromMemory s
  | some l =>
    let p := s.choose
    if p.1 then (l.serve a n, p.2) else fromMemory p.2

/-- A write of a core at a device address: the lines that it touches leave the core's buffer (R236). -/
def coreWrite (c : CoreId) (a : Nat) (bs : Bytes) (bad : Nat → Bool) (s : State) : State :=
  let p := networkFault a bs.length s
  let s := p.2.write a bs fun w => bad w || p.1 == some w
  s.setCore c.val ((s.core c.val).dropLines a bs.length)

/-- A scalar store at device address `a`. -/
def scalarWrite (c : CoreId) (a : Nat) (bs : Bytes) (s : State) : State := coreWrite c a bs (fun _ => false) s

/-- The core has read a poisoned word or marked a result poisoned (15 R429). -/
def CoreSt.sawPoison (v : CoreSt) (b : Bool) : CoreSt := { v with poisonSeen := v.poisonSeen || b }

/-! ## Semaphore names (09 R242, R243) -/

/-- The semaphore that a name breaks R242 or names, seen from a cluster; scope 0b10 is the issuer's own cluster. -/
def parseSem (own : Option ClusterId) (name : Word) : Option SemId :=
  let index := bitsAt name 0 14
  let cluster := bitsAt name 16 4
  if bitsAt name 20 44 ≠ 0 then none
  else match bitsAt name 14 2 with
    | 0 => if index < 4096 then some (.cluster (Fin.ofNat 16 cluster) (Fin.ofNat 4096 index)) else none
    | 1 => if cluster = 0 then some (.die (Fin.ofNat 16384 index)) else none
    | 2 => if cluster = 0 ∧ index < 4096 then own.map fun k => .cluster k (Fin.ofNat 4096 index) else none
    | _ => none

/-- The cluster of a core (01 R19). -/
def clusterOf (c : CoreId) : ClusterId := ⟨c.val / 16, by omega⟩

/-- The semaphore that a core's operand names, or the detail of its ADDRESS fault (R242, R243). -/
def coreSem (s : State) (c : CoreId) (name : Word) : Except Nat SemId :=
  match parseSem (some (clusterOf c)) name with
  | none => .error 0x02
  | some (.cluster k i) => if k = clusterOf c then .ok (.cluster k i) else .error 0x04
  | some (.die i) => if (s.ctx (s.core c.val).context.val).hasDieSem i.val then .ok (.die i) else .error 0x04

end Sys2Proof.Machine
end

