-- ==== Sys2Proof/Machine/Extent.lean ====
section
/-! DEFINITION. Extents of context addresses: their translation page by page before a byte is moved, and reading
and writing through it (06 R159, 08 R219 to R222, 10 R273 check 4). -/

namespace Sys2Proof.Machine

/-- Bytes of a page of the translation (08 R219). -/
abbrev pageBytes : Nat := 0x200000

/-- The pages that `n` bytes from `a` touch, ascending. -/
def extentPages (a n : Nat) : List Nat :=
  if n = 0 then [] else List.range' (a / pageBytes) ((a + n - 1) / pageBytes - a / pageBytes + 1)

/-- What a table of pages holds for a page that has no translation. -/
abbrev noPage : Nat := 2 ^ 64

/-- The physical page of page `p` of an extent that starts at `a`, or the address that fails. `guard` says that
text pages refuse a write (10 R288). -/
def pageOf (s : State) (k : CtxId) (a : Nat) (need : Need) (guard : Bool) (p : Nat) : Except (Nat × WalkFault) Nat :=
  let va := max a (p * pageBytes)
  if va ≥ ctxDramEnd then .error (va, .notMapped)
  else match (if guard then translate s k va need else walk s k va need) with
    | .ok pa => .ok (pa / pageBytes)
    | .error f => .error (va, f)

/-- Pages translated in ascending order into a table. -/
def pagesOf (s : State) (k : CtxId) (a : Nat) (need : Need) (guard : Bool) :
    List Nat → Table Nat → Except (Nat × WalkFault) (Table Nat)
  | [], t => .ok t
  | p :: ps, t => do pagesOf s k a need guard ps (t.set noPage p (← pageOf s k a need guard p))

/-- The translation of `n` bytes from context address `a`, added to `t`. -/
def mapExtent (s : State) (k : CtxId) (a n : Nat) (need : Need) (guard : Bool) (t : Table Nat) :
    Except (Nat × WalkFault) (Table Nat) :=
  pagesOf s k a need guard (extentPages a n) t

/-- The device address of an address that has been translated; a store address is its own. -/
def devAddr (t : Table Nat) (a : Nat) : Nat :=
  if a < ctxDramEnd then t.get noPage (a / pageBytes) * pageBytes + a % pageBytes else a

/-- `n` bytes from `a`. -/
def State.bytesVia (s : State) (t : Table Nat) (a n : Nat) : Bytes := (List.range n).map fun i => s.byte (devAddr t (a + i))

/-- The device words that `n` bytes from `a` touch. -/
def wordsVia (t : Table Nat) (a n : Nat) : List Nat :=
  (List.range n).filterMap fun i => if i = 0 ∨ (a + i) % 8 = 0 then some (devAddr t (a + i) / 8) else none

/-- Some word that `n` bytes from `a` touch is poisoned. -/
def State.poisonedVia (s : State) (t : Table Nat) (a n : Nat) : Bool := (wordsVia t a n).any s.wordPoisoned

/-- The part of an extent that lies in page `p`: its address, its offset and its length. -/
def pagePart (a n p : Nat) : Nat × Nat × Nat :=
  let lo := max a (p * pageBytes)
  (lo, lo - a, min (a + n) ((p + 1) * pageBytes) - lo)

/-- Bytes written from `a` on, in the pages that `open_` admits; `bad` marks the device words written poisoned. -/
def State.writePages (s : State) (t : Table Nat) (open_ : Nat → Bool) (a : Nat) (bs : Bytes) (bad : Nat → Bool) : State :=
  ((extentPages a bs.length).filter open_).foldl (fun s p =>
    let r := pagePart a bs.length p
    s.write (devAddr t r.1) ((bs.drop r.2.1).take r.2.2) bad) s

/-- A write from `a` on: the stack controllers refuse what falls in a text page (10 R288). -/
def State.writeVia (s : State) (t : Table Nat) (a : Nat) (bs : Bytes) (bad : Nat → Bool) : State :=
  s.writePages t (fun p => !s.textPage (devAddr t (p * pageBytes) / pageBytes)) a bs bad

/-- The front end's own write of an image, which R288 exempts. -/
def State.writeImage (s : State) (t : Table Nat) (a : Nat) (bs : Bytes) (bad : Nat → Bool) : State :=
  s.writePages t (fun _ => true) a bs bad

/-- Some page of `n` bytes from `a` is a text page: a write there is refused (10 R288). -/
def State.writeRefused (s : State) (t : Table Nat) (a n : Nat) : Bool :=
  (extentPages a n).any fun p => s.textPage (devAddr t (p * pageBytes) / pageBytes)

/-- A read of `n` bytes from `a` has met the errors latent there. -/
def State.touchVia (s : State) (t : Table Nat) (a n : Nat) : State :=
  (extentPages a n).foldl (fun s p => let r := pagePart a n p; s.touch (devAddr t r.1) r.2.2) s

end Sys2Proof.Machine
end

