-- ==== Sys2Proof/Machine/Hash.lean ====
section
/-! DEFINITION. The two published functions that the manual names and that are computed here: SHA3-256
(FIPS 202) and the CRC-32 of 12 R332. -/

namespace Sys2Proof.Machine

/-- The lane a permuted lane comes from (FIPS 202, step π), and its rotation (step ρ). -/
def keccakMoves : List (Nat × Nat) :=
  [(0, 0), (6, 44), (12, 43), (18, 21), (24, 14), (3, 28), (9, 20), (10, 3), (16, 45), (22, 61), (1, 1), (7, 6), (13, 25)] ++
  [(19, 8), (20, 18), (4, 27), (5, 36), (11, 10), (17, 15), (23, 56), (2, 62), (8, 55), (14, 39), (15, 41), (21, 2)]

/-- Round constants (FIPS 202, step ι). -/
def keccakConstants : List Word :=
  [0x0000000000000001, 0x0000000000008082, 0x800000000000808A, 0x8000000080008000, 0x000000000000808B, 0x0000000080000001, 0x8000000080008081, 0x8000000000008009, 0x000000000000008A, 0x0000000000000088, 0x0000000080008009, 0x000000008000000A] ++
  [0x000000008000808B, 0x800000000000008B, 0x8000000000008089, 0x8000000000008003, 0x8000000000008002, 0x8000000000000080, 0x000000000000800A, 0x800000008000000A, 0x8000000080008081, 0x8000000000008080, 0x0000000080000001, 0x8000000080008008]

/-- One lane of a state of 25. -/
def lane64 (a : List Word) (i : Nat) : Word := a.getD i 0

/-- One round: θ, ρ, π, χ, ι. -/
def keccakRound (a : List Word) (rc : Word) : List Word :=
  let c := (List.range 5).map fun x =>
    lane64 a x ^^^ lane64 a (x + 5) ^^^ lane64 a (x + 10) ^^^ lane64 a (x + 15) ^^^ lane64 a (x + 20)
  let d := (List.range 5).map fun x => lane64 c ((x + 4) % 5) ^^^ (lane64 c ((x + 1) % 5)).rotateLeft 1
  let t := (List.range 25).map fun i => lane64 a i ^^^ lane64 d (i % 5)
  let b := keccakMoves.map fun m => (lane64 t m.1).rotateLeft m.2
  let e := (List.range 25).map fun i =>
    lane64 b i ^^^ (~~~(lane64 b (i / 5 * 5 + (i + 1) % 5)) &&& lane64 b (i / 5 * 5 + (i + 2) % 5))
  (lane64 e 0 ^^^ rc) :: e.drop 1

/-- The permutation Keccak-f[1600]. -/
def keccakF (a : List Word) : List Word := keccakConstants.foldl keccakRound a

/-- The 17 lanes of a 136-byte block. -/
def blockLanes (bs : Bytes) : List Word :=
  (List.range 17).map fun i => BitVec.ofNat 64 (leAt bs (8 * i) 8)

/-- A state with a block absorbed. -/
def absorb (a : List Word) (block : Bytes) : List Word :=
  let l := blockLanes block
  keccakF ((List.range 25).map fun i => lane64 a i ^^^ lane64 l i)

/-- The blocks of a message, padded as SHA3 pads: 0x06, zeros, 0x80 in the last byte. -/
def sha3Blocks : Nat → Bytes → List Bytes
  | 0, _ => []
  | n + 1, bs =>
    if bs.length ≥ 136 then bs.take 136 :: sha3Blocks n (bs.drop 136)
    else
      let p := fitTo 136 (bs ++ [0x06])
      [p.take 135 ++ [byteAt p 135 ||| 0x80]]

/-- SHA3-256 of a message: 32 bytes (FIPS 202). -/
def sha3_256 (m : Bytes) : Bytes :=
  let a := (sha3Blocks (m.length / 136 + 1) m).foldl absorb (List.replicate 25 0)
  ((a.take 4).map fun w => leBytes 8 w.toNat).flatten

/-- One bit step of the CRC-32 with the reflected polynomial of IEEE 802.3. -/
def crcBit (c : Nat) : Nat := (c >>> 1) ^^^ (0xEDB88320 * (c % 2))

/-- One byte step. -/
def crcByte (c b : Nat) : Nat := crcBit (crcBit (crcBit (crcBit (crcBit (crcBit (crcBit (crcBit (c ^^^ b))))))))

/-- All byte steps; the match on the remainder makes an evaluation by the kernel keep it a numeral. -/
def crcSteps : Bytes → Nat → Nat
  | [], c => c
  | b :: bs, c => match c with
    | 0 => crcSteps bs (crcByte 0 b.toNat)
    | n + 1 => crcSteps bs (crcByte (n + 1) b.toNat)

/-- The CRC-32 of IEEE 802.3 over bytes, as 12 R332 uses it. -/
def crc32 (m : Bytes) : BitVec 32 := ~~~ BitVec.ofNat 32 (crcSteps m 0xFFFFFFFF)

end Sys2Proof.Machine
end

