-- ==== Sys2Proof/Machine/Journal.lean ====
section
/-! DEFINITION. The input journal: one record for each input of a context, in a ring in its DRAM (16 R465 to
R468). -/

namespace Sys2Proof.Machine

/-- JNL_CTL.en of an enabled context (16 R465). -/
def Ctx.recording (c : Ctx) : Bool := c.en && bitAt c.jnlCtl 0
/-- Records of the ring. -/
def Ctx.jnlSize (c : Ctx) : Nat := 2 ^ bitsAt c.jnlCtl 8 5
/-- Physical address of record 0. -/
def Ctx.jnlAt (c : Ctx) : Nat := bitsAt c.jnlBase 12 29 * 4096
/-- JNL_STAT.full. -/
def Ctx.jnlFull (c : Ctx) : Bool := (c.jnlTail + 1) % c.jnlSize == bitsAt c.jnlHead 0 24

/-- An input to be recorded (16 R466): `dig` is bytes 32 to 63 of its record. -/
structure Input where
  kind : Nat
  src : Nat := 0
  len : Nat := 0
  addr : Nat := 0
  dig : Bytes := []
  poisoned : Bool := false
  deriving DecidableEq, Repr

/-- The 64 bytes of a record (16 R466). -/
def Input.image (i : Input) (k : CtxId) (seq : BitVec 32) (gap valid : Bool) (t : Word) : Bytes :=
  leBytes 8 t.toNat ++ leBytes 1 i.kind ++ leBytes 1 (valid.toNat + 2 * i.poisoned.toNat + 4 * gap.toNat)
    ++ leBytes 1 k.val ++ zeros 1 ++ leBytes 4 seq.toNat ++ leBytes 2 i.src ++ zeros 2 ++ leBytes 4 i.len
    ++ leBytes 8 i.addr ++ fitTo 32 i.dig

/-- Where JNL_STAT.lost stops (16 R468). -/
abbrev jnlLostTop : Nat := 0xFFFFFFFE

/-- One record at the tail, or a loss where the ring is full (16 R468). A record that would fall in a text page is not written
(10 R288; that its place passes is a DESIGN CHOICE, log entry 157). -/
def putInput (k : CtxId) (i : Input) (s : State) : State :=
  let c := s.ctx k.val
  if c.jnlFull then
    s.setCtx k.val { c with jnlLost := satTo jnlLostTop (c.jnlLost + 1), jnlGap := true, jnlGapPending := true,
                            jnlSeq := c.jnlSeq + 1 }
  else
    let a := c.jnlAt + 64 * c.jnlTail
    let s := if s.textPage (a / 0x200000) then s
      else s.writeClean a (i.image k c.jnlSeq c.jnlGapPending s.plumb.valid s.plumb.now)
    s.setCtx k.val { c with jnlTail := (c.jnlTail + 1) % c.jnlSize, jnlGapPending := false, jnlSeq := c.jnlSeq + 1 }

/-- The longest payload of one record (16 R466). -/
abbrev jnlMax : Nat := 0xFFFFFFFE

/-- The payload cut into the pieces of consecutive records (16 R466). -/
def jnlPieces : Nat → Bytes → List Bytes
  | 0, _ => []
  | n + 1, bs => if bs.length ≤ jnlMax then [bs] else bs.take jnlMax :: jnlPieces n (bs.drop jnlMax)

/-- The records of a payload from address `a` on. -/
def putPayload (k : CtxId) (i : Input) (bs : Bytes) (s : State) : State :=
  (jnlPieces (bs.length / jnlMax + 1) bs).zipIdx.foldl
    (fun s p => putInput k { i with len := p.1.length, addr := i.addr + p.2 * jnlMax, dig := sha3_256 p.1 } s) s

/-- The open run of host writes ends with its record (16 R466). -/
def closeRun (k : CtxId) (s : State) : State :=
  match (s.ctx k.val).jnlRun with
  | none => s
  | some r =>
    let s := s.setCtx k.val { s.ctx k.val with jnlRun := none }
    putPayload k { kind := 0x03, addr := r.first, poisoned := r.poisoned } r.data s

/-- An input with an inline value or no payload (16 R465, R466). -/
def journalValue (k : CtxId) (i : Input) (s : State) : State :=
  if (s.ctx k.val).recording then putInput k i (closeRun k s) else s

/-- An input with a payload. -/
def journalBytes (k : CtxId) (i : Input) (bs : Bytes) (s : State) : State :=
  if (s.ctx k.val).recording then putPayload k i bs (closeRun k s) else s

/-- A run goes on at `a`: the next ascending address, the same 2 MiB page, within 1 µs (16 R466). -/
def JournalRun.takes (r : JournalRun) (a clk : Nat) : Bool :=
  a == r.next && a / 0x200000 == r.first / 0x200000 && decide (clk < r.clk + usEdges)

/-- One byte that the host writes at physical address `a` (16 R466). -/
def journalByte (k : CtxId) (a : Nat) (b : Byte) (bad : Bool) (s : State) : State :=
  if !(s.ctx k.val).recording then s
  else
    let fresh (s : State) : State := s.setCtx k.val { s.ctx k.val with jnlRun := some ⟨a, a + 1, [b], bad, s.clk⟩ }
    match (s.ctx k.val).jnlRun with
    | some r =>
      if r.takes a s.clk then
        s.setCtx k.val { s.ctx k.val with
          jnlRun := some { r with next := a + 1, data := r.data ++ [b], poisoned := r.poisoned || bad, clk := s.clk } }
      else fresh (closeRun k s)
    | none => fresh s

/-- JOURNAL_RUN_END: 1 µs has passed without a write (16 R466). -/
def execJournalRunEnd (ctx : CtxId) (s : State) : Host.Outcome State Fault Refusal :=
  match (s.ctx ctx.val).jnlRun with
  | some r => .next (if r.clk + usEdges ≤ s.clk then closeRun ctx s else s)
  | none => .next s

end Sys2Proof.Machine
end

