-- ==== Sys2Proof/Machine/HostPort.lean ====
section
/-! DEFINITION. Device-mastered access to host memory: read slots, writes and their failures (13 R373 to R377,
R380). -/

namespace Sys2Proof.Machine

/-- How long a host access waits for its answer (13 R374, R375). -/
abbrev hostLimit : Nat := 10 * msEdges

/-- The link is up and the fence does not stand (13 R377). -/
def hostOpen (s : State) : Bool := s.host.up && !s.host.fence

/-- Host reads may start: 10 ms after the link came up (14 R401). -/
def readsOpen (s : State) : Bool := hostOpen s && decide (s.host.upClk + hostLimit ≤ s.clk)

/-- A context may reach host memory: a confidential one only under both IDEs (13 R380). -/
def hostAllowed (s : State) (k : CtxId) : Bool := !(s.ctx k.val).conf || (s.host.ideLink && s.host.ideCm)

/-- The message entries of a context are freed (12 R353). -/
def freeEntries (k : CtxId) (s : State) : State :=
  { s with fab := { s.fab with entries := s.fab.entries.keep fun
      | some e => e.ctx != k
      | none => true } }

/-- An access that R380 forbids fences its context. -/
def fenceContext (k : CtxId) (s : State) : State := freeEntries k (s.setCtx k.val { s.ctx k.val with fenced := true })

/-- Kinds of failure of a HOST record (15 R447). -/
abbrev hostGoErr : Nat := 0x01
/-- Read data with an error indication. -/
abbrev hostReadErr : Nat := 0x02
/-- No response within 10 ms. -/
abbrev hostNoAnswer : Nat := 0x03
/-- Window access refused (R370). -/
abbrev hostWindow : Nat := 0x04
/-- MMIO size or alignment (R366). -/
abbrev hostMmio : Nat := 0x05
/-- A command entry that read poisoned. -/
abbrev entryPoisoned : Nat := 0x06

/-- A HOST record (15 R447; DESIGN CHOICE, log entry 15 on its severity). -/
def hostRecord (addr kind : Nat) (s : State) : State :=
  logError (atPlace 0x0B 0 { cause := 0x13, sev := sevEvent, addr := addr, info0 := kind }) s

/-- The kind of failure of an access that the fence or R380 ends without an answer is left open: one of the two ways in which
such an access fails, a read by R375, a write by R374 (DESIGN CHOICE, log entry 16). -/
def failKind (write : Bool) (s : State) : Nat × State :=
  let p := s.choose
  (if p.1 then (if write then hostGoErr else hostReadErr) else hostNoAnswer, p.2)

/-! ## Reads (13 R375, R376) -/

/-- A read slot. -/
def State.slot (s : State) (i : Nat) : ReadSlot := s.host.slots.get .reset i

/-- A read slot replaced. -/
def State.setSlot (s : State) (i : Nat) (x : ReadSlot) : State :=
  { s with host := { s.host with slots := s.host.slots.set .reset i x } }

/-- A slot that may be issued: free, and 10 ms past the last abandonment of its generation value. -/
def slotReady (s : State) (i : Nat) : Bool :=
  let x := s.slot i
  x.use.isNone && (match x.abandoned.get none x.gen with
    | some t => decide (t + hostLimit ≤ s.clk)
    | none => true)

/-- The lowest slot that may be issued. -/
def readySlot (s : State) : Option Nat := (List.range 512).find? (slotReady s)

/-- A read of the line at `addr` is issued from slot `i`, with CQID 512 × generation + slot (13 R375). -/
def issueRead (i : Nat) (use : ReadUse) (addr : Nat) (s : State) : State :=
  let x := s.slot i
  (s.setSlot i { x with use := some use, startClk := s.clk }).emit (.hostRead (BitVec.ofNat 12 (512 * x.gen + i)) addr)

/-- A read of one line is issued, if a slot is ready. -/
def startRead (use : ReadUse) (addr : Nat) (s : State) : Option State :=
  (readySlot s).map fun i => issueRead i use addr s

/-- The queue that a read serves. -/
def ReadUse.queue : ReadUse → SqId
  | .copyLine q _ _ _ => q
  | .fetch q => q
  | .orphaned q => q

/-- A slot abandoned: its generation advances and it is free (13 R376). -/
def abandonSlot (i : Nat) (s : State) : State :=
  let x := s.slot i
  s.setSlot i { x with gen := (x.gen + 1) % 8, use := none, abandoned := x.abandoned.set none x.gen (some s.clk) }

/-- A slot released because its data arrived. -/
def freeSlot (i : Nat) (s : State) : State := s.setSlot i { s.slot i with use := none }

/-! ## Writes (13 R373, R374) -/

/-- A write of one line is issued; its number names it until its answer. -/
def startWrite (use : WriteUse) (addr : Nat) (data : Bytes) (enable : List Bool) (poison : Bool) (s : State) : State :=
  let n := s.host.nextWrite
  let s := { s with host := { s.host with nextWrite := n + 1, writes := s.host.writes ++ [HostWrite.mk n addr use s.clk] } }
  s.emit (.hostWrite n addr data enable poison)

/-- A write that has its answer, or has failed. -/
def dropWrite (n : Nat) (s : State) : State :=
  { s with host := { s.host with writes := s.host.writes.filter fun w => w.id != n } }

end Sys2Proof.Machine
end

