-- ==== Sys2Proof/Machine/Queues.lean ====
section
/-! DEFINITION. Submission and completion queues, the life of a command, and launches on cores (chapter 10, 06
R149, R150). -/

namespace Sys2Proof.Machine

/-! ## Fields of a submission queue (10 R266) -/

/-- GFE_SQCTL.ctx. -/
def Sq.context (q : Sq) : CtxId := Fin.ofNat 64 (bitsAt q.ctl 4 6)
/-- GFE_SQCTL.cq. -/
def Sq.completion (q : Sq) : CqId := Fin.ofNat 256 (bitsAt q.ctl 16 8)
/-- GFE_SQCTL.en. -/
def Sq.enabled (q : Sq) : Bool := bitAt q.ctl 0
/-- GFE_SQCTL.loc: the ring lies in device DRAM. -/
def Sq.inDram (q : Sq) : Bool := bitAt q.ctl 1
/-- GFE_SQCTL.on_err: an error completion halts the queue. -/
def Sq.haltsOnError (q : Sq) : Bool := bitAt q.ctl 2
/-- Entries of the ring. -/
def Sq.size (q : Sq) : Nat := 2 ^ bitsAt q.ctl 10 5
/-- GFE_SQCTL.core. -/
def Sq.boundCore (q : Sq) : Nat := bitsAt q.ctl 24 5
/-- GFE_SQCTL.timeout_ms, in edges. -/
def Sq.timeout (q : Sq) : Nat := bitsAt q.ctl 32 22 * msEdges
/-- No command is held (R267). -/
def Sq.isEmpty (q : Sq) : Bool := q.head == q.tail
/-- Address of the entry at head. -/
def Sq.entryAddr (q : Sq) : Nat := bitsAt q.base 12 52 * 4096 + 64 * q.head

/-- The enabled queues of a context, ascending. -/
def queuesOf (s : State) (k : CtxId) : List Nat :=
  (s.sqs.rows.filter fun r => r.2.enabled && r.2.context == k).map fun r => r.1

/-- Entries of a completion ring (R268). -/
def Cq.size (c : Cq) : Nat := 2 ^ bitsAt c.ctl 4 5
/-- GFE_CQCTL.en. -/
def Cq.enabled (c : Cq) : Bool := bitAt c.ctl 0
/-- GFE_CQSTAT.full (R268). -/
def Cq.full (c : Cq) : Bool := (c.tail + 1) % c.size == c.head

/-! ## Status codes (R274) -/

/-- Completed as defined. -/
abbrev stSuccess : Nat := 0x00
/-- Failed check 1 or 3. -/
abbrev stInvalid : Nat := 0x01
/-- A legal command in a state that does not allow it. -/
abbrev stState : Nat := 0x02
/-- No image or generation slot. -/
abbrev stNoResource : Nat := 0x03
/-- The launch could not start at start_at. -/
abbrev stLate : Nat := 0x04
/-- Consumed poison, or a check met a poisoned word. -/
abbrev stPoisoned : Nat := 0x05
/-- A core of the context faulted. -/
abbrev stFault : Nat := 0x06
/-- The queue's timeout expired. -/
abbrev stTimeout : Nat := 0x07
/-- Stopped by a context reset or a context fault. -/
abbrev stAborted : Nat := 0x08
/-- Failed check 4. -/
abbrev stTranslation : Nat := 0x09
/-- A host access failed. -/
abbrev stHost : Nat := 0x0A

/-- An error completion (R291). -/
def isError (status : Nat) : Bool :=
  [stInvalid, stState, stNoResource, stLate, stPoisoned, stTranslation, stHost].contains status

/-! ## Pins of generations (R288) -/

/-- A generation of a context's image changed by `f`. -/
def changeGen (k : CtxId) (image num : Nat) (f : Gen → Gen) (s : State) : State :=
  let c := s.ctx k.val
  let g := c.images.get .none image
  let g := { g with gens := g.gens.map fun x => if x.num = num then f x else x }
  s.setCtx k.val { c with images := c.images.set .none image g }

/-- A launch or branch pins its generation. -/
def pinGen (k : CtxId) (image num : Nat) (s : State) : State :=
  changeGen k image num (fun g => { g with pins := g.pins + 1 }) s

/-- Pins given back. -/
def unpinGens (k : CtxId) (pins : List (Nat × Nat)) (s : State) : State :=
  pins.foldl (fun s p => changeGen k p.1 p.2 (fun g => { g with pins := g.pins - 1 }) s) s

/-! ## Starting a command (R271, R272) -/

/-- The queue's next command can start. -/
def canStart (s : State) (q : SqId) : Bool :=
  let x := s.sq q.val
  let k := x.context.val
  x.state == .active && x.cmd.isNone && !x.isEmpty && x.heldEntry.isNone && !(s.ctx k).hung && !s.ctxFenced k
    && (s.ctx k).resetRun.isNone && !(s.proc 2).down

/-- The fetch of the queue's next command can be issued: a ring in host memory needs the port open for the context and a read slot
(13 R375, R377, R380, 14 R401). -/
def fetchRoom (s : State) (q : SqId) : Bool :=
  let x := s.sq q.val
  x.inDram || (readsOpen s && hostAllowed s x.context && (readySlot s).isSome)

/-- The read of a command in host memory: its RdCurr goes out with the CQID of its slot, and the slot is free again when the data
has come, within the command's own step (13 R373, R375; 95 What each step holds). -/
def fetchRead (q : SqId) (s : State) : State :=
  if (s.sq q.val).inDram then s
  else match readySlot s with
    | some i => freeSlot i (issueRead i (.fetch q) (s.sq q.val).entryAddr s)
    | none => s

/-- The 64 bytes of the command at head: the ring in DRAM, or what the host answered; none where the read fails
or finds poison. -/
def fetchEntry (s : State) (q : SqId) (hostBytes : Bytes) : Option Bytes :=
  let x := s.sq q.val
  if x.inDram then
    let s := s.touch x.entryAddr 64
    if s.poisonedIn x.entryAddr 64 then none else some (s.bytes x.entryAddr 64)
  else if fetchRoom s q then some (fitTo 64 hostBytes) else none

/-- A command starts: it is fetched, journalled if it came from the host, and head moves past it. -/
def startCmd (q : SqId) (bs : Bytes) (s : State) : State :=
  let x := s.sq q.val
  let s := if x.inDram then s.touch x.entryAddr 64
    else journalBytes x.context { kind := 0x02, src := q.val, addr := x.entryAddr } bs s
  s.setSq q.val { s.sq q.val with
    head := (x.head + 1) % x.size
    cmd := some ⟨bs, (byteAt bs 0).toNat, BitVec.ofNat 64 (leAt bs 8 8), (byteAt bs 1).getLsbD 0, s.plumb.now, s.clk,
                 [], .completing⟩ }

/-! ## Completing a command (R269, R271, R289) -/

/-- What a completion entry will say. -/
structure Result where
  status : Nat
  info : Nat := 0
  gen : Nat := 0
  branch : Nat := 0
  fault : Option CtxFault := none
  counts : Tally := {}
  deriving DecidableEq, Repr

/-- A completion joins its queue, in the order in which commands complete; `final` is the last of its command. -/
def postResult (q : SqId) (r : Result) (final : Bool) (s : State) : State :=
  let x := s.sq q.val
  match x.cmd with
  | none => s
  | some run =>
    let m := x.completion.val
    let e : Cpl := ⟨q, run.tag, r.status, r.branch, r.fault, BitVec.ofNat 64 r.info, run.tStart, r.counts.sat,
                    r.counts.flush, r.counts.nan, r.counts.inf, r.gen, run.irq, final⟩
    let s := s.setCq m { s.cq m with waiting := (s.cq m).waiting ++ [e] }
    if final then s.setSq q.val { x with cmd := some { run with work := .completing } } else s

/-- A command's work ends with one entry. -/
def complete (q : SqId) (r : Result) (s : State) : State := postResult q r true s

/-- Bytes 48 to 55: each summary stops at 0xFFFE (02 R58). -/
def summary (n : Nat) : Bytes := leBytes 2 (satTo 0xFFFE n)

/-- The 64 bytes of an entry (R289). -/
def Cpl.image (e : Cpl) (head : Nat) (phase : Bool) (tEnd : Word) : Bytes :=
  leBytes 8 e.tag.toNat ++ leBytes 2 e.sq.val ++ leBytes 2 head ++ leBytes 1 e.status ++ leBytes 1 e.branch
    ++ (match e.fault with
      | some f => leBytes 2 f.core.val ++ leBytes 1 f.cause ++ leBytes 1 f.detail
      | none => zeros 4)
    ++ zeros 6 ++ leBytes 8 e.info.toNat ++ leBytes 8 e.tStart.toNat ++ leBytes 8 tEnd.toNat
    ++ summary e.sat ++ summary e.flush ++ summary e.nan ++ summary e.inf ++ leBytes 4 e.gen ++ zeros 3
    ++ leBytes 1 phase.toNat

/-- The state of a queue whose command is over (R291). -/
def Sq.settled (x : Sq) : SqState := if x.isEmpty && x.cmd.isNone then .idle else .active

/-- An entry has been written or orphaned: the command is over with its last entry, its pins go, and the queue
moves (R271, R288, R291). -/
def entryDone (e : Cpl) (orphan : Bool) (s : State) : State :=
  let x := s.sq e.sq.val
  let pins := match x.cmd with | some run => run.pins | none => []
  let s := if e.final then unpinGens x.context pins s else s
  let x := if e.final then { x with cmd := none } else x
  let halts := isError e.status && x.haltsOnError
  let running := x.state == .active || x.state == .waiting
  s.setSq e.sq.val (
    if orphan then
      if x.state == .hung || x.state == .disabled then x
      else { x with state := .stalledCpl, lastErr := BitVec.ofNat 8 e.status,
                    haltAtAck := halts || x.state == .halted }
    else if !running then x
    else if halts then { x with state := .halted, lastErr := BitVec.ofNat 8 e.status }
    else if e.final then { x with state := x.settled } else x)

/-- A waiting entry can be written: a stalled queue completes nothing further (R289), and the entries of a context
under reset are written after it (14 R397). -/
def entryReady (s : State) (e : Cpl) : Bool :=
  (s.ctx (s.sq e.sq.val).context.val).resetRun.isNone &&
  (s.sq e.sq.val).state != .stalledCpl && (s.sq e.sq.val).heldEntry.isNone

/-- The first entry that can be written, and the others in order. -/
def takeEntry (s : State) : List Cpl → Option (Cpl × List Cpl)
  | [] => none
  | e :: rest => if entryReady s e then some (e, rest) else (takeEntry s rest).map fun p => (p.1, e :: p.2)

/-- The context of the queue of an entry. -/
def entryContext (s : State) (e : Cpl) : CtxId := (s.sq e.sq.val).context

/-- COMPLETION_WRITE: with room in the queue, the next entry is written at tail (R269); where the host port is
fenced, or R380 forbids the access, the write fails (13 R377, R380). -/
def execCompletionWrite (cq : CqId) (s : State) : Answer :=
  let c := s.cq cq.val
  if !c.enabled || c.inflight.isSome || c.failed || c.full then .next s
  else match takeEntry s c.waiting with
    | none => .next s
    | some (e, rest) =>
      let bs := e.image (s.sq e.sq.val).head c.phase s.plumb.now
      let c := { c with waiting := e :: rest, entry := bs }
      let k := entryContext s e
      let at_ := bitsAt c.base 12 52 * 4096 + 64 * c.tail
      let fail (s : State) : State := let f := failKind true s; hostRecord at_ f.1 (f.2.setCq cq.val { c with failed := true })
      if !hostOpen s then .next (fail s)
      else if !hostAllowed s k then .next (fenceContext k (fail s))
      else
        let c := { c with inflight := some s.host.nextWrite }
        .next (startWrite (.completion cq) at_ bs (List.replicate 64 true) false
          (s.setCq cq.val c))

/-- The host has accepted the entry: tail advances, phase inverts at the wrap, the vector is raised (R269, R272). -/
def entryAccepted (cq : CqId) (s : State) : State :=
  let c := s.cq cq.val
  match c.waiting with
  | [] => s
  | e :: rest =>
    let tail := (c.tail + 1) % c.size
    let s := s.setCq cq.val { c with tail := tail, phase := if tail = 0 then !c.phase else c.phase, waiting := rest,
                                     inflight := none, entry := [] }
    let s := if e.irq then raiseVector (Fin.ofNat 64 (bitsAt (s.host.cqMap.get 0 cq.val) 0 6)) (bitsAt c.ctl 16 10) s
      else s
    entryDone e false s

/-- The host write of an entry has failed (R289). -/
def entryFailed (cq : CqId) (s : State) : State :=
  s.setCq cq.val { s.cq cq.val with inflight := none, failed := true }

/-- Slots of the orphan buffer (R289). -/
abbrev orphanSlots : Nat := 64

/-- The lowest free slot. -/
def freeOrphan (s : State) : Option Nat := (List.range orphanSlots).find? fun i => (s.orphans.get none i).isNone

/-- COMPLETION_ORPHAN: the entry whose write failed takes the lowest free slot, or waits in its queue's holding
slot; the tail stays (R289). -/
def execCompletionOrphan (cq : CqId) (s : State) : Answer :=
  let c := s.cq cq.val
  match c.failed, c.waiting with
  | true, e :: rest =>
    let s := match freeOrphan s with
      | some i => { s with orphans := s.orphans.set none i (some (e.sq, c.entry)) }
      | none =>
        let s := s.setSq e.sq.val { s.sq e.sq.val with heldEntry := some c.entry, heldOrder := s.heldCount }
        { s with heldCount := s.heldCount + 1 }
    let s := s.setCq cq.val { s.cq cq.val with waiting := rest, failed := false, entry := [] }
    .next (entryDone e true (raiseOrphVec s))
  | _, _ => .next s

/-- The queue whose entry has been held longest. -/
def longestHeld (s : State) : Option (Nat × Sq) :=
  (s.sqs.rows.filter fun r => r.2.heldEntry.isSome).foldl (fun best r =>
    match best with
    | some b => if r.2.heldOrder < b.2.heldOrder then some r else some b
    | none => some r) none

/-- A freed slot takes the entry held longest (R289). -/
def refillOrphans (s : State) : State :=
  match freeOrphan s, longestHeld s with
  | some i, some (n, x) =>
    match x.heldEntry with
    | some bs =>
      { s.setSq n { x with heldEntry := none } with orphans := s.orphans.set none i (some (Fin.ofNat 1024 n, bs)) }
    | none => s
  | _, _ => s

/-- An ack of a stalled queue (R290). -/
def ackQueue (q : SqId) (s : State) : State :=
  let x := s.sq q.val
  let back := { x with state := if x.haltAtAck then .halted else x.settled, haltAtAck := false }
  if x.heldEntry.isSome then s.setSq q.val { back with heldEntry := none }
  else
    let mine (i : Nat) : Bool := match s.orphans.get none i with
      | some (n, _) => n == q
      | none => false
    match (List.range orphanSlots).find? mine with
    | some i => refillOrphans ({ s with orphans := s.orphans.set none i none }.setSq q.val back)
    | none => s.setSq q.val back

/-! ## Cores of a launch (R278 to R281, 06 R149, R150) -/

/-- A core's increments in its launch (02 R58). -/
def CoreSt.increments (v : CoreSt) : Tally :=
  match v.launch with
  | none => {}
  | some l => ⟨l.sat, l.flush, l.nan, l.inf⟩

/-- The core has ended its part: it is idle and its increments are kept. -/
def CoreSt.endPart (v : CoreSt) : CoreSt :=
  { v with seqState := .idle, hold := .none, launch := v.launch.map fun l => { l with done := true } }

/-- An engine with the state that R150 names returned to its reset values. -/
def EngineSt.cleared (x : EngineSt) : EngineSt :=
  { EngineSt.reset with upset := x.upset, feather := x.feather, stbCount := x.stbCount }

/-- A core assigned to another context than its last: its architectural state and what instructions reach only
indirectly return to their reset values (06 R150). -/
def CoreSt.forContext (v : CoreSt) (k : CtxId) : CoreSt :=
  if v.context = k then v
  else { v with
    engines := v.engines.mapAll .reset EngineSt.cleared
    stipple := .empty
    seeded := false
    ntmSat := 0
    ntmFlush := 0
    ntmNan := 0
    ntmInf := 0
    ntmStat := 0
    seqCtx := BitVec.ofNat 6 k.val }

/-- A core at the start of a launch (06 R149): `g1` to `g4` and the pc as given, every other register zero. -/
def CoreSt.launched (v : CoreSt) (direct tainted : Bool) (l : CoreLaunch) (entry : Addr) (g1 g2 g3 g4 : Word) : CoreSt :=
  { v with
    g := ((((Table.empty.set 0 1 g1).set 0 2 g2).set 0 3 g3).set 0 4 g4)
    v := .empty
    vPoison := .empty
    p := .empty
    t := .empty
    pc := entry
    poisonSeen := tainted
    seqState := .running
    seqDirect := direct
    hold := .none
    fault := none
    stopping := false
    readBuf := []
    launch := some { l with sat := 0, flush := 0, nan := 0, inf := 0, done := false } }

/-- A core that enters a confidential context: stripback is off and disarmed (04 R113). -/
def CoreSt.hidden (v : CoreSt) (conf : Bool) : CoreSt :=
  if conf then { v with stbCtl := setBits (setBits v.stbCtl 0 1 0) 48 1 0 } else v

/-- A core starts its part of a launch; the self-test rotor learns that the context ran on it (15 R438). -/
def startCore (q : SqId) (k : CtxId) (l : LaunchRun) (b : Branch) (s : State) (c : CoreId) : State :=
  let x := s.ctx k.val
  let v := ((s.core c.val).forContext k).hidden x.conf
  let note (t : Table (List CtxId)) (n : Nat) : Table (List CtxId) :=
    t.update [] n fun ks => if ks.contains k then ks else ks ++ [k]
  let s := { s with bst := { s.bst with
    ranVec := note s.bst.ranVec c.val
    ranEng := (List.range 4).foldl (fun t e => note t (4 * c.val + e)) s.bst.ranEng } }
  s.setCore c.val (v.launched x.direct x.tainted ⟨q.val, b.index, l.chipIndex, b.textBase, b.textLen, 0, 0, 0, 0, false⟩ b.entry
    b.args (BitVec.ofNat 64 (c.val - 16 * x.first)) (BitVec.ofNat 64 l.chipIndex) (BitVec.ofNat 64 b.cores.length))

/-- The cores of a launch issue their first instructions (R278, R279, R283). -/
def startLaunch (q : SqId) (l : LaunchRun) (s : State) : State :=
  let k := (s.sq q.val).context
  l.branches.foldl (fun s b => b.cores.foldl (startCore q k l b) s) s

/-- The work of a queue's command replaced. -/
def setWork (q : SqId) (w : CmdWork) (s : State) : State :=
  let x := s.sq q.val
  s.setSq q.val { x with cmd := x.cmd.map fun r => { r with work := w } }

/-- A core that stopped under R168 (06 R170). -/
def CoreSt.isStopped (v : CoreSt) : Bool := v.seqState == .ownFault || v.seqState == .ctxStopped

/-- A core's part in a branch is over: it has executed END or has stopped (R280). -/
def partOver (s : State) (c : CoreId) : Bool :=
  let v := s.core c.val
  v.isStopped || (match v.launch with | some l => l.done | none => true)

/-- Every part of a branch is over, and a fault among them has reached the front end (R280, R281). -/
def branchOver (s : State) (k : CtxId) (b : Branch) : Bool :=
  b.cores.all (partOver s)
    && (b.cores.all (fun c => !(s.core c.val).isStopped)
      || ((s.ctx k.val).fault.isSome && !(s.ctx k.val).faultRaised))

/-- What the entry of a branch says (R280, 15 R429, R430). -/
def branchResult (s : State) (k : CtxId) (b : Branch) : Result :=
  let counts := b.cores.foldl (fun t c => t.plus (s.core c.val).increments) {}
  let base : Result := { status := stSuccess, gen := b.gen, branch := b.index, counts := counts }
  if b.cores.any fun c => (s.core c.val).isStopped then
    match (s.ctx k.val).fault with
    | some f => { base with status := stFault, fault := some f, info := f.pc.toNat }
    | none => { base with status := stFault }
  else if (s.ctx k.val).tainted || b.cores.any (fun c => (s.core c.val).poisonSeen) then
    { base with status := stPoisoned }
  else base

/-- A branch of a started launch completes if all its parts are over; the command ends with its last branch. -/
def settleBranch (q : SqId) (i : Nat) (s : State) : State :=
  let x := s.sq q.val
  match x.cmd with
  | some run =>
    match run.work with
    | .launch l =>
      match l.branches.find? fun b => b.index == i && !b.done with
      | some b =>
        if l.started && branchOver s x.context b then
          let l := { l with branches := l.branches.map fun b => if b.index == i then { b with done := true } else b }
          postResult q (branchResult s x.context b) (l.branches.all fun b => b.done) (setWork q (.launch l) s)
        else s
      | none => s
    | _ => s
  | none => s

/-- After a core's part is over: a LAUNCH completes with its last core (R280); a co-launch branch completes by an
event of its own (BRANCH_COMPLETE). -/
def settleLaunch (c : CoreId) (s : State) : State :=
  match (s.core c.val).launch with
  | some l =>
    match (s.sq l.sq).cmd with
    | some run =>
      match run.work with
      | .launch r => if r.isCo then s else settleBranch (Fin.ofNat 1024 l.sq) l.branch s
      | _ => s
    | none => s
  | none => s

/-- BRANCH_COMPLETE (R283). -/
def execBranchComplete (sq : SqId) (branch : Fin 16) (s : State) : Answer :=
  match (s.sq sq.val).cmd with
  | some run =>
    match run.work with
    | .launch l => .next (if l.isCo then settleBranch sq branch.val s else s)
    | _ => .next s
  | none => .next s

/-- A core is assigned to a launch whose branch is not complete (DEDUCED, log entry 17). -/
def coreTaken (s : State) (c : CoreId) : Bool :=
  s.sqs.rows.any fun r => match r.2.cmd with
    | some run => match run.work with
      | .launch l => l.assigned && l.branches.any fun b => !b.done && b.cores.contains c
      | _ => false
    | none => false

/-- A core is assigned to context `k`: it runs or has stopped for it, or a launch holds it (R262). -/
def contextBusy (s : State) (k : CtxId) : Bool :=
  s.cores.rows.any (fun r => r.2.seqState != .idle && r.2.context == k)
    || s.sqs.rows.any fun r => r.2.context == k && match r.2.cmd with
      | some run => match run.work with
        | .launch l => l.assigned && l.branches.any fun b => !b.done
        | _ => false
      | none => false

/-- A launch of another queue that waits for one of these cores and was checked earlier (R278). -/
def earlierClaim (s : State) (q : SqId) (stamp : Nat) (cores : List CoreId) : Bool :=
  s.sqs.rows.any fun r => r.1 != q.val && match r.2.cmd with
    | some run => match run.work with
      | .launch l => !l.assigned && decide (l.stamp < stamp)
          && l.branches.any fun b => b.cores.any fun c => cores.contains c
      | _ => false
    | none => false

/-- LAUNCH_CORES_ASSIGNED: with every core idle and free, and no earlier claim, the front end assigns the core set;
a launch whose start_at has passed by then completes LATE (R278, R279). Firmware that is down holds new work
(14 Firmware processors). -/
def execLaunchCoresAssigned (sq : SqId) (s : State) : Answer :=
  let x := s.sq sq.val
  let k := x.context
  match x.cmd with
  | some run =>
    match run.work with
    | .launch l =>
      let cores := l.branches.flatMap fun b => b.cores
      if l.assigned || (s.ctx k.val).hung || s.ctxFenced k.val || (s.ctx k.val).resetRun.isSome || (s.proc 2).down
          || cores.any (fun c => (s.core c.val).seqState != .idle || coreTaken s c || (s.proc (3 + c.val / 16)).down)
          || earlierClaim s sq l.stamp cores then .next s
      else if l.startAt = 0 then
        let l := { l with assigned := true, started := true }
        .next (startLaunch sq l (setWork sq (.launch l) s))
      else if l.startAt.toNat ≤ s.plumb.now.toNat then
        .next (complete sq { status := stLate, info := s.plumb.now.toNat } s)
      else .next (setWork sq (.launch { l with assigned := true }) s)
    | _ => .next s
  | none => .next s

/-- The launch of a queue starts, if it waits for its plumb tick and the tick has come. -/
def startDue (s : State) (sq : SqId) : State :=
  let x := s.sq sq.val
  match x.cmd with
  | some run =>
    match run.work with
    | .launch l =>
      if !l.assigned || l.started || s.plumb.now.toNat < l.startAt.toNat || (s.ctx x.context.val).resetRun.isSome then s
      else
        let l := { l with started := true }
        startLaunch sq l (setWork sq (.launch l) s)
    | _ => s
  | none => s

/-- LAUNCH_START_AT: in plumb tick start_at every core of the set issues its first instruction (R279, R283). -/
def execLaunchStartAt (sq : SqId) (s : State) : Answer := .next (startDue s sq)

/-- Before the plumb counter leaves a tick, every launch of that tick has started (R279). -/
def startAllDue (s : State) : State := s.sqs.rows.foldl (fun s r => startDue s (Fin.ofNat 1024 r.1)) s

/-- The entries of a command that ends before its work does: one for each branch of a started launch that has not
completed, else one. -/
def cutShort (q : SqId) (status : Nat) (s : State) : State :=
  let x := s.sq q.val
  match x.cmd with
  | some run =>
    match run.work with
    | .completing => s
    | .launch l =>
      if l.started then
        let open_ := l.branches.filter fun b => !b.done
        let s := setWork q (.launch { l with branches := [] }) s
        open_.zipIdx.foldl (fun s p =>
          let r := branchResult s x.context p.1
          postResult q { r with status := status, fault := none, info := 0 } (p.2 + 1 == open_.length) s) s
      else complete q { status := status } s
    | _ => complete q { status := status } s
  | none => s

/-- A queue halts for a context fault or a context reset (R291). -/
def Sq.haltForContext (x : Sq) : Sq :=
  match x.state with
  | .idle | .active | .waiting => { x with state := .halted }
  | .stalledCpl => { x with haltAtAck := true }
  | _ => x

/-- The read of a command has no answer within 10 ms: its slot is abandoned (13 R375, R376). -/
def lostFetch (q : SqId) (s : State) : State :=
  match readySlot s with
  | some i => abandonSlot i (issueRead i (.fetch q) (s.sq q.val).entryAddr s)
  | none => s

/-- A failed fetch: the queue halts with fetch_err, under a CMD_FETCH record (R291, 13 R374). -/
def haltedFetch (q : SqId) (kind : Nat) (s : State) : State :=
  let x := s.sq q.val
  logError { atPlace 0x0A q.val { cause := 0x1C, sev := sevEvent, addr := x.entryAddr, info0 := kind } with
    names := some x.context } (s.setSq q.val { x with state := .halted, fetchErr := true })

/-- CMD_FETCH_FAIL: the fetch of the next command fails, or reads poison; the queue halts with fetch_err and no
entry is written (R291, 13 R377, R380). `kind` is the failure of a host read. -/
def execCmdFetchFail (sq : SqId) (kind : BitVec 8) (s : State) : Answer :=
  let x := s.sq sq.val
  let k := x.context
  if !canStart s sq then .next s
  else if x.inDram then
    let s := s.touch x.entryAddr 64
    .next (if s.poisonedIn x.entryAddr 64 then haltedFetch sq entryPoisoned s else s)
  else if !hostOpen s then let p := failKind false s; .next (haltedFetch sq p.1 p.2)
  else if !hostAllowed s k then let p := failKind false s; .next (haltedFetch sq p.1 (fenceContext k p.2))
  else if !fetchRoom s sq then .next s
  else if kind.toNat = hostNoAnswer then .next (haltedFetch sq kind.toNat (lostFetch sq s))
  else if [hostReadErr, entryPoisoned].contains kind.toNat then .next (haltedFetch sq kind.toNat (fetchRead sq s))
  else .next s

end Sys2Proof.Machine
end

