-- ==== Sys2Proof/Machine/Operands.lean ====
section
/-! DEFINITION. Operand forms: tile descriptors, their image and their extents, and the elements of a tile
(06 Tile descriptors, 07 R192 to R194, 02 R40). -/

namespace Sys2Proof.Machine

/-- Bytes of 32 elements of a block format (02 R40). -/
def blockBytes : Fmt → Nat
  | .e3m2 | .e2m3 => 24
  | .e2m1 => 16
  | _ => 32

/-- Bits of an element (02 Element formats). -/
def elemBits : Fmt → Nat
  | .fp32 | .int32 => 32
  | .fp16 | .bf16 => 16
  | .e3m2 | .e2m3 => 6
  | .e2m1 => 4
  | _ => 8

/-- The byte length of a row (06 Tile descriptors). -/
def rowLength (f : Fmt) (cols : Nat) : Nat :=
  if f.isBlock then cols / 32 * blockBytes f else cols * (elemBits f / 8)

/-- The byte length of a row of a descriptor. -/
def TileDesc.rowBytes (d : TileDesc) : Nat := rowLength d.fmt d.cols

/-- A zero extent (06 R152). -/
def TileDesc.isEmpty (d : TileDesc) : Bool := d.rows == 0 || d.cols == 0

/-! ## The 32-byte image (R192) -/

/-- The first group of requirements of R192, whose failure has detail 0x03. -/
def imageReserved (v : Nat) (f : Fmt) : Bool :=
  field v 52 12 != 0 || field v 176 16 != 0 || field v 224 32 != 0 || field v 64 16 == 0xFFFF
    || field v 80 16 == 0xFFFF || field v 96 32 == 0xFFFFFFFF || (f.isBlock && field v 192 32 == 0xFFFFFFFF)

/-- The second group, whose failure has detail 0x02. -/
def imageExtents (v : Nat) (f : Fmt) : Bool :=
  let rows := field v 64 16
  let cols := field v 80 16
  field v 0 48 % 64 == 0 && field v 96 32 % 64 == 0
    && (decide (rows ≤ 1) || decide (rowLength f cols ≤ field v 96 32))
    && (!f.isBlock || (cols % 32 == 0 && (decide (rows ≤ 1) || decide (cols / 32 ≤ field v 192 32))))

/-- The descriptor of an image, or the detail of the first failing requirement (R192). -/
def parseTile (v : Nat) : Except Nat TileDesc :=
  match Fmt.ofCode (field v 48 4) with
  | none => .error 0x03
  | some f =>
    if imageReserved v f then .error 0x03
    else if !imageExtents v f then .error 0x02
    else .ok ⟨f, BitVec.ofNat 48 (field v 0 48), field v 64 16, field v 80 16, field v 96 32,
              BitVec.ofNat 48 (field v 128 48), field v 192 32⟩

/-- The image of a descriptor, its RES0 fields zero (R193). -/
def TileDesc.image (d : TileDesc) : Bytes :=
  leBytes 32 (d.base.toNat + 2 ^ 48 * d.fmt.code + 2 ^ 64 * d.rows + 2 ^ 80 * d.cols + 2 ^ 96 * d.rstride
    + 2 ^ 128 * d.sbase.toNat + 2 ^ 192 * d.sstride)

/-! ## Extents -/

/-- Where row `i` of the element plane starts. -/
def TileDesc.rowAddr (d : TileDesc) (i : Nat) : Nat := d.base.toNat + i * d.rstride

/-- Where row `i` of the scale plane starts. -/
def TileDesc.scaleAddr (d : TileDesc) (i : Nat) : Nat := d.sbase.toNat + i * d.sstride

/-- The runs (address, length) of the element plane, by row. -/
def TileDesc.planeRuns (d : TileDesc) : List (Nat × Nat) :=
  (List.range d.rows).map fun i => (d.rowAddr i, d.rowBytes)

/-- The runs of the scale plane, by row: none but for a block format. -/
def TileDesc.scaleRuns (d : TileDesc) : List (Nat × Nat) :=
  if d.fmt.isBlock then (List.range d.rows).map fun i => (d.scaleAddr i, d.cols / 32) else []

/-- Every run of a tile; none where an extent is zero. -/
def TileDesc.runs (d : TileDesc) : List (Nat × Nat) := if d.isEmpty then [] else d.planeRuns ++ d.scaleRuns

/-- First address beyond the place that holds an address. -/
def placeEnd (a : Nat) : Nat :=
  match placeOf a with
  | .dram => ctxDramEnd
  | .clusterStore k => clusterBase + (k + 1) * clusterSize
  | .localStore c => localBase + (c + 1) * localSize
  | _ => a

/-- The first byte of the runs that lies outside the place of `home`. -/
def firstStray (home : Place) : List (Nat × Nat) → Option Nat
  | [] => none
  | (a, n) :: rest =>
    if placeOf a ≠ home then some a
    else if a + n > placeEnd a then some (placeEnd a)
    else firstStray home rest

/-- Every byte of both planes lies within one store of the context's partition or within its DRAM (06 R152). -/
def tileInView (s : State) (k : CtxId) (d : TileDesc) : Except Trap Unit :=
  let a := d.base.toNat
  match placeOf a with
  | .control => .error { cause := causeAddress, detail := 0x05, addr := a }
  | .nothing => .error { cause := causeAddress, detail := 0x02, addr := a }
  | home =>
    let inside := match home with
      | .clusterStore n => (s.ctx k.val).hasCluster n
      | .localStore i => (s.ctx k.val).hasCore i
      | _ => true
    if !inside then .error { cause := causeAddress, detail := 0x04, addr := a }
    else match firstStray home d.runs with
      | some b => .error { cause := causeAddress, detail := 0x02, addr := b }
      | none => .ok ()

/-- The same for an operand of a core. -/
def tileInOnePlace (s : State) (v : CoreSt) (d : TileDesc) : Except Trap Unit := tileInView s v.context d

/-- The tile lies in the core's own local store, base first (06 Matrix). -/
def tileInOwnStore (c : CoreId) (d : TileDesc) : Except Trap Unit :=
  if placeOf d.base.toNat ≠ .localStore c.val then
    .error { cause := causeAddress, detail := 0x03, addr := d.base.toNat }
  else match firstStray (.localStore c.val) d.runs with
    | some b => .error { cause := causeAddress, detail := 0x02, addr := b }
    | none => .ok ()

/-- The descriptor of a `t` register, or the fault of an empty one (06 R152). -/
def tileOperand (v : CoreSt) (r : TReg) : Except Trap TileDesc :=
  match v.tread r with
  | some d => .ok d
  | none => .error { cause := causeIllegalState, detail := 0x02 }

/-! ## Elements (02 R40) -/

/-- The code of element `k` in the bytes of a row. -/
def elemCode (f : Fmt) (row : Bytes) (k : Nat) : Nat :=
  if f.isBlock then
    let block := leAt row (k / 32 * blockBytes f) (blockBytes f)
    field block (k % 32 * elemBits f) (elemBits f)
  else leAt row (k * (elemBits f / 8)) (elemBits f / 8)

/-- The bytes of a row of element codes, packed as R40 packs blocks. -/
def packCodes (f : Fmt) (codes : List Nat) : Bytes :=
  let v := (codes.zipIdx.map fun p => p.1 * 2 ^ (p.2 * elemBits f)).sum
  leBytes (codes.length * elemBits f / 8) v

/-- The bytes of row `i` of the element plane in a store. -/
def State.tileRow (s : State) (d : TileDesc) (i : Nat) : Bytes := s.bytes (d.rowAddr i) d.rowBytes

/-- The scale codes of row `i`. -/
def State.tileScales (s : State) (d : TileDesc) (i : Nat) : Bytes :=
  if d.fmt.isBlock then s.bytes (d.scaleAddr i) (d.cols / 32) else []

/-- Some word of a tile in a store is poisoned. -/
def State.tilePoisoned (s : State) (d : TileDesc) : Bool := d.runs.any fun r => s.poisonedIn r.1 r.2

/-- A read of a tile in a store has met the errors latent there. -/
def State.touchTile (s : State) (d : TileDesc) : State := d.runs.foldl (fun s r => s.touch r.1 r.2) s

end Sys2Proof.Machine
end

