-- ==== Sys2Proof/Machine/Routing.lean ====
section
/-! DEFINITION. Packets and their routes: the header and its CRC, the active table, the choice of a port, credits,
discards (12 R322 to R341, R347). -/

namespace Sys2Proof.Machine

/-! ## Chip IDs and the active table (12 R322 to R328) -/

/-- No chip ID. -/
abbrev noChip : BitVec 16 := 0xFFFF

/-- This chip's ID in the active table. -/
def ownChip (s : State) : BitVec 16 := BitVec.ofNat 16 (bitsAt s.fab.active.topg 0 16)

/-- The coordinate of a chip ID on axis 0 (X), 1 (Y) or 2 (Z). -/
def coord (chip : BitVec 16) (axis : Nat) : Nat := field chip.toNat (10 - 5 * axis) 5

/-- Chips along an axis. -/
def Topo.extent (t : Topo) (axis : Nat) : Nat := bitsAt t.topg (16 + 5 * axis) 5 + 1

/-- A chip ID that is assigned to a place of the torus: bit 15 is zero and its coordinates lie in the shape. -/
def Topo.hasChip (t : Topo) (chip : BitVec 16) : Bool :=
  !chip.getLsbD 15 && (List.range 3).all fun a => decide (coord chip a < t.extent a)

/-- A valid job entry. -/
def Topo.jobValid (t : Topo) (j : Nat) : Bool := bitAt (t.job0.get 0 j) 0
/-- Its context. -/
def Topo.jobCtx (t : Topo) (j : Nat) : CtxId := Fin.ofNat 64 (bitsAt (t.job0.get 0 j) 1 6)
/-- Its job ID. -/
def Topo.jobId (t : Topo) (j : Nat) : BitVec 16 := BitVec.ofNat 16 (bitsAt (t.job0.get 0 j) 8 16)
/-- Its wrap bits. -/
def Topo.jobWrap (t : Topo) (j axis : Nat) : Bool := bitAt (t.job0.get 0 j) (40 + axis)
/-- Its box on an axis. -/
def Topo.jobBox (t : Topo) (j axis : Nat) : Nat × Nat :=
  (bitsAt (t.job1.get 0 j) (10 * axis) 5, bitsAt (t.job1.get 0 j) (10 * axis + 5) 5)

/-- A chip lies in the box of a job entry (12 R328). -/
def Topo.inBox (t : Topo) (j : Nat) (chip : BitVec 16) : Bool :=
  (List.range 3).all fun a => decide ((t.jobBox j a).1 ≤ coord chip a) && decide (coord chip a ≤ (t.jobBox j a).2)

/-- The job entry of a context (12 R325). -/
def Topo.entryOfCtx (t : Topo) (k : CtxId) : Option Nat := (List.range 64).find? fun j => t.jobValid j && t.jobCtx j == k
/-- The job entry of a job ID (12 R325). -/
def Topo.entryOfJob (t : Topo) (job : BitVec 16) : Option Nat :=
  (List.range 64).find? fun j => t.jobValid j && t.jobId j == job

/-- The role of a port (12 R327): 0 to 5 for X+ to Z−, 6 express, 7 none. -/
def Topo.role (t : Topo) (p : PortId) : Nat := bitsAt (t.port.get noPort p.val) 0 3
/-- The chip expected at a port. -/
def Topo.peerChip (t : Topo) (p : PortId) : BitVec 16 := BitVec.ofNat 16 (bitsAt (t.port.get noPort p.val) 8 16)

/-! ## Packets (12 R329 to R332) -/

/-- Packet types (12 R330). -/
abbrev ptOpen : Fin 16 := 0
/-- Packet type. -/
abbrev ptGrant : Fin 16 := 1
/-- Packet type. -/
abbrev ptRefuse : Fin 16 := 2
/-- Packet type. -/
abbrev ptData : Fin 16 := 3
/-- Packet type. -/
abbrev ptAck : Fin 16 := 4
/-- Packet type. -/
abbrev ptSemadd : Fin 16 := 5
/-- Packet type. -/
abbrev ptResend : Fin 16 := 6
/-- Packet type. -/
abbrev ptEcho : Fin 16 := 7
/-- Packet type. -/
abbrev ptMgmt : Fin 16 := 8
/-- Packet type. -/
abbrev ptLink : Fin 16 := 9

/-- The channel of a type on a hop inside its job; none for a reserved type (12 R330). -/
def typeVc (t : Fin 16) : Option Nat :=
  if t = ptData then some 0 else if t.val ≤ 7 then some 1 else if t.val ≤ 9 then some 3 else none

end Sys2Proof.Machine

namespace Sys2Proof

/-- A packet with everything but what is named at zero. -/
def Pkt.blank : Pkt := ⟨0, 0, 0, false, false, false, 0, 0, 0, 0, 0, 0, 0, 0, 0, 0, []⟩

/-- The header as one number (12 R329). -/
def Pkt.header (k : Pkt) : Nat :=
  k.dstChip.toNat + 2 ^ 16 * k.srcChip.toNat + 2 ^ 32 * k.ptype.val + 2 ^ 36 * k.last.toNat + 2 ^ 37 * k.ce.toNat
    + 2 ^ 38 * k.dl.toNat + 2 ^ 39 * k.dir.toNat + 2 ^ 42 * k.job.toNat + 2 ^ 58 * k.gen.toNat
    + 2 ^ 66 * k.msgId.toNat + 2 ^ 82 * k.handle.toNat + 2 ^ 98 * k.pktIndex.toNat + 2 ^ 122 * k.pktTotal.toNat
    + 2 ^ 146 * k.dstAddr.toNat + 2 ^ 194 * k.payload.length + 2 ^ 208 * k.aux.toNat + 2 ^ 224 * k.crc.toNat

/-- The end-to-end CRC: over the header with ce, dl and crc as zero, then the payload (12 R332). -/
def Pkt.crcOf (k : Pkt) : BitVec 32 :=
  Sys2Proof.Machine.crc32 (leBytes 32 ({ k with ce := false, dl := false, crc := 0 } : Pkt).header ++ k.payload)

/-- The packet as it stands in the stream: its header, then its payload in whole flits (12 R329). -/
def Pkt.image (k : Pkt) : Bytes :=
  leBytes 32 k.header ++ Sys2Proof.Machine.fitTo ((k.payload.length + 31) / 32 * 32) k.payload

/-- The packet whose header is the number `h`; its payload is the first of the bytes that follow (12 R329). -/
def Pkt.ofHeader (h : Nat) (bs : Bytes) : Pkt where
  dstChip := BitVec.ofNat 16 h
  srcChip := BitVec.ofNat 16 (h >>> 16)
  ptype := Fin.ofNat 16 (h >>> 32)
  last := h.testBit 36
  ce := h.testBit 37
  dl := h.testBit 38
  dir := BitVec.ofNat 3 (h >>> 39)
  job := BitVec.ofNat 16 (h >>> 42)
  gen := BitVec.ofNat 8 (h >>> 58)
  msgId := BitVec.ofNat 16 (h >>> 66)
  handle := BitVec.ofNat 16 (h >>> 82)
  pktIndex := BitVec.ofNat 24 (h >>> 98)
  pktTotal := BitVec.ofNat 24 (h >>> 122)
  dstAddr := BitVec.ofNat 48 (h >>> 146)
  aux := BitVec.ofNat 16 (h >>> 208)
  crc := BitVec.ofNat 32 (h >>> 224)
  payload := bs.take (field h 194 14)

/-- The packet of an image. -/
def Pkt.ofImage (bs : Bytes) : Pkt := Pkt.ofHeader (leNat (bs.take 32)) (bs.drop 32)

/-- Units of 64 bytes that a packet occupies (12 R333). -/
def Pkt.units (k : Pkt) : Nat := (32 + k.payload.length + 63) / 64

end Sys2Proof

namespace Sys2Proof.Machine

/-! ## Routes (12 R337 to R341) -/

/-- The bit of dir for an axis: 1 for the negative way (12 R337). -/
def axisDir (wrap : Bool) (n here there : Nat) : Bool :=
  if here = there then false
  else if wrap then decide ((there + n - here) % n > (here + n - there) % n)
  else decide (there < here)

/-- dir of a packet from this chip, by the wrap bits of a job entry; management packets do not wrap (12 R337). -/
def dirTo (s : State) (entry : Option Nat) (dst : BitVec 16) : BitVec 3 :=
  let t := s.fab.active
  let bit (a : Nat) : Nat :=
    (axisDir (match entry with | some j => t.jobWrap j a | none => false) (t.extent a) (coord (ownChip s) a)
      (coord dst a)).toNat
  BitVec.ofNat 3 (bit 0 + 2 * bit 1 + 4 * bit 2)

/-- The exception entry that decides a destination's route (12 R338). -/
def Topo.exception (t : Topo) (dst : BitVec 16) : Option Word :=
  ((List.range 256).map fun i => t.exc.get 0 i).find? fun e =>
    bitAt e 0 && ((dst ^^^ BitVec.ofNat 16 (bitsAt e 8 16)) &&& BitVec.ofNat 16 (bitsAt e 24 16)) == 0

/-- The first axis on which the destination differs (12 R337). -/
def firstAxis (s : State) (dst : BitVec 16) : Option Nat :=
  (List.range 3).find? fun a => coord (ownChip s) a != coord dst a

/-- Candidate ports of a destination; none where an exception entry drops it (12 R337, R338). -/
def candidates (s : State) (dst : BitVec 16) (dir : BitVec 3) : Option (List PortId) :=
  let t := s.fab.active
  match t.exception dst with
  | some e => if bitAt e 1 then none else some ((List.finRange 16).filter fun p => bitAt e (40 + p.val))
  | none =>
    match firstAxis s dst with
    | some a => some ((List.finRange 16).filter fun p => t.role p == 2 * a + (dir.getLsbD a).toNat)
    | none => some []

/-- A port usable for data (12 R339, 14 R412). -/
def Port.forData (x : Port) : Bool :=
  (x.state == .active || (x.state == .fastRetrain && x.cameFrom == .active)) && !x.closed

/-- A port usable for a channel (12 R339). -/
def Port.usable (x : Port) (vc : Nat) : Bool :=
  if vc = 3 then x.state == .active || (x.state == .fastRetrain && x.cameFrom == .active) || x.state == .quarantine
  else x.forData

/-- Credits held for a channel and class. -/
def Port.creditFor (x : Port) (vc cls : Nat) : Nat := x.credits.get 0 (2 * vc + cls)

/-- Units queued for a channel (12 R347). -/
def Port.queuedFor (x : Port) (vc : Nat) : Nat := ((x.queued.filter fun q => q.vc == vc).map fun q => q.k.units).sum

/-- The axis and sign that a port's role serves. -/
def Topo.axisOf (t : Topo) (p : PortId) : Option (Nat × Bool) :=
  if t.role p < 6 then some (t.role p / 2, t.role p % 2 == 1) else none

/-- dl on a hop over port `p`: cleared at a turn onto a later axis, set across a wrap link (12 R337). -/
def hopDl (s : State) (inPort : Option PortId) (p : PortId) (dl : Bool) : Bool :=
  let t := s.fab.active
  match t.axisOf p with
  | none => dl
  | some (a, neg) =>
    let turned := match inPort.bind t.axisOf with
      | some (b, _) => decide (b < a)
      | none => false
    let here := coord (ownChip s) a
    (dl && !turned) || here == (if neg then 0 else t.extent a - 1)

/-- The channel of a hop: VC2 in transit outside the job (12 R341). -/
def hopVc (s : State) (k : Pkt) (p : PortId) (own : Nat) : Nat :=
  if own = 3 then 3
  else match s.fab.active.entryOfJob k.job with
    | none => 2
    | some j => if s.fab.active.inBox j (s.fab.active.peerChip p) then own else 2

/-- The usable candidate that holds the most credits for the channel and class of its own hop, ties to the lower number
(12 R339). -/
def bestPort (s : State) (inPort : Option PortId) (k : Pkt) (own : Nat) (ps : List PortId) : Option PortId :=
  let held (p : PortId) : Nat := (s.port p.val).creditFor (hopVc s k p own) (hopDl s inPort p k.dl).toNat
  (ps.filter fun p => (s.port p.val).usable own).foldl (fun best p =>
    match best with
    | some b => if held b < held p then some p else some b
    | none => some p) none

/-- The port that a packet takes from here, if there is one (12 R337 to R341). -/
def choosePort (s : State) (inPort : Option PortId) (k : Pkt) : Option (PortId × Nat × Bool) :=
  match typeVc k.ptype, candidates s k.dstChip k.dir with
  | some own, some ps =>
    match bestPort s inPort k own ps with
    | some p => some (p, hopVc s k p own, hopDl s inPort p k.dl)
    | none => none
  | _, _ => none

/-! ## Flit groups sent (11 R295, R302, R313, R315, 12 R334, R336) -/

/-- Bytes of packet stream in a flit group (11 R295). -/
abbrev groupBytes : Nat := 5088
/-- Groups of the replay buffer (11 R302). -/
abbrev replayLimit : Nat := 1024
/-- Groups under one key (11 R315). -/
abbrev keyLife : Nat := 2 ^ 36

/-- New groups that a port may send: the replay buffer has room for them, and the key has a life left for them on a sealed link
(11 R302, R315). -/
def Port.groupRoom (x : Port) : Nat :=
  let n := replayLimit - x.replay.length
  if x.sealed then min n (keyLife - x.txGroups) else n

/-- A channel that the port's state opens (11 R310). -/
def Port.opens (x : Port) (vc : Nat) : Bool := x.state == .active || (x.state == .quarantine && vc == 3)

/-- A packet may start: its channel is open, the port holds credits for every unit of it, and `room` bytes of stream take it
(12 R334). -/
def Port.canStart (x : Port) (room : Nat) (q : QueuedPkt) : Bool :=
  x.opens q.vc && decide (q.k.units ≤ x.creditFor q.vc q.k.dl.toNat) && decide (q.k.image.length ≤ room)

/-- The channels in the order in which an output chooses (12 R336). -/
def Port.vcOrder (x : Port) : List Nat := [3, 1] ++ if x.transitTurn then [2, 0] else [0, 2]

/-- The next packet to leave: the first of its channel, of the first channel in the order whose first may start (12 R336). -/
def Port.nextPacket (x : Port) (room : Nat) : Option QueuedPkt :=
  (x.vcOrder.filterMap fun vc => x.queued.find? fun q => q.vc == vc).find? (x.canStart room)

/-- Packets that leave now, in order: each takes its credits, and VC0 and VC2 change turns. `n` bounds their number. -/
def Port.takePackets : Nat → Nat → Port → Port × List QueuedPkt
  | 0, _, x => (x, [])
  | n + 1, room, x =>
    match x.nextPacket room with
    | none => (x, [])
    | some q =>
      let y := { x with
        queued := x.queued.erase q
        credits := x.credits.update 0 (2 * q.vc + q.k.dl.toNat) fun c => c - q.k.units
        transitTurn := if q.vc = 0 then true else if q.vc = 2 then false else x.transitTurn }
      let r := Port.takePackets n (room - q.k.image.length) y
      (r.1, q :: r.2)

/-- Credits in one field of a trailer (12 R334). -/
abbrev creditField : Nat := 127

/-- Bytes 5 to 11 of a trailer: the units freed since the one before, as many as a field holds (12 R334). -/
def Port.creditBytes (x : Port) : Bytes :=
  leBytes 7 ((List.range 8).map fun i => min creditField (x.freed.get 0 i) * 2 ^ (7 * i)).sum

/-- Trailer bytes 0 to 11: the next number, the last group received good and in order, the flags, the credits (11 R295). -/
def Port.trailerHead (x : Port) : Bytes :=
  let flags := x.gotAny.toNat + 2 * x.nakDue.toNat + 4 * (x.sealed && x.txPhase).toNat + 8 * x.localVerdict.toNat
    + 16 * x.sealed.toNat
  leBytes 2 x.txSeq.toNat ++ leBytes 2 (x.rxSeq - 1).toNat ++ leBytes 1 flags ++ x.creditBytes

/-- The IV of a direction: its key's salt and the count of new groups under that key (11 R313). -/
def Port.groupIv (x : Port) (key count : Nat) : Bytes := x.salts.get [] key ++ leBytes 8 count

/-- The key store's place of a direction and phase, by `2 * receive + phase`. -/
def keyIndex (receive phase : Bool) : Nat := 2 * receive.toNat + phase.toNat

/-- One new group: 159 flits of stream and the trailer, sealed on a sealed link; it stays in the replay buffer (11 R295, R302, R313;
DEDUCED, log entry 28). -/
def Port.sendGroup (x : Port) (clk : Nat) (stream : Bytes) (starts : List Nat) : Port × SentGroup :=
  let head := x.trailerHead
  let key := keyIndex false x.txPhase
  let p := if x.sealed then Config.gcmSeal (x.keyBytes.get [] key) (x.groupIv key x.txGroups) head stream
    else (stream, zeros 16)
  let body := p.1 ++ head ++ p.2
  let g : SentGroup := ⟨x.txSeq, body ++ leBytes 4 (crc32 body).toNat, starts⟩
  ({ x with
    txSeq := x.txSeq + 1
    txGroups := if x.sealed then x.txGroups + 1 else x.txGroups
    replay := x.replay ++ [g]
    lastAckClk := if x.replay.isEmpty then clk else x.lastAckClk
    nakDue := false
    ackDue := false
    freed := (List.range 8).foldl (fun t i => t.update 0 i fun n => n - creditField) x.freed }, g)

/-- The stream of some packets, and the flits of it that begin one (11 R295, 12 R329; DESIGN CHOICE, log entry 170). -/
def streamOf (ks : List Pkt) : Bytes × List Nat :=
  ks.foldl (fun (r : Bytes × List Nat) (k : Pkt) => (r.1 ++ k.image, r.2 ++ [r.1.length / 32])) ([], [])

/-- A stream sent in groups, the last filled with flits of zeros. -/
def Port.sendStream (clk : Nat) (stream : Bytes) (starts : List Nat) (n : Nat) (x : Port) : Port × List SentGroup :=
  (List.range n).foldl (fun (r : Port × List SentGroup) i =>
    let here := (starts.filter fun f => f / 159 == i).map fun f => f % 159
    let g := r.1.sendGroup clk (fitTo groupBytes (stream.drop (groupBytes * i))) here
    (g.1, r.2 ++ [g.2])) (x, [])

/-- What the port has to tell its peer with no packet to send: an ack, a nak, freed units. -/
def Port.owes (x : Port) : Bool := x.ackDue || x.nakDue || !x.freed.rows.isEmpty

/-- The packets and the groups that leave a port now: the packets that may start, in as many groups as they fill, or one group
without a packet where the peer is owed an ack, a nak or credits (11 R295, R302, 12 R334; DESIGN CHOICE, log entry 28). -/
def Port.pump (clk : Nat) (x : Port) : Port × List QueuedPkt × List SentGroup :=
  let r := Port.takePackets x.queued.length (groupBytes * x.groupRoom) x
  let st := streamOf (r.2.map fun q => q.k)
  let n := (st.1.length + groupBytes - 1) / groupBytes
  let n := if n = 0 && x.owes && x.groupRoom != 0 then 1 else n
  let g := r.1.sendStream clk st.1 st.2 n
  (g.1, r.2, g.2)

/-- A port that runs sends what it can. -/
def pumpPort (p : PortId) (s : State) : State :=
  let x := s.port p.val
  if x.state != .active && x.state != .quarantine then s
  else
    let r := x.pump s.clk
    let s := r.2.1.foldl (fun (s : State) (q : QueuedPkt) => s.emit (.packet (some p) q.vc q.k)) (s.setPort p.val r.1)
    r.2.2.foldl (fun (s : State) (g : SentGroup) => s.emit (.group p g.image g.starts)) s

/-- A packet joins the queue of an output port, marked if the queue is long, and leaves when its turn and its credits come (12 R334,
R336, R347; DESIGN CHOICE, log entry 19). -/
def putOnPort (p : PortId) (vc : Nat) (k : Pkt) (s : State) : State :=
  let x := s.port p.val
  let mark := (vc = 0 ∨ vc = 2) && decide (x.queuedFor vc > bitsAt s.fab.ctl 32 16)
  pumpPort p (s.setPort p.val { x with queued := x.queued ++ [⟨vc, { k with ce := k.ce || mark }⟩] })

/-! ## Notices (12 R350, R351, 13 R384) -/

/-- Event notices (12 R351). -/
abbrev evQuarantine : Nat := 1
/-- Notice. -/
abbrev evDown : Nat := 2
/-- Notice. -/
abbrev evThreshold : Nat := 3
/-- Notice. -/
abbrev evPeerReset : Nat := 4
/-- Notice. -/
abbrev evPlumbLost : Nat := 5
/-- Notice. -/
abbrev evDiscards : Nat := 6

/-- The payload of a notice (12 R351). -/
def noticeBytes (s : State) (ev port detail : Nat) : Bytes :=
  leBytes 1 ev ++ leBytes 1 port ++ leBytes 1 detail ++ zeros 1 ++ leBytes 2 (ownChip s).toNat ++ zeros 2
    ++ leBytes 8 s.plumb.now.toNat ++ zeros 16

/-- The address of the fabric manager (13 R386). -/
def fmAddress (s : State) : BitVec 128 := s.ethFma1 ++ s.ethFma0

/-- The MAC address by which a port sends: its lower sub-port's while that is up, else its upper one's (13 R381). -/
def portMac (s : State) (p : Nat) : BitVec 48 := s.fuses.macs.get 0 (if (s.eth.get .reset p).up0 then 2 * p else 2 * p + 1)

/-- An Ethernet port that is enabled and has a link. -/
def ethUp (s : State) (p : Nat) : Bool :=
  let x := s.eth.get .reset p
  bitAt x.ctl 0 && (x.up0 || x.up1)

/-- The class of the shared store (13 R382). -/
abbrev tagStore : FrameTag := ⟨3, 26, none⟩
/-- Class. -/
abbrev tagNotify : FrameTag := ⟨6, 48, none⟩
/-- Class. -/
abbrev tagManagement : FrameTag := ⟨7, 56, some 47110⟩
/-- Class. -/
abbrev tagTelemetry : FrameTag := ⟨1, 10, some 47111⟩

/-- A frame leaves an Ethernet port, or waits while its priority is paused (13 R382). -/
def sendFrame (port : Nat) (tag : FrameTag) (f : EthFrame) (s : State) : State :=
  let x := s.eth.get .reset port
  if x.paused.getLsbD tag.prio then { s with eth := s.eth.set .reset port { x with waiting := x.waiting ++ [(tag, f)] } }
  else s.emit (.frame port tag f)

/-- A datagram to the fabric manager, by a port with a link, of two by one that the manual leaves open; none without an address
or a link (13 R384). -/
def fmDatagram (data : Bytes) (s : State) : State :=
  if !s.ethFm || !(ethUp s 0 || ethUp s 1) then s
  else
    let p := s.choose
    let port := if ethUp s 0 && ethUp s 1 then p.1.toNat else if ethUp s 0 then 0 else 1
    sendFrame port tagManagement (.datagram (portMac s port) (fmAddress s) data) p.2

/-- An MGMT packet (12 R350). -/
def mgmtPkt (dst : BitVec 16) (sub : Nat) (data : Bytes) : Pkt :=
  { Pkt.blank with ptype := ptMgmt, dstChip := dst, aux := BitVec.ofNat 16 sub, payload := data }

/-- The gateway of the active table (12 R326). -/
def gateway (s : State) : BitVec 16 := BitVec.ofNat 16 (bitsAt s.fab.active.topm 16 16)

/-- A packet that starts here: its source, its dir and its CRC are set. -/
def ownPkt (k : Pkt) (s : State) : Pkt :=
  let k := { k with srcChip := ownChip s, dir := dirTo s (s.fab.active.entryOfJob k.job) k.dstChip }
  { k with crc := k.crcOf }

/-- A notice goes to the gateway, or over Ethernet where there is none, no route to it, or it is this chip (12
R351). -/
def sendNotice (ev port detail : Nat) (s : State) : State :=
  let data := noticeBytes s ev port detail
  let g := gateway s
  let k := ownPkt (mgmtPkt g 1 data) s
  if g = noChip || g = ownChip s then fmDatagram data s
  else match choosePort s none k with
    | some (p, vc, dl) => putOnPort p vc { k with dl := dl } s
    | none => fmDatagram data s

/-! ## Discards (12 R340) -/

/-- Where FAB_STAT.drops stops (12 R349). -/
abbrev dropsTop : Nat := 0xFFFFFE

/-- A discard: counted, and recorded and noticed once per port per 1 ms (12 R340, R351; DEDUCED, log entry 31). -/
def discard (at_ : Option PortId) (k : Pkt) (s : State) : State :=
  let s := { s with fab := { s.fab with drops := satTo dropsTop (s.fab.drops + 1) } }
  let r : ErrRec := { cause := 0x10, sev := sevEvent, info0 := k.header % 2 ^ 64 }
  match at_ with
  | none => sendNotice evDiscards 0xFF 0 (logError (atPlace 0x09 0 r) s)
  | some p =>
    let x := s.port p.val
    let quiet := match x.routeClk with
      | some t => decide (s.clk < t + msEdges)
      | none => false
    if quiet then s.setPort p.val { x with routeDrops := x.routeDrops + 1 }
    else sendNotice evDiscards p.val 0 (logError (atPlace 0x08 p.val { r with info1 := x.routeDrops })
      (s.setPort p.val { x with routeClk := some s.clk, routeDrops := 0 }))

/-- A packet leaves this chip by the port its route chooses, or is discarded (12 R340). -/
def forward (inPort : Option PortId) (k : Pkt) (s : State) : State :=
  match choosePort s inPort k with
  | some (p, vc, dl) => putOnPort p vc { k with dl := dl } s
  | none => discard inPort k s

/-- A packet that starts here leaves. -/
def sendPkt (k : Pkt) (s : State) : State := forward none (ownPkt k s) s

/-- What a packet from here, or one that has arrived, does: it is delivered, leaves by a port or is discarded (12 R337 to R341). -/
def routed (inPort : Option PortId) (vc : Fin 4) (k : Pkt) (s : State) : State :=
  match typeVc k.ptype with
  | none => discard inPort k s
  | some own =>
    let shut := match inPort with
      | some p => own != 3 && !(s.port p.val).forData
      | none => false
    if inPort.isSome && vc.val != own && !(vc.val == 2 && own != 3) then discard inPort k s
    else if shut then discard inPort k s
    else if k.ptype = ptLink then s
    else if firstAxis s k.dstChip = none then s
    else forward inPort k s

/-- PACKET_ROUTE: a packet that starts here, or the next one that a port's accepted groups have brought, whole and in order, is
routed; what a delivered packet does is the command of its type. The buffer units of one that arrived are freed and go back
with the next trailer (12 R334, R337 to R341, 11 R304). -/
def execPacketRoute (inPort : Option PortId) (vc : Fin 4) (k : Pkt) (s : State) : Answer :=
  match inPort with
  | none => .next (routed none vc k s)
  | some p =>
    let x := s.port p.val
    match x.arrived with
    | next :: rest =>
      if next = k then
        let x := { x with arrived := rest, freed := x.freed.update 0 (2 * vc.val + k.dl.toNat) fun n => n + k.units }
        .next (pumpPort p (routed (some p) vc k (s.setPort p.val x)))
      else .next s
    | [] => .next s

end Sys2Proof.Machine
end

