-- ==== Sys2Proof/Machine/RemoteOps.lean ====
section
/-! DEFINITION. Operations to another chip at their source: the checks before anything is sent, sending, holding
(12 R331, R342, 06 R159, 14 R399, R401). -/

namespace Sys2Proof.Machine

/-- FAB_CTL.e2e_us in edges. -/
def e2eEdges (s : State) : Nat := bitsAt s.fab.ctl 8 24 * usEdges

/-- The longest run of a message (12 R331). -/
abbrev runBytes : Nat := 8192

/-- A row of `n` bytes at `a` cut into runs of 8,192 bytes (12 R331). -/
def cutRow (a n : Nat) : List (Nat × Nat) :=
  (List.range ((n + runBytes - 1) / runBytes)).map fun i => (a + i * runBytes, min runBytes (n - i * runBytes))

/-- The runs of a message, by pkt_index: the rows of the element plane, then those of the scale plane (12 R331;
DEDUCED, log entry 20). -/
def TileDesc.messageRuns (d : TileDesc) : List (Nat × Nat) := d.runs.flatMap fun r => cutRow r.1 r.2

/-- No tile. -/
def TileDesc.nothing : TileDesc := ⟨.raw8, 0, 0, 0, 0, 0, 0⟩

/-- A trap of a data-mover operation that another chip decides: imprecise, with the peer (06 R161, R167, R170). -/
def peerTrap (cause detail unit : Nat) (chip : BitVec 16) : Trap :=
  { cause := cause, detail := detail, unit := unit, prec := 2, chip := chip }

/-- The check of gchip (06 R159). -/
def chipOperand (s : State) (w : Word) : Except Trap (BitVec 16) :=
  let chip := w.setWidth 16
  if bitsAt w 16 48 ≠ 0 ∨ (chip = ownChip s ∧ ownChip s ≠ noChip) then
    .error { cause := causeIllegalOperand, detail := 0x09 }
  else .ok chip

/-- The chip is listed as down (14 R412). -/
def peerListed (s : State) (chip : BitVec 16) : Bool := s.fab.peerDown.rows.any fun r => r.2 == some chip

/-- The checks of R342 in order, then R412: the job entry of the operation. -/
def remoteChecks (s : State) (k : CtxId) (chip : BitVec 16) (unit : Nat) : Except Trap Nat :=
  match s.fab.active.entryOfCtx k with
  | none => .error (peerTrap causeTransfer 0x01 unit chip)
  | some j =>
    if !(s.fab.active.hasChip chip && s.fab.active.inBox j chip) then .error (peerTrap causeTransfer 0x02 unit chip)
    else
      let probe : Pkt := { Pkt.blank with dstChip := chip, job := s.fab.active.jobId j, dir := dirTo s (some j) chip }
      match choosePort s none probe with
      | none => .error (peerTrap causeTransfer 0x03 unit chip)
      | some (p, _, _) =>
        if (s.ctx k.val).conf && !(s.port p.val).sealed then .error (peerTrap causeTransfer 0x0A unit chip)
        else if peerListed s chip then .error (peerTrap causePeerLost 0 unit chip)
        else .ok j

/-- Operations opened and not acknowledged (12 R342). -/
def openedOps (s : State) : Nat := (s.fab.ops.filter fun o => o.phase != .held).length

/-- The most operations that a chip holds opened (12 R342). -/
abbrev openLimit : Nat := 1024

/-- A context's operations wait for the age of its generation, or for the hold after a reset (14 R399, R401). -/
def remoteWaits (s : State) (k : CtxId) : Bool := (s.ctx k.val).genAging || s.rst.remoteHold.isSome

/-- A remote data-mover operation of a core that has moved no byte: it is not granted yet. -/
def RemoteOp.unmoved (o : RemoteOp) (c : CoreId) : Bool :=
  o.core == c && !o.inPort && (match o.kind with | .semAdd _ _ => false | _ => true)
    && (match o.phase with | .granted _ => false | _ => true)

/-- Its core has stopped issuing and the operation has not begun to move bytes: the data mover has discarded it (06 R168). -/
def RemoteOp.discarded (s : State) (o : RemoteOp) : Bool := o.unmoved o.core && (s.core o.core.val).stopsWork

/-- An operation changed by `f`. -/
def changeOp (msg : BitVec 16) (f : RemoteOp → RemoteOp) (s : State) : State :=
  { s with fab := { s.fab with ops := s.fab.ops.map fun o => if o.msgId = msg then f o else o } }

/-- An operation that is over. -/
def dropOp (msg : BitVec 16) (s : State) : State :=
  { s with fab := { s.fab with ops := s.fab.ops.filter fun o => o.msgId != msg } }

/-- The name that stands for no semaphore in an OPEN (DESIGN CHOICE, log entry 21). -/
abbrev noSemName : Word := 0xFFFFFFFFFFFFFFFF

/-- The OPEN or SEMADD of an operation (12 R330, R342). -/
def openPkt (o : RemoteOp) : Pkt :=
  let base : Pkt := { Pkt.blank with dstChip := o.dst, job := o.job, gen := o.gen, msgId := o.msgId }
  match o.kind with
  | .semAdd name value => { base with ptype := ptSemadd, payload := leBytes 8 name.toNat ++ leBytes 8 value.toNat }
  | kind => { base with
      ptype := ptOpen
      pktTotal := BitVec.ofNat 24 o.dstDesc.messageRuns.length
      aux := if kind matches .reduce _ then 1 else 0
      payload := o.dstDesc.image ++ leBytes 8 o.gdsem.toNat ++ zeros 24 }

/-- An operation is sent, if nothing holds it: its end-to-end timer starts (12 R342). -/
def trySend (o : RemoteOp) (s : State) : State :=
  if o.phase != .held || o.inPort || o.discarded s || remoteWaits s o.ctx || openedOps s ≥ openLimit then s
  else
    let o := { o with phase := .opened, gen := (s.ctx o.ctx.val).gen, startClk := s.clk, openClk := s.clk }
    sendPkt (openPkt o) (changeOp o.msgId (fun _ => o) s)

/-- Held operations that can go now are sent, in order. -/
def sendHeld (s : State) : State := s.fab.ops.foldl (fun s o => trySend o s) s

/-- A tag that no operation in progress uses: the counter's value, or the next free one. -/
def freshMsg (ops : List RemoteOp) : Nat → BitVec 16 → BitVec 16
  | 0, m => m
  | n + 1, m => if ops.any fun o => o.msgId == m then freshMsg ops n (m + 1) else m

/-- A new operation joins the chip's operations; it is sent at once unless something holds it. -/
def submitOp (o : RemoteOp) (s : State) : State :=
  let m := freshMsg s.fab.ops (s.fab.ops.length + 1) s.fab.nextMsg
  let o := { o with msgId := m }
  trySend o { s with fab := { s.fab with ops := s.fab.ops ++ [o], nextMsg := m + 1 } }

/-- A remote add of a core (06 R162, 09 R255). -/
def semAddOp (s : State) (c : CoreId) (pc : Addr) (insn : Word) (chip : BitVec 16) (j : Nat) (name value : Word)
    (inPort : Bool) : RemoteOp :=
  { msgId := 0, ctx := (s.core c.val).context, core := c, pc := pc, insn := insn, kind := .semAdd name value,
    dst := chip, job := s.fab.active.jobId j, gen := 0, src := .nothing,
    dstDesc := .nothing, pages := .empty, gsem := none, gdsem := 0, phase := .held, startClk := 0, openClk := 0,
    resends := .empty, seq := (s.core c.val).moverNext, inPort := inPort }

end Sys2Proof.Machine
end

