-- ==== Sys2Proof/Machine/Semaphores.lean ====
section
/-! DEFINITION. Semaphores, fences and the Y class: arrivals, the update of a cycle, waking, releases (chapter 09, 06
R163, R164, 07 R190). -/

namespace Sys2Proof.Machine

/-! ## Arrival ports (09 R246) -/

/-- The rank of a core, and of its data mover when `mover`. -/
def coreRank (n : SemId) (c : CoreId) (mover : Bool) : Nat :=
  match n with
  | .cluster _ _ => c.val % 16 + (if mover then 16 else 0)
  | .die _ => c.val + (if mover then 256 else 0)

/-- The rank of what reaches a cluster memory over the on-die network, or the given rank at the die memory. -/
def farRank (n : SemId) (die : Nat) : Nat :=
  match n with
  | .cluster _ _ => 33
  | .die _ => die

/-- The rank of the global front end at the die memory. -/
abbrev rankFrontEnd : Nat := 512
/-- The rank of Apbor port 0 at the die memory. -/
abbrev rankPorts : Nat := 513
/-- The rank of the host port and the firmware processors. -/
abbrev rankHost : Nat := 529

/-- An operation reaches a semaphore. -/
def arrive (n : SemId) (a : SemArrival) (s : State) : State :=
  s.setSem n { s.sem n with arrivals := (s.sem n).arrivals ++ [a] }

/-- The name of a semaphore by scope 0b00 or 0b01 (09 R242). -/
def semNameWord : SemId → Nat
  | .cluster k i => i.val + 65536 * k.val
  | .die i => i.val + 16384

/-! ## Waking (09 R249, R250, 10 R277) -/

/-- A wait of an acquire kind (09 R240). -/
def WaitKind.acquires : WaitKind → Bool
  | .wait => false
  | _ => true

/-- A wait that consumes. -/
def WaitKind.consumes : WaitKind → Bool
  | .acq => true
  | _ => false

/-- A core whose wait is satisfied: issue resumes, and an acquire drops the read-combining buffer (09 R236). -/
def CoreSt.resumed (v : CoreSt) (k : WaitKind) : CoreSt :=
  { v with hold := .none, readBuf := if k.acquires then [] else v.readBuf }

/-- The deadlock detector starts timing again (09 R258). -/
def breakBlocked (k : CtxId) (s : State) : State :=
  s.setCtx k.val { s.ctx k.val with blockedSince := none, deadlockFired := false }

/-- Whoever waits goes on: a core issues again, a WAIT command completes. -/
def wake (who : Agent) (k : WaitKind) (s : State) : State :=
  match who with
  | .core c =>
    let v := s.core c.val
    breakBlocked v.context (s.setCore c.val (v.resumed k))
  | .queue q =>
    let x := s.sq q.val
    complete q { status := stSuccess } (s.setSq q.val { x with state := if x.state == .waiting then .active else x.state })

/-- The waiters that a value lets go, in order of registration: the value left, those woken, those that stay
(09 R250). `shut` says that an acquire before could not be satisfied. -/
def scanWaiters : Word → Bool → List Waiter → Word × List Waiter × List Waiter
  | x, _, [] => (x, [], [])
  | x, shut, w :: rest =>
    let free := decide (w.target.toNat ≤ x.toNat)
    if w.kind.consumes then
      if free && !shut then
        let r := scanWaiters (x - w.target) shut rest
        (r.1, w :: r.2.1, r.2.2)
      else
        let r := scanWaiters x true rest
        (r.1, r.2.1, w :: r.2.2)
    else
      let r := scanWaiters x shut rest
      if free then (r.1, w :: r.2.1, r.2.2) else (r.1, r.2.1, w :: r.2.2)

/-- Where an agent stands among those woken in one cycle: queues complete in the order of their numbers (10 R269). -/
def Agent.place : Agent → Nat
  | .core _ => 0
  | .queue q => q.val + 1

/-- A waiter put before the first that stands later. -/
def placeWaiter (w : Waiter) : List Waiter → List Waiter
  | [] => [w]
  | x :: rest => if w.who.place < x.who.place then w :: x :: rest else x :: placeWaiter w rest

/-- The scan after an update (09 R250); the commands that it lets complete tie, so the lower queue goes first (10 R269). -/
def scanSem (n : SemId) (s : State) : State :=
  let x := s.sem n
  let r := scanWaiters x.value false x.waiters
  let woken := r.2.1.foldl (fun ws w => placeWaiter w ws) []
  woken.foldl (fun s w => wake w.who w.kind s) (s.setSem n { x with value := r.1, waiters := r.2.2 })

/-! ## The update of a cycle (09 R247 to R251) -/

/-- The top value of a semaphore (09 R248). -/
abbrev semTop : Nat := 0xFFFFFFFFFFFFFFFF

/-- What an arrived add adds. -/
def SemArrival.addend : SemArrival → Nat
  | .add _ _ _ v => v.toNat
  | _ => 0

/-- An arrived add. -/
def SemArrival.isAdd : SemArrival → Bool
  | .add _ _ _ _ => true
  | _ => false

/-- The context and name of an add. -/
def SemArrival.source : SemArrival → Option CtxId
  | .add _ k _ _ => some k
  | _ => none

/-- Its place in the order of R246. -/
def SemArrival.rank : SemArrival → Nat
  | .add r _ _ _ => r
  | .set r _ _ _ _ => r
  | .wait r _ _ _ _ _ => r

/-- An add that stopped at the top: ovf of the context and a record (09 R248). -/
def semOverflow (n : SemId) (k : CtxId) (s : State) : State :=
  let s := s.setCtx k.val { s.ctx k.val with semAllot := (s.ctx k.val).semAllot ||| flagAt 32 true }
  let place := match n with | .cluster c _ => c.val | .die _ => 16
  logError { atPlace 0x0E place { cause := 0x17, sev := sevEvent, info0 := (semNameWord n) } with names := some k } s

/-- Every add that has arrived, as one sum (09 R247, R248). -/
def applyAdds (n : SemId) (s : State) : State :=
  let x := s.sem n
  let adds := x.arrivals.filter SemArrival.isAdd
  let sum := x.value.toNat + (adds.map SemArrival.addend).sum
  let s := s.setSem n { x with value := BitVec.ofNat 64 (satTo semTop sum), arrivals := x.arrivals.filter fun a => !a.isAdd }
  if sum > semTop then
    match adds.head?.bind SemArrival.source with
    | some k => semOverflow n k s
    | none => s
  else s

/-- A SET: refused while a waiter is registered (09 R251, 06 R170). -/
def applySet (n : SemId) (c : CoreId) (value : Word) (pc : Addr) (insn : Word) (s : State) : State :=
  let x := s.sem n
  if x.waiters.isEmpty then s.setSem n { x with value := value }
  else takeFault c { cause := causeIllegalState, detail := 0x03, unit := unitSemPort, prec := 1 } pc insn s

/-- A wait that arrives completes, or registers (09 R249, 10 R277). -/
def applyWait (n : SemId) (who : Agent) (k : WaitKind) (target : Word) (s : State) : State :=
  let x := s.sem n
  let free := decide (target.toNat ≤ x.value.toNat) && !(k.consumes && x.waiters.any fun w => w.kind.consumes)
  if free then
    wake who k (s.setSem n { x with value := if k.consumes then x.value - target else x.value })
  else
    let s := s.setSem n { x with waiters := x.waiters ++ [⟨who, k, target, s.plumb.now⟩] }
    match who with
    | .queue q => s.setSq q.val { s.sq q.val with
        state := if (s.sq q.val).state == .active then .waiting else (s.sq q.val).state }
    | .core _ => s

/-- One operation other than an add. -/
def applyOther (n : SemId) (a : SemArrival) (s : State) : State :=
  match a with
  | .add _ _ _ _ => s
  | .set _ c value pc insn => applySet n c value pc insn s
  | .wait _ who k _ target _ => applyWait n who k target s

/-- The arrival first in port order, ties to the earlier (09 R246). -/
def firstArrival : List SemArrival → Option SemArrival
  | [] => none
  | a :: rest =>
    match firstArrival rest with
    | some b => if b.rank < a.rank then some b else some a
    | none => some a

/-- A waiter whose core has stopped issuing: its wait is abandoned (06 R168). -/
def abandonedWait (s : State) : Agent → Bool
  | .core c => (s.core c.val).stopsWork
  | .queue _ => false

/-- The waits that are abandoned at a semaphore leave it (06 R168). -/
def dropAbandoned (n : SemId) (s : State) : State :=
  let x := s.sem n
  s.setSem n { x with
    waiters := x.waiters.filter fun w => !abandonedWait s w.who
    arrivals := x.arrivals.filter fun a => match a with
      | .wait _ who _ _ _ _ => !abandonedWait s who
      | _ => true }

/-- One cycle of a semaphore: all adds, at most one other operation, then the scan (09 R247). -/
def updateSem (n : SemId) (s : State) : State :=
  let s := applyAdds n (dropAbandoned n s)
  let s := match firstArrival (s.sem n).arrivals with
    | some a => applyOther n a (s.setSem n { s.sem n with arrivals := (s.sem n).arrivals.erase a })
    | none => s
  scanSem n s

/-! ## Fences and releases (06 R164, 09 R237) -/

/-- A tile lies at a place. -/
def TileDesc.placed (d : TileDesc) (p : Place → Bool) : Bool := !d.isEmpty && p (placeOf d.base.toNat)

/-- A data-mover operation touches memory at a place. -/
def MoverOp.touches (o : MoverOp) (p : Place → Bool) : Bool :=
  o.src.placed p || o.dst.placed p || (match o.kind with | .hash a => p (placeOf a.toNat) | _ => false)

/-- A remote operation still reads its source: its packets leave at the GRANT (12 R343). -/
def RemoteOp.reads (o : RemoteOp) (p : Place → Bool) : Bool :=
  (match o.phase with | .granted _ => false | _ => true) && o.src.placed p

/-- The memories that a fence kind covers (06 R164). -/
def fencePlaces (c : CoreId) (k : FenceKind) (p : Place) : Bool :=
  match k, p with
  | .core, .localStore i => i == c.val
  | .cluster, .localStore i => i / 16 == c.val / 16
  | .cluster, .clusterStore n => n == c.val / 16
  | .die, _ => true
  | .sys, _ => true
  | _, _ => false

/-- Remote operations of a core that precede place `before`. -/
def remoteBefore (s : State) (c : CoreId) (before : Nat) : List RemoteOp :=
  s.fab.ops.filter fun o => o.core == c && decide (o.seq < before)

/-- The conditions of a fence for the operations that precede `before` (06 R164; DEDUCED, log entry 22). -/
def fenceMet (s : State) (c : CoreId) (k : FenceKind) (before : Nat) : Bool :=
  let p := fencePlaces c k
  (s.core c.val).mover.all (fun o => !(decide (o.id < before) && (k == .die || k == .sys || o.touches p)))
    && (remoteBefore s c before).all fun o => !(k == .sys || o.reads p)

/-- A semaphore operation of the core has been sent and is not applied: it has not completed (06 R164). -/
def semUnapplied (s : State) (c : CoreId) : Bool :=
  s.sems.rows.any fun r => r.2.arrivals.any fun a =>
    if r.1 < 65536 then r.1 / 4096 == c.val / 16 && a.rank == c.val % 16 else a.rank == c.val

/-- A fence of a core is met: no semaphore operation waits in its port or on its way either. -/
def fenceDone (s : State) (c : CoreId) (k : FenceKind) : Bool :=
  (s.core c.val).port.isEmpty && !semUnapplied s c && fenceMet s c k (s.core c.val).moverNext

/-- What a release waits for: FENCE.DIE, or FENCE.SYS for a remote one; a plain add waits for nothing (09 R237). -/
def releaseMet (s : State) (c : CoreId) : PortOp → Bool
  | .addRel _ _ before => !semUnapplied s c && fenceMet s c .die before
  | .addRemote m true =>
    match s.fab.ops.find? fun o => o.msgId == m with
    | some o => !semUnapplied s c && fenceMet s c .sys o.seq
    | none => true
  | _ => true

/-- The port sends one operation. -/
def sendPort (c : CoreId) (o : PortOp) (s : State) : State :=
  let k := (s.core c.val).context
  match o with
  | .add n v => arrive n (.add (coreRank n c false) k (BitVec.ofNat 64 (semNameWord n)) v) s
  | .addRel n v _ => arrive n (.add (coreRank n c false) k (BitVec.ofNat 64 (semNameWord n)) v) s
  | .set n v pc insn => arrive n (.set (coreRank n c false) c v pc insn) s
  | .wait w n name target pc => arrive n (.wait (coreRank n c false) (.core c) w name target pc) s
  | .addRemote m _ =>
    let s := changeOp m (fun o => { o with inPort := false }) s
    match s.fab.ops.find? fun o => o.msgId == m with
    | some o => trySend o s
    | none => s

/-- The port sends its operations in program order, up to a release that is still held (09 R238). -/
def drainPort (c : CoreId) : Nat → State → State
  | 0, s => s
  | n + 1, s =>
    match (s.core c.val).port with
    | [] => s
    | o :: rest =>
      if releaseMet s c o then drainPort c n (sendPort c o (s.setCore c.val { s.core c.val with port := rest })) else s

/-- The port of a core moves as far as it can. -/
def movePort (c : CoreId) (s : State) : State := drainPort c (s.core c.val).port.length s

/-- A semaphore operation enters the port of its core. -/
def enterPort (c : CoreId) (o : PortOp) (s : State) : State :=
  movePort c (s.setCore c.val { s.core c.val with port := (s.core c.val).port ++ [o] })

/-- RELEASE_SATISFIED: a held release whose conditions are met is sent, and what it held behind it (09 R237,
R238). -/
def execReleaseSatisfied (c : CoreId) (s : State) : Answer := .next (movePort c s)

/-! ## Y class (06 Synchronisation, 07 R190) -/

/-- Entries of the semaphore port's queue (06 R145). -/
abbrev portDepth : Nat := 16

/-- Issue of a Y-class instruction: it waits while the port is full. -/
def issueSem (i : Instr) (c : CoreId) (s : State) (body : CoreSt → State → Effect) : Answer :=
  if (s.core c.val).port.length ≥ portDepth then .next s else issue i c s body

/-- An add of the core: the name is checked, all ones is refused, zero does nothing. -/
def addOp (i : Instr) (c : CoreId) (gs gv : GReg) (op : CoreSt → SemId → Word → PortOp) (s : State) : Answer :=
  issueSem i c s fun v s =>
    match coreSem s c (v.gread gs) with
    | .error d => .trap { cause := causeAddress, detail := d } s
    | .ok n =>
      let x := v.gread gv
      if x = BitVec.allOnes 64 then .trap { cause := causeIllegalOperand, detail := 0x03 } s
      else if x = 0 then .done s
      else .done (enterPort c (op v n x) s)

/-- SEM.ADD. -/
def execSemAdd (c : CoreId) (gs gv : GReg) (s : State) : Answer :=
  addOp (.semAdd c gs gv) c gs gv (fun _ n x => .add n x) s
/-- SEM.ADD.REL. -/
def execSemAddRel (c : CoreId) (gs gv : GReg) (s : State) : Answer :=
  addOp (.semAddRel c gs gv) c gs gv (fun v n x => .addRel n x v.moverNext) s

/-- A remote add: gv, then gchip, then the checks of R342 (06 R159, 12 R342); zero sends nothing. -/
def remoteAdd (i : Instr) (c : CoreId) (gs gv gchip : GReg) (release : Bool) (s : State) : Answer :=
  issueSem i c s fun v s =>
    let x := v.gread gv
    if x = BitVec.allOnes 64 then .trap { cause := causeIllegalOperand, detail := 0x03 } s
    else match chipOperand s (v.gread gchip) with
      | .error t => .trap t s
      | .ok chip =>
        if x = 0 then .done s
        else match remoteChecks s v.context chip unitSemPort with
          | .error t => .trap t s
          | .ok j =>
            let held := release || !v.port.isEmpty
            let s := submitOp (semAddOp s c v.pc (fzWord i) chip j (v.gread gs) x held) s
            let s := s.setCore c.val { s.core c.val with moverNext := v.moverNext + 1 }
            if held then .done (enterPort c (.addRemote (s.fab.nextMsg - 1) release) s) else .done s

/-- SEM.ADD.R. -/
def execSemAddR (c : CoreId) (gs gv gchip : GReg) (s : State) : Answer :=
  remoteAdd (.semAddR c gs gv gchip) c gs gv gchip false s
/-- SEM.ADD.R.REL. -/
def execSemAddRRel (c : CoreId) (gs gv gchip : GReg) (s : State) : Answer :=
  remoteAdd (.semAddRRel c gs gv gchip) c gs gv gchip true s

/-- A wait: the name is checked, all ones is refused, zero completes at once; any other holds issue until the
semaphore satisfies it (06 R163). -/
def waitOp (i : Instr) (c : CoreId) (gs gn : GReg) (k : WaitKind) (s : State) : Answer :=
  issueSem i c s fun v s =>
    let name := v.gread gs
    match coreSem s c name with
    | .error d => .trap { cause := causeAddress, detail := d } s
    | .ok n =>
      let x := v.gread gn
      if x = BitVec.allOnes 64 then .trap { cause := causeIllegalOperand, detail := 0x03 } s
      else if x = 0 then .done (s.setCore c.val ((s.core c.val).resumed k))
      else
        let s := s.setCore c.val { s.core c.val with hold := .sem k n name x v.pc }
        .done (enterPort c (.wait k n name x v.pc) s)

/-- SEM.WAIT. -/
def execSemWait (c : CoreId) (gs gn : GReg) (s : State) : Answer := waitOp (.semWait c gs gn) c gs gn .wait s
/-- SEM.WAIT.ACQ. -/
def execSemWaitAcq (c : CoreId) (gs gn : GReg) (s : State) : Answer := waitOp (.semWaitAcq c gs gn) c gs gn .waitAcq s
/-- SEM.ACQ. -/
def execSemAcq (c : CoreId) (gs gn : GReg) (s : State) : Answer := waitOp (.semAcq c gs gn) c gs gn .acq s

/-- SEM.SET. -/
def execSemSet (c : CoreId) (gs gv : GReg) (s : State) : Answer :=
  issueSem (.semSet c gs gv) c s fun v s =>
    match coreSem s c (v.gread gs) with
    | .error d => .trap { cause := causeAddress, detail := d } s
    | .ok n => .done (enterPort c (.set n (v.gread gv) v.pc (fzWord (.semSet c gs gv))) s)

/-- A fence drops the read-combining buffer and holds issue until its conditions are met (06 R164, 09 R236). -/
def fenceOp (i : Instr) (c : CoreId) (k : FenceKind) (s : State) : Answer :=
  issue i c s fun _ s =>
    let v := { s.core c.val with readBuf := [] }
    .done (s.setCore c.val (if fenceDone s c k then v else { v with hold := .fence k }))

/-- FENCE.CORE. -/
def execFenceCore (c : CoreId) (s : State) : Answer := fenceOp (.fenceCore c) c .core s
/-- FENCE.CLUSTER. -/
def execFenceCluster (c : CoreId) (s : State) : Answer := fenceOp (.fenceCluster c) c .cluster s
/-- FENCE.DIE. -/
def execFenceDie (c : CoreId) (s : State) : Answer := fenceOp (.fenceDie c) c .die s
/-- FENCE.SYS. -/
def execFenceSys (c : CoreId) (s : State) : Answer := fenceOp (.fenceSys c) c .sys s

/-- The core ends its part of the launch and is idle (06 Control, 10 R280). -/
def endCore (c : CoreId) (s : State) : State := settleLaunch c (s.setCore c.val (s.core c.val).endPart)

/-- END: waits as FENCE.SYS does, then ends the core's part. -/
def execEndProg (c : CoreId) (s : State) : Answer :=
  issue (.endProg c) c s fun _ s =>
    if fenceDone s c .sys then .done (endCore c s)
    else .done (s.setCore c.val { s.core c.val with hold := .endWait })

/-- FENCE_SATISFIED: a held fence, or END, whose conditions are met (06 R164). A core that has detected a fault, or that its
context stops, records that and does not end (06 R168, 10 R280, R281). -/
def execFenceSatisfied (c : CoreId) (s : State) : Answer :=
  match (s.core c.val).hold with
  | .fence k => .next (if fenceDone s c k then s.setCore c.val { s.core c.val with hold := .none } else s)
  | .endWait => .next (if fenceDone s c .sys && !(s.core c.val).stopsWork then endCore c s else s)
  | _ => .next s

/-! ## Leaving a semaphore (06 R168, 09 R244) -/

/-- A wait of an agent is abandoned: it neither stands registered nor on its way. -/
def dropWaits (who : Agent) (s : State) : State :=
  let keep (x : Sem) : Sem :=
    { x with
      waiters := x.waiters.filter fun w => w.who != who
      arrivals := x.arrivals.filter fun a => match a with
        | .wait _ w _ _ _ _ => w != who
        | _ => true }
  let s := { s with sems := s.sems.mapAll .reset keep }
  match who with
  | .core c =>
    s.setCore c.val { s.core c.val with port := (s.core c.val).port.filter fun o => match o with
      | .wait _ _ _ _ _ => false
      | _ => true }
  | .queue _ => s

/-- Semaphores set to 0 with no waiter (09 R244). -/
def zeroSems (p : Nat → Bool) (s : State) : State := { s with sems := s.sems.drop p }

/-- The cluster semaphores of a cluster. -/
def clusterSems (k : Nat) (key : Nat) : Bool := decide (4096 * k ≤ key) && decide (key < 4096 * (k + 1)) && decide (k < 16)

/-- The die semaphores of a context's allotment. -/
def allottedSems (c : Ctx) (key : Nat) : Bool := decide (65536 ≤ key) && c.hasDieSem (key - 65536)

end Sys2Proof.Machine
end

