-- ==== Sys2Proof/Machine/Checks.lean ====
section
/-! DEFINITION. The checks of a command: fields, buffer descriptors, translation, graph images (10 R264, R265, R272 to
R275, R282, R285 to R288). -/

namespace Sys2Proof.Machine

/-- A failed check: the status, the info, and the walk that failed (10 R273). -/
structure Failure where
  status : Nat
  info : Nat := 0
  walkFault : Option (Nat × WalkFault × Need) := none
  deriving DecidableEq, Repr

/-- What a check answers. -/
abbrev Check (α : Type) : Type := Except Failure α

/-- A failure of check 1 or 3 at a field. -/
def invalidAt {α : Type} (off : Nat) : Check α := .error { status := stInvalid, info := off }

/-- A failure of check 2. -/
def stateError {α : Type} (reason : Nat) : Check α := .error { status := stState, info := reason }

/-- STATE_ERROR reasons (R274). -/
abbrev rsPinned : Nat := 1
/-- Reason. -/
abbrev rsMissing : Nat := 2
/-- Reason. -/
abbrev rsInUse : Nat := 3
/-- Reason. -/
abbrev rsPlumb : Nat := 4
/-- Reason. -/
abbrev rsMode : Nat := 5

/-! ## Fields (R272, R273) -/

/-- The lowest offset of the fields that fail. -/
def firstBad (fs : List (Nat × Bool)) : Option Nat :=
  (fs.filter fun f => f.2).foldl (fun best f => some (match best with | some b => min b f.1 | none => f.1)) none

/-- Bytes `lo` to `lo + n - 1` that must be zero: each fails at its own offset (DEDUCED, log entry 18). -/
def mustBeZero (bs : Bytes) (lo n : Nat) : List (Nat × Bool) :=
  (List.range' lo n).map fun i => (i, byteAt bs i != 0)

/-- The fields of the header that can fail (R272). -/
def headerFields (bs : Bytes) : List (Nat × Bool) :=
  [(1, (byteAt bs 1).toNat / 2 != 0), (2, leAt bs 2 6 != 0)]

/-- Check 1 of R273 over the header and the body's fields. -/
def fieldCheck (bs : Bytes) (body : List (Nat × Bool)) : Check Unit :=
  match firstBad (headerFields bs ++ body) with
  | some o => invalidAt o
  | none => .ok ()

/-- The image field (R275). -/
def badImage (n : Nat) : Bool := decide (n > 0x3F)
/-- The chip_index field (R275). -/
def badChipIndex (n : Nat) : Bool := decide (n ≥ 32768)
/-- The generation field (R275). -/
def badGen (n : Nat) : Bool := n == 0xFFFFFFFF
/-- A 64-bit length, count or target of all ones (R11, R275). -/
def allOnes64 (n : Nat) : Bool := n == 0xFFFFFFFFFFFFFFFF

/-- The semaphore that a command names: of the partition or the allotment, by scope 0b00 or 0b01 (R275). -/
def frontSem (s : State) (k : CtxId) (name : Word) : Option SemId :=
  match parseSem none name with
  | some (.cluster c i) => if (s.ctx k.val).hasCluster c.val then some (.cluster c i) else none
  | some (.die i) => if (s.ctx k.val).hasDieSem i.val then some (.die i) else none
  | none => none

/-! ## Buffer descriptors (R264, R265) -/

/-- A buffer descriptor. -/
structure BufDesc where
  base : Nat
  size : Nat
  dram : Bool
  deriving DecidableEq, Repr

/-- Descriptors of a context's table. -/
def Ctx.bufCount (c : Ctx) : Nat := bitsAt c.gfeBdt 48 16
/-- Physical address of a descriptor. -/
def Ctx.bufAddr (c : Ctx) (i : Nat) : Nat := bitsAt c.gfeBdt 6 42 * 64 + 32 * i

/-- A descriptor breaks R265, or lacks the access or the kind that the command needs. -/
def badDesc (d : Bytes) (write dramOnly : Bool) : Bool :=
  let access := byteAt d 17
  allOnes64 (leAt d 8 8) || decide ((byteAt d 16).toNat > 1) || access.toNat / 4 != 0 || leAt d 18 14 != 0
    || !access.getLsbD (if write then 1 else 0) || (dramOnly && byteAt d 16 != 1)

/-- The descriptor at an index; `at_` is the field that names it (R265, R273). -/
def bufDesc (s : State) (k : CtxId) (index at_ : Nat) (write dramOnly : Bool) : Check BufDesc :=
  let c := s.ctx k.val
  if index ≥ c.bufCount then invalidAt at_
  else
    let d := s.bytes (c.bufAddr index) 32
    if s.poisonedIn (c.bufAddr index) 32 then .error { status := stPoisoned, info := at_ }
    else if badDesc d write dramOnly then invalidAt at_
    else .ok ⟨leAt d 0 8, leAt d 8 8, byteAt d 16 == 1⟩

/-- An extent within its descriptor; `at_` is the field that gives its offset (R273). -/
def extentCheck (b : BufDesc) (off len at_ : Nat) : Check Unit :=
  if off + len > b.size then invalidAt at_ else .ok ()

/-- Check 4 of R273 over `n` bytes from a context address. `guard` refuses text pages to a write (R288). -/
def pagesCheck (s : State) (k : CtxId) (a n : Nat) (need : Need) (guard : Bool) (t : Table Nat) : Check (Table Nat) :=
  match mapExtent s k a n need guard t with
  | .ok t => .ok t
  | .error (va, f) => .error { status := stTranslation, walkFault := some (va, f, need) }

/-- Read and execute, as R285 asks of text pages. -/
abbrev needText : Need := { r := true, x := true }
/-- Read. -/
abbrev needRead : Need := { r := true }
/-- Write. -/
abbrev needWrite : Need := { w := true }

/-- What a check reads ahead of check 4, where it can be reached: the pages and the bytes, or POISONED at the field
that locates them (R273). -/
def peek (s : State) (k : CtxId) (a n at_ : Nat) : Check (Option Bytes) :=
  match mapExtent s k a n needRead false .empty with
  | .error _ => .ok none
  | .ok t => if s.poisonedVia t a n then .error { status := stPoisoned, info := at_ } else .ok (some (s.bytesVia t a n))

/-- The address of an extent that a descriptor of a command gives, where it passes; for reading ahead only. -/
def ahead (s : State) (k : CtxId) (index off len : Nat) : Option Nat :=
  match bufDesc s k index 0 false true with
  | .ok b => if off + len ≤ b.size then some (b.base + off) else none
  | .error _ => none

/-! ## Images (R285, R286) -/

/-- A context's image. -/
def State.image (s : State) (k : CtxId) (i : Nat) : Image := (s.ctx k.val).images.get .none i

/-- A context's image replaced. -/
def State.setImage (s : State) (k : CtxId) (i : Nat) (x : Image) : State :=
  s.setCtx k.val { s.ctx k.val with images := (s.ctx k.val).images.set .none i x }

/-- The generation that a field names: 0 is the newest live one (R275). -/
def Image.pick (x : Image) (num : Nat) : Option Gen :=
  if num = 0 then x.gens.getLast? else x.gens.find? fun g => g.num == num

/-- The generation, or STATE_ERROR (R274). -/
def findGen (s : State) (k : CtxId) (image num : Nat) : Check Gen :=
  match (s.image k image).pick num with
  | some g => .ok g
  | none => stateError rsMissing

/-- start_at needs a valid plumb counter (R274). -/
def plumbCheck (s : State) (startAt : Nat) : Check Unit :=
  if startAt != 0 && !s.plumb.valid then stateError rsPlumb else .ok ()

/-- A length rounded up to 64. -/
def roundUp64 (n : Nat) : Nat := (n + 63) / 64 * 64

/-- Bytes of header, text and training-state list (R285). -/
def imageBytes (textLen count : Nat) : Nat := if count = 0 then 64 + textLen else 64 + roundUp64 textLen + 32 * count

/-- The context address of a generation's text (R285). -/
def Gen.textBase (g : Gen) : Nat := g.header + 64
/-- The context address of its training-state list. -/
def Gen.listBase (g : Gen) : Nat := g.textBase + roundUp64 g.textLen
/-- Its extent. -/
def Gen.extent (g : Gen) : Nat := imageBytes g.textLen g.tslCount

/-- The header of an image breaks R285. -/
def badHeader (h : Bytes) : Bool :=
  leAt h 0 4 != 0x49475A46 || leAt h 4 2 != 1 || leAt h 6 2 != 0 || leAt h 52 12 != 0 || leAt h 8 8 % 8 != 0
    || leAt h 8 8 == 0 || allOnes64 (leAt h 8 8) || leAt h 48 4 == 0xFFFFFFFF

/-- The digest of an image given as its bytes: text, then the training-state list (R285). -/
def imageDigest (bs : Bytes) (textLen count : Nat) : Bytes :=
  sha3_256 ((bs.drop 64).take textLen ++ (bs.drop (64 + roundUp64 textLen)).take (32 * count))

/-- The physical pages behind the text and the list of a generation at `a`, with r and x, and behind its header
(R285, R288). -/
def imagePages (s : State) (k : CtxId) (a textLen count : Nat) : Check (Table Nat) := do
  let t ← pagesCheck s k a 64 needRead false .empty
  let t ← pagesCheck s k (a + 64) textLen needText false t
  pagesCheck s k (a + 64 + roundUp64 textLen) (32 * count) needText false t

/-- The physical pages that R288 protects. -/
def protectedPages (t : Table Nat) (a textLen count : Nat) : List Nat :=
  ((extentPages (a + 64) textLen ++ extentPages (a + 64 + roundUp64 textLen) (32 * count)).map fun p => t.get 0 p).dedup

/-- A new generation at `a`. -/
def newGen (t : Table Nat) (num a textLen count : Nat) (digest : Bytes) : Gen :=
  ⟨num, a, textLen, count, digest, 0, protectedPages t a textLen count, t⟩

/-- Live generations an image may have (R286). -/
abbrev genLimit : Nat := 8
/-- The highest generation number (R286). -/
abbrev genTop : Nat := 0xFFFFFFFE

/-- The number of the next generation, or NO_RESOURCE (R286). -/
def nextGen (x : Image) (adds : Bool) : Check Nat :=
  if x.highest ≥ genTop || (adds && decide (x.gens.length ≥ genLimit)) then .error { status := stNoResource }
  else .ok (x.highest + 1)

/-! ## Running a command -/

/-- Field `lo`, `n` bytes long, of the command in progress. -/
def State.cmdBytes (s : State) (q : SqId) : Bytes := match (s.sq q.val).cmd with | some r => r.bytes | none => []

/-- A command whose check failed completes; ATU_FLT takes the address of a failed walk (R273, 08 R226). -/
def failCmd (q : SqId) (f : Failure) (s : State) : State :=
  let s := match f.walkFault with
    | some (va, w, need) => recordWalkFault (s.sq q.val).context va w need s
    | none => s
  complete q { status := f.status, info := f.info } s

/-- The words that the checks of a command read have met their latent errors: its descriptors. -/
def touchDescs (k : CtxId) (fields : List Nat) (bs : Bytes) (s : State) : State :=
  fields.foldl (fun s f =>
    let i := leAt bs f 2
    if i < (s.ctx k.val).bufCount then s.touch ((s.ctx k.val).bufAddr i) 32 else s) s

/-- What a command reads in memory through a descriptor has met its latent errors. -/
def touchAhead (k : CtxId) (index off len : Nat) (s : State) : State :=
  match ahead s k index off len with
  | some a => match mapExtent s k a len needRead false .empty with
    | .ok t => s.touchVia t a len
    | .error _ => s
  | none => s

/-- One command of a queue: fetched, started and run by `body` if its opcode is one of `mine` (R271, R272). -/
def runCmd (q : SqId) (hostBytes : Bytes) (mine : Nat → Bool) (body : CtxId → Bytes → State → State) (s : State) : Answer :=
  if !canStart s q then .next s
  else match fetchEntry s q hostBytes with
    | some bs =>
      if mine (byteAt bs 0).toNat then .next (body (s.sq q.val).context bs (startCmd q bs (fetchRead q s))) else .next s
    | none => .next s

/-- A command that its checks answer whole. -/
def settleCmd (q : SqId) (s : State) : Check State → State
  | .ok s' => s'
  | .error f => failCmd q f s

end Sys2Proof.Machine
end

