-- ==== Sys2Proof/Machine/FlashSlots.lean ====
section
/-! DEFINITION. Flash slots: transfers of whole units between context DRAM and module flash (16 R460, R461). -/

namespace Sys2Proof.Machine

/-- Bytes of a flash unit. -/
abbrev unitBytes : Nat := 4096
/-- The first unit that a slot may touch. -/
abbrev firstUnit : Nat := 0x00400000
/-- The last unit of the flash. -/
abbrev lastUnit : Nat := 0x746A5287
/-- A semaphore name that names none. -/
abbrev noSem : Word := 0xFFFFFFFFFFFFFFFF

/-- A slot. -/
def State.flashSlot (s : State) (i : Nat) : FlashSlot := s.flashSlots.get .reset i
/-- The state with a slot replaced. -/
def State.setFlashSlot (s : State) (i : Nat) (x : FlashSlot) : State := { s with flashSlots := s.flashSlots.set .reset i x }

/-- Slot statuses (R460). -/
abbrev flashDone : BitVec 3 := 1
/-- Status. -/
abbrev flashRejected : BitVec 3 := 2
/-- Status. -/
abbrev flashAbandoned : BitVec 3 := 3
/-- Status. -/
abbrev flashPoisoned : BitVec 3 := 4

/-- FLS_CTL as it reads. -/
def FlashSlot.ctlWord (x : FlashSlot) : Word := x.ctl ||| flagAt 8 x.run.isSome ||| putAt 9 x.status.toNat

/-- The semaphore that a client outside the cores names, or none; an error where the name fails (09 R242, R243). -/
def outerSem (s : State) (k : CtxId) (name : Word) : Except Unit (Option SemId) :=
  if name = noSem then .ok none
  else match frontSem s k name with
    | some n => .ok (some n)
    | none => .error ()

/-- The add of a client outside the cores, with release (R460, R463). -/
def signalOuter (k : CtxId) (n : Option SemId) (s : State) : State :=
  match n with
  | some n => arrive n (.add (farRank n rankHost) k (BitVec.ofNat 64 (semNameWord n)) 1) s
  | none => s

/-- The flash extent of a transfer is inside the flash that slots may touch. -/
def flashExtent (unit units : Nat) : Bool := units == 0 || (decide (firstUnit ≤ unit) && decide (unit + units ≤ lastUnit + 1))

/-- The checks of a go that reject it (R460): what the transfer will be. -/
def flashChecks (s : State) (x : FlashSlot) (v : Word) : Except Unit FlashRun := do
  let k : CtxId := Fin.ofNat 64 (bitsAt v 2 6)
  let dir := bitAt v 1
  let units := bitsAt v 16 32
  let addr := bitsAt x.addr 12 33 * unitBytes
  let unit := bitsAt x.off 0 31
  if units = 0xFFFFFFFF then .error ()
  if !flashExtent unit units then .error ()
  let pages ← match mapExtent s k addr (units * unitBytes) { r := !dir, w := dir } true .empty with
    | .ok t => .ok t
    | .error _ => .error ()
  let n ← outerSem s k x.sem
  .ok ⟨dir, k, units, addr, unit, n, pages⟩

/-- What a write of FLS_CTL meets: none where it is refused as a non-owner write is. A rejected go changes the status
alone; without go, the reserved count alone is rejected (00 R11). -/
def writeFlashCtl (i : Nat) (secure : Bool) (v : Word) (s : State) : Option State :=
  let x := s.flashSlot i
  let fields := v &&& (maskAt 1 7 ||| maskAt 16 32)
  if !bitAt v 0 then if bitsAt v 16 32 = 0xFFFFFFFF then none else some (s.setFlashSlot i { x with ctl := fields })
  else
    let c := s.ctx (bitsAt v 2 6)
    if x.run.isSome || !c.en || (c.conf && !secure) then none
    else match flashChecks s x v with
      | .error _ => some (s.setFlashSlot i { x with status := flashRejected })
      | .ok r => some (s.setFlashSlot i { x with ctl := fields, run := some r })

/-- Bytes of a unit of the flash. -/
def flashUnit (s : State) (u : Nat) : Bytes := (List.range unitBytes).map fun i => s.flashMem.get 0 (unitBytes * u + i)

/-- One unit written to flash: a unit with a poisoned word reads uncorrectable afterwards (15 R424). -/
def toFlash (r : FlashRun) (s : State) (i : Nat) : State :=
  let a := r.addr + unitBytes * i
  let s := s.touchVia r.pages a unitBytes
  let u := r.unit + i
  { s with
    flashMem := (s.bytesVia r.pages a unitBytes).zipIdx.foldl
      (fun (t : Table Byte) (p : Byte × Nat) => t.set 0 (unitBytes * u + p.2) p.1) s.flashMem
    flashBad := s.flashBad.set false u (s.poisonedVia r.pages a unitBytes) }

/-- One unit read from flash, or delivered poisoned. -/
def fromFlash (r : FlashRun) (bad : Nat → Bool) (s : State) (i : Nat) : State :=
  let a := r.addr + unitBytes * i
  let u := r.unit + i
  if bad u then s.writeVia r.pages a (s.bytesVia r.pages a unitBytes) fun _ => true
  else s.writeVia r.pages a (flashUnit s u) fun _ => false

/-- The bytes that a flash read delivers. -/
def flashPayload (s : State) (r : FlashRun) : Bytes := (List.range r.units).flatMap fun i => flashUnit s (r.unit + i)

/-- FLASH_SLOT_COMPLETE: the units are moved, a read is in the journal, the semaphore is signalled (R460, R467). -/
def execFlashSlotComplete (slot : Fin 4) (unreadable : List Nat) (s : State) : Answer :=
  let x := s.flashSlot slot.val
  match x.run with
  | none => .next s
  | some r =>
    let bad (u : Nat) : Bool := unreadable.contains u || s.flashBad.get false u
    let hurt := r.dir && (List.range r.units).any fun i => bad (r.unit + i)
    let s := s.setFlashSlot slot.val { x with run := none, status := if hurt then flashPoisoned else flashDone }
    let moved := if r.dir then
        journalBytes r.ctx { kind := 0x09, src := slot.val, addr := r.addr, poisoned := hurt } (flashPayload s r)
          ((List.range r.units).foldl (fromFlash r bad) s)
      else (List.range r.units).foldl (toFlash r) s
    .next (signalOuter r.ctx r.sem moved)

/-! ## Abandoned transfers (R461) -/

/-- The words of an abandoned operation: each holds its old or its new value, by choice (R461, 14 R398). -/
def halfWritten (done : State) (s : State) (w : Nat) : State :=
  let p := s.choose
  if p.1 then
    { p.2 with mem := putBytes p.2.mem (8 * w) (done.bytes (8 * w) 8), poison := p.2.poison.set false w (done.wordPoisoned w) }
  else p.2

/-- A unit of the flash range of an abandoned write: old or new, by choice. -/
def halfFlash (done : State) (s : State) (u : Nat) : State :=
  let p := s.choose
  if p.1 then
    { p.2 with
      flashMem := (List.range unitBytes).foldl
        (fun (t : Table Byte) i => t.set 0 (unitBytes * u + i) (done.flashMem.get 0 (unitBytes * u + i))) p.2.flashMem
      flashBad := p.2.flashBad.set false u (done.flashBad.get false u) }
  else p.2

/-- A slot's transfer is abandoned: no semaphore is signalled. -/
def abandonFlash (s : State) (i : Nat) : State :=
  let x := s.flashSlot i
  match x.run with
  | none => s
  | some r =>
    let s := s.setFlashSlot i { x with run := none, status := flashAbandoned }
    if r.dir then
      let done := (List.range r.units).foldl (fromFlash r fun u => s.flashBad.get false u) s
      (wordsVia r.pages r.addr (r.units * unitBytes)).foldl (halfWritten done) s
    else
      let done := (List.range r.units).foldl (toFlash r) s
      (List.range' r.unit r.units).foldl (halfFlash done) s

/-- The transfers of a context, or all, are abandoned. -/
def abandonSlots (p : CtxId → Bool) (s : State) : State :=
  (List.range 4).foldl (fun s i => match (s.flashSlot i).run with
    | some r => if p r.ctx then abandonFlash s i else s
    | none => s) s

end Sys2Proof.Machine
end

