-- ==== Sys2Proof/Machine/Convert.lean ====
section
/-! DEFINITION. Stipple draws and block conversion, shared by the drain and the vector unit (02 R43 to R53,
05 R136, R139, R143). -/

namespace Sys2Proof.Machine

/-! ## Draws (05 R136, R143) -/

/-- One draw from a generator state: the output and the new state. -/
def stippleDraw (s : Word) : Word32 × Word :=
  let s := s ^^^ (s <<< 13)
  let s := s ^^^ (s >>> 7)
  let s := s ^^^ (s <<< 17)
  (((s * 0x9E3779B97F4A7C15) >>> 32).setWidth 32, s)

/-- The state of a lane's generator. -/
def CoreSt.stp (v : CoreSt) (lane : Nat) : Word := v.stipple.get 0 lane

/-- A draw on a lane. -/
def CoreSt.draw (v : CoreSt) (lane : Nat) : Word32 × CoreSt :=
  let d := stippleDraw (v.stp lane)
  (d.1, { v with stipple := v.stipple.set 0 lane d.2 })

/-- `n` draws on a lane, the first first. -/
def CoreSt.draws (v : CoreSt) (lane : Nat) : Nat → List Word32 × CoreSt
  | 0 => ([], v)
  | n + 1 =>
    let d := v.draw lane
    let r := CoreSt.draws d.2 lane n
    (d.1 :: r.1, r.2)

/-- The rounding that a draw decides: its upper 24 bits (02 R43). -/
def drawRounding (d : Word32) : Rounding := .stochastic (d.toNat / 256)

/-- A failed generator comparison in a lane that draws: mism, first_lane and a STIPPLE record, and the second copy
loaded into the first (05 R143; DESIGN CHOICE, log entry 8). The answer says whether the lane's result is poisoned. -/
def stippleUpset (c : CoreId) (pc : Addr) (lanes : List Nat) (s : State) : Option Nat × State :=
  let v := s.core c.val
  match v.stpUpset with
  | none => (none, s)
  | some l =>
    if lanes.contains l then
      let v := { v with stpUpset := none, poisonSeen := true
                        stpFirstLane := if v.stpMism then v.stpFirstLane else BitVec.ofNat 8 l, stpMism := true }
      (some l, logError (atCore s 0x03 c { cause := 0x0B, sev := sevPoisoned, pos := l, addr := pc.toNat })
        (s.setCore c.val v))
    else (none, s)

/-! ## Blocks (02 R48, R50 to R53) -/

/-- The exponent of the largest normal power of two of an element type (02 Block scale selection). -/
def emaxOf : Fmt → Int
  | .e4m3 => 8
  | .e5m2 => 15
  | .e3m2 => 4
  | .e2m3 => 2
  | .e2m1 => 2
  | _ => 0

/-- The largest finite magnitude M of an element type. -/
def maxOf : Fmt → FVal
  | .e4m3 => fe4m3.decode fe4m3.maxFin
  | .e5m2 => fe5m2.decode fe5m2.maxFin
  | .e3m2 => fe3m2.decode fe3m2.maxFin
  | .e2m3 => fe2m3.decode fe2m3.maxFin
  | .e2m1 => fe2m1.decode fe2m1.maxFin
  | _ => .fin false 127 (-6)

/-- The larger magnitude among finite values; +0 where there is none. -/
def maxFinite (vs : List FVal) : FVal :=
  vs.foldl (fun m v => if v.isFin && v.abs.compare m == 1 then v.abs else m) .zero

/-- The scale code of 32 pre-scaled values (R50). -/
def selectScale (f : Fmt) (src : List FVal) : Nat :=
  if src.any FVal.isNan then 0xFF
  else match maxFinite src with
    | .fin _ m x =>
      if m = 0 then 0x7F
      else
        let e := (m.log2 : Int) + x - emaxOf f
        let e := if (FVal.fin false m (x - e)).compare (maxOf f) == 1 then e + 1 else e
        (max (-127) (min 127 e) + 127).toNat
    | _ => 0x7F

/-- A converted block: the scale, the element codes and the count of each element. -/
structure Block where
  scale : Nat
  codes : List Nat
  counts : List Count
  deriving DecidableEq, Repr

/-- Conversion of 32 pre-scaled values, one rounding for each (R42 to R53). -/
def convertBlock (f : Fmt) (rs : List Rounding) (src : List FVal) : Block :=
  let sc := selectScale f src
  if sc = 0xFF then ⟨0xFF, src.map fun _ => 0, src.map fun _ => .nan⟩
  else
    let es := (src.zip rs).map fun p => convertBlockElement f p.2 (p.1.scale (127 - (sc : Int)))
    ⟨sc, es.map (·.code), es.map (·.count)⟩

/-- Element code `x` of a block with a scale, as a value (R39). -/
def blockValueOf (f : Fmt) (scale code : Nat) : FVal :=
  if scale = 0xFF then .nan else (fmtValue f code).scale ((scale : Int) - 127)

/-- A conversion into a format that is no block format (R46 to R49). -/
def convertPlain (f : Fmt) (r : Rounding) (sat : Bool) (v : FVal) : Conv :=
  match f with
  | .fp16 => ffp16.convert r sat v
  | .bf16 => ffbf16.convert r sat v
  | .int32 => convertInt32 r v
  | _ => ffp32.convert r false v

end Sys2Proof.Machine
end

