-- ==== Sys2Proof/Machine/Matrix.lean ====
section
/-! DEFINITION. M class: the matrix engines (chapters 03 and 04, 06 R153, R158). -/

namespace Sys2Proof.Machine

/-! ## Accumulator entries (03 R80, 04 R94) -/

/-- Rows of a tile. -/
abbrev normalRows : Nat := 128
/-- Rows of a wide tile. -/
abbrev wideRows : Nat := 64

/-- The key of word `w` of column `n`. -/
def accKey (n w : Nat) : Nat := 512 * n + w

/-- The tile's mode is wide. -/
def EngineSt.isWide (x : EngineSt) (ai : AReg) : Bool := x.wide.getLsbD ai.val
/-- The tile carries the poison mark (04 R107). -/
def EngineSt.isPoisoned (x : EngineSt) (ai : AReg) : Bool := x.tilePoison.getLsbD ai.val
/-- Rows that the tile holds in its mode (R94). -/
def EngineSt.capacity (x : EngineSt) (ai : AReg) : Nat := if x.isWide ai then wideRows else normalRows

/-- The word that holds entry row `m` of tile `ai` (R94). -/
def EngineSt.entryWord (x : EngineSt) (ai : AReg) (m : Nat) : Nat :=
  64 * ai.val + (if x.isWide ai then m else m / 2)

/-- The two FP32 halves of an entry: hi and lo in wide mode, the entry and +0 in normal mode. -/
def EngineSt.entry (x : EngineSt) (ai : AReg) (m n : Nat) : Word32 × Word32 :=
  let w := x.acc.get 0 (accKey n (x.entryWord ai m))
  if x.isWide ai then (w.extractLsb' 32 32, w.setWidth 32)
  else (if m % 2 = 0 then w.setWidth 32 else w.extractLsb' 32 32, 0)

/-- An entry written. -/
def EngineSt.setEntry (x : EngineSt) (ai : AReg) (m n : Nat) (e : Word32 × Word32) : EngineSt :=
  let k := accKey n (x.entryWord ai m)
  let old := x.acc.get 0 k
  let w : Word := if x.isWide ai then (e.1 ++ e.2 : BitVec (32 + 32))
    else if m % 2 = 0 then (old.extractLsb' 32 32 ++ e.1 : BitVec (32 + 32)) else (e.1 ++ old.setWidth 32 : BitVec (32 + 32))
  { x with acc := x.acc.set 0 k w }

/-- The words of a tile, in every column. -/
def tileKeys (ai : AReg) : List Nat :=
  (List.range 64).flatMap fun n => (List.range 64).map fun w => accKey n (64 * ai.val + w)

/-- A bit of an 8-bit mask set to `b`. -/
def maskBit (m : BitVec 8) (ai : AReg) (b : Bool) : BitVec 8 :=
  if b then m ||| ((1 : BitVec 8) <<< ai.val) else m &&& ~~~((1 : BitVec 8) <<< ai.val)

/-- MZERO and MZERO.W: entries to +0, the mode set, every poison mark of the tile cleared (R80, 04 R107). -/
def EngineSt.mzero (x : EngineSt) (ai : AReg) (wide : Bool) : EngineSt :=
  { x with
    acc := x.acc.drop fun k => decide (k % 512 / 64 = ai.val)
    accPoison := x.accPoison.drop fun k => decide (k % 512 / 64 = ai.val)
    accParityBad := x.accParityBad.drop fun k => decide (k % 512 / 64 = ai.val)
    wide := maskBit x.wide ai wide
    tilePoison := maskBit x.tilePoison ai false }

/-- MZERO. -/
def execMzero (c : CoreId) (e : EngId) (ai : AReg) (s : State) : Answer :=
  issueCore (.mzero c e ai) c s fun v => v.setEngine e ((v.engine e).mzero ai false)

/-- MZERO.W. -/
def execMzeroW (c : CoreId) (e : EngId) (ai : AReg) (s : State) : Answer :=
  issueCore (.mzeroW c e ai) c s fun v => v.setEngine e ((v.engine e).mzero ai true)

/-! ## Weights (04 R97 to R101) -/

/-- Elements per logical row (03 R65). -/
def elemsPerRow : Fmt → Nat
  | .fp16 | .bf16 => 1
  | .e2m1 => 4
  | _ => 2

/-- The pass length (03 R65). -/
def passLength (f : Fmt) : Nat := 64 * elemsPerRow f

/-- A contraction extent that R66 accepts; zero is a no-op and passes. -/
def extentOk (f : Fmt) (k : Nat) : Bool := decide (k ≤ passLength f) && (f.is16 || k % 32 == 0)

/-- The bits of an element's slot in a cell (16 R453). -/
def slotBits (f : Fmt) : Nat := 16 / elemsPerRow f

/-- The code of weight element (k, n) of a bank. -/
def Bank.weight (b : Bank) (f : Fmt) (k n : Nat) : Nat :=
  field (b.cells.get 0 (64 * (k / elemsPerRow f) + n)).toNat (k % elemsPerRow f * slotBits f) (elemBits f)

/-- The scale of block `j` of column `n`. -/
def Bank.scale (b : Bank) (n j : Nat) : Nat := (b.scales.get 0 (8 * n + j)).toNat

/-- The frame exponent q of an element type (03 Block formats). -/
def frameExp : Fmt → Int
  | .e4m3 => -9
  | .e5m2 => -16
  | .e3m2 => -4
  | .e2m3 => -3
  | .e2m1 => -1
  | _ => -6

/-- The integer I of a finite element value (R72). -/
def frameInt (f : Fmt) : FVal → Int
  | .fin n m e => (if n then -1 else 1) * (m * 2 ^ (e - frameExp f).toNat : Nat)
  | _ => 0

/-- What a weight contributes to a checksum: the integer I of a block element (04 R103), or the residue modulo
2^31 − 1 of a 16-bit value (R104). The manual gives no term for a NaN or an infinity: a free value. -/
def checkTerm (f : Fmt) (code : Nat) : Int :=
  match fmtValue f code with
  | .fin n m e =>
    if f.is16 then ((if n then -1 else 1) * (m * 2 ^ (e % 31).toNat : Nat)) % (2 ^ 31 - 1)
    else frameInt f (.fin n m e)
  | _ => Config.specialCheck code

/-- The checksums of a bank, formed from its weights by the prime path (04 R97, R103, R104). -/
def Bank.withChecks (b : Bank) : Bank :=
  match b.shape with
  | none => { b with c0 := .empty, c1 := .empty }
  | some sh =>
    let ks := List.range sh.contraction
    let key (k : Nat) : Nat := 4 * (k / elemsPerRow sh.fmt) + k % elemsPerRow sh.fmt
    let sumBy (weight : Nat → Int) (k : Nat) : Int :=
      let t := ((List.range sh.columns).map fun n => weight n * checkTerm sh.fmt (b.weight sh.fmt k n)).sum
      if sh.fmt.is16 then t % (2 ^ 31 - 1) else t
    { b with
      c0 := ks.foldl (fun t k => t.set 0 (key k) (sumBy (fun _ => 1) k)) .empty
      c1 := ks.foldl (fun t k => t.set 0 (key k) (sumBy (fun n => (n : Int) + 1) k)) .empty }

/-- The bank that a weight tile primes: column n of the tile is descriptor row n (06 R153), cells outside the
extents zero, the shape record written, the poison mark replaced (04 R97, 15 R426). -/
def primedBank (s : State) (d : TileDesc) (bad : Bool) : Bank :=
  let cols := (List.range d.rows).map fun n => (n, s.tileRow d n, s.tileScales d n)
  let cell (row : Bytes) (r : Nat) : Nat :=
    ((List.range (elemsPerRow d.fmt)).map fun sl =>
      (if r * elemsPerRow d.fmt + sl < d.cols then elemCode d.fmt row (r * elemsPerRow d.fmt + sl) else 0)
        * 2 ^ (sl * slotBits d.fmt)).sum
  let cells := cols.foldl (fun t p => (List.range ((d.cols + elemsPerRow d.fmt - 1) / elemsPerRow d.fmt)).foldl
    (fun t r => t.set 0 (64 * r + p.1) (BitVec.ofNat 16 (cell p.2.1 r))) t) Table.empty
  let scales := cols.foldl (fun t p => p.2.2.zipIdx.foldl (fun t q => t.set 0 (8 * p.1 + q.2) q.1) t) Table.empty
  Bank.withChecks ⟨cells, scales, .empty, .empty, some ⟨d.fmt, d.cols, d.rows⟩, bad, .empty⟩

/-- The checks of MPRIME (06 Matrix): store, format, extents. -/
def mprimeChecks (c : CoreId) (v : CoreSt) (tW : TReg) : Except Trap TileDesc := do
  let d ← tileOperand v tW
  tileInOwnStore c d
  if !d.fmt.mmaTakes then .error { cause := causeIllegalOperand, detail := 0x01 }
  else if d.rows > 64 || !extentOk d.fmt d.cols then .error { cause := causeIllegalOperand, detail := 0x02 }
  else .ok d

/-- MPRIME. -/
def execMprime (c : CoreId) (e : EngId) (tW : TReg) (s : State) : Answer :=
  issue (.mprime c e tW) c s fun v s =>
    match mprimeChecks c v tW with
    | .error t => .trap t s
    | .ok d =>
      if d.isEmpty then .done s
      else
        let s := s.touchTile d
        let bad := s.tilePoisoned d
        let v := s.core c.val
        .done (s.setCore c.val ((v.setEngine e { v.engine e with shadow := primedBank s d bad }).sawPoison bad))

/-- MSWAP exchanges the banks (04 R99). -/
def execMswap (c : CoreId) (e : EngId) (s : State) : Answer :=
  issueCore (.mswap c e) c s fun v =>
    let x := v.engine e
    v.setEngine e { x with active := x.shadow, shadow := x.active }

/-! ## The dot product (03 R70 to R79) -/

/-- The value of a block that holds a NaN or an infinity (R73). -/
def specialBlock (ps : List FVal) : FVal :=
  if ps.any FVal.isNan then .nan
  else match ps.any (· == .inf false), ps.any (· == .inf true) with
    | true, true => .nan
    | true, false => .inf false
    | false, true => .inf true
    | false, false => .zero

/-- The block value V (R72). -/
def blockValue (f : Fmt) (as : List FVal) (sa : Nat) (ws : List FVal) (sw : Nat) : FVal :=
  if sa = 0xFF ∨ sw = 0xFF then .nan
  else if (as ++ ws).all FVal.isFin then
    let sum := ((as.zip ws).map fun p => frameInt f p.1 * frameInt f p.2).sum
    if sum = 0 then .zero else .ofInt sum (2 * frameExp f + sa + sw - 254)
  else if (as ++ ws).any FVal.isNan then .nan
  else specialBlock ((as.zip ws).map fun p => p.1.mul p.2)

/-- The exponent of the leading bit of a finite non-zero value. -/
def leadExp : FVal → Option Int
  | .fin _ m e => if m = 0 then none else some ((m.log2 : Int) + e)
  | _ => none

/-- sign(p) × floor(|p| ÷ 2^e). -/
def truncTo (e : Int) : FVal → Int
  | .fin n m x => (if n then -1 else 1) * (roundShift .towardZero m (e - x) : Nat)
  | _ => 0

/-- The group value of the products of a group and its flush event (R77, R86). -/
def groupValue (ps : List FVal) : FVal × Bool :=
  if !ps.all FVal.isFin then (specialBlock ps, false)
  else match (ps.filterMap leadExp).max? with
    | none => (.zero, false)
    | some emax =>
      let w := (ps.map (truncTo (emax - 40))).sum
      let g := rn32 (.ofInt w (emax - 40))
      let exact := ps.foldl FVal.add .zero
      (g.1, g.1.isZero && !exact.isZero)

/-- The column partials after each unit, with whether a flush event has occurred (R74, R78, R86). -/
def partials (round : FVal → FVal × Bool) : FVal → Bool → List (FVal × Bool) → List (FVal × Bool)
  | _, _, [] => []
  | cp, fl, u :: us =>
    let r := round (cp.add u.1)
    let p := (r.1, fl || u.2 || r.2)
    p :: partials round p.1 p.2 us

/-- A list cut into runs of `n`. -/
def chunks {α : Type} (n : Nat) : Nat → List α → List (List α)
  | 0, _ => []
  | k + 1, l => if l.isEmpty then [] else l.take n :: chunks n k (l.drop n)

/-- Rows per group, or elements per block (R65). -/
def unitLength (f : Fmt) (g : Grp) : Nat := if f.is16 then g.size else 32

/-- The unit values of one activation row against one column, inside the extent, top to bottom (R65, R67). -/
def unitValues (f : Fmt) (g : Grp) (b : Bank) (row scales : Bytes) (k n : Nat) : List (FVal × Bool) :=
  let ks := List.range k
  let as := ks.map fun i => fmtValue f (elemCode f row i)
  let ws := ks.map fun i => fmtValue f (b.weight f i n)
  let cut (l : List FVal) : List (List FVal) := chunks (unitLength f g) l.length l
  ((cut as).zip (cut ws)).zipIdx.map fun p =>
    if f.is16 then groupValue ((p.1.1.zip p.1.2).map fun q => q.1.mul q.2)
    else (blockValue f p.1.1 (byteAt scales p.2).toNat p.1.2 (b.scale n p.2), false)

/-- The rounding of the chain: FP32 in the 16-bit class and in precise mode, CP24 otherwise (R74, R76, R78). -/
def chainRound (f : Fmt) (prc : Bool) : FVal → FVal × Bool := if f.is16 || prc then rn32 else rn24

/-- The partials of a column, after each unit. -/
def columnPartials (f : Fmt) (g : Grp) (prc : Bool) (b : Bank) (row scales : Bytes) (k n : Nat) : List (FVal × Bool) :=
  partials (chainRound f prc) .zero false (unitValues f g b row scales k n)

/-- A zero written as +0 (R82). -/
def posZero (v : FVal) : FVal := if v.isZero then .zero else v

/-- wide_add (R82). -/
def wideAdd (hi lo c : FVal) : FVal × FVal :=
  if hi.isNan || lo.isNan || c.isNan || lo.isInf || (hi.isInf && c.isInf && hi != c) then (.nan, .zero)
  else if hi.isInf then (hi, .zero)
  else if c.isInf then (c, .zero)
  else
    let s := (rn32 (hi.add c)).1
    if s.isInf then (s, .zero)
    else
      let t := posZero ((hi.add c).sub s)
      let u := (rn32 (lo.add t)).1
      let h := (rn32 (s.add u)).1
      if h.isInf then (h, .zero) else (h, posZero ((s.add u).sub h))

/-- Promotion of a column partial into an entry: the new halves and whether it was a flush event (R81, R82,
R86). -/
def promote (wide : Bool) (e : Word32 × Word32) (c : FVal) : (Word32 × Word32) × Bool :=
  let hi := val32 e.1
  if wide then
    let lo := val32 e.2
    let r := wideAdd hi lo c
    ((code32 r.1, code32 r.2), (r.1.add r.2).isZero && !((hi.add lo).add c).isZero)
  else
    let r := rn32 (hi.add c)
    ((code32 r.1, 0), r.2)

/-- The count of an accumulator entry that an MMA writes (02 R54, 03 R86). -/
def entryCount (hi : Word32) (flush : Bool) : Count :=
  match val32 hi with
  | .nan => .nan
  | .inf _ => .inf
  | _ => if flush then .flush else .none

/-! ## MMA (04 R89 to R101, R105 to R107, R113, R114) -/

/-- A trap that an engine detects: unit-precise, with the engine's index (06 R167). -/
def engineTrap (e : EngId) (cause detail : Nat) : Trap :=
  { cause := cause, detail := detail, unit := unitEngine, eng := e.val, prec := 1 }

/-- The checks of MMA at issue, which need nothing of the engine: the activation tile's place, its format and its
contraction extent (06 Matrix, R152, 02 R41, 03 R66). -/
def mmaIssueChecks (c : CoreId) (v : CoreSt) (tA : TReg) (fmt : Fmt) : Except Trap TileDesc := do
  let d ← tileOperand v tA
  tileInOwnStore c d
  if d.fmt ≠ fmt then .error { cause := causeIllegalOperand, detail := 0x01 }
  else if !extentOk fmt d.cols then .error { cause := causeIllegalOperand, detail := 0x02 }
  else .ok d

/-- The checks at the engine, against the active bank's shape record and the tile's mode (R94, R101). Of several that fail,
the empty bank is reported first, then the format, then the extents (DESIGN CHOICE, log entry 147). -/
def mmaEngineChecks (e : EngId) (x : EngineSt) (ai : AReg) (r0 : Nat) (d : TileDesc) (fmt : Fmt) : Except Trap Shape :=
  match x.active.shape with
  | none => .error (engineTrap e causeIllegalOperand 0x07)
  | some sh =>
    if sh.fmt ≠ fmt then .error (engineTrap e causeIllegalOperand 0x01)
    else if sh.contraction ≠ d.cols then .error (engineTrap e causeIllegalOperand 0x02)
    else if r0 + d.rows > x.capacity ai then .error (engineTrap e causeIllegalOperand 0x02)
    else .ok sh

/-- One entry of an MMA: the engine with it written, and its count. -/
def mmaEntry (fmt : Fmt) (grp : Grp) (prc : Bool) (ai : AReg) (k : Nat) (row scales : Bytes) (m n : Nat)
    (x : EngineSt) : EngineSt × Count :=
  let p := (columnPartials fmt grp prc x.active row scales k n).getLast?.getD (.zero, false)
  let r := promote (x.isWide ai) (x.entry ai m n) p.1
  (x.setEntry ai m n r.1, entryCount r.1.1 (p.2 || r.2))

/-- An entry that a physical fault upset: it holds the free word `w`, and its count is formed from it (DESIGN CHOICE, log entry 8). -/
def upsetEntry (ai : AReg) (w : Word) (m n : Nat) (x : EngineSt) : EngineSt × Count :=
  (x.setEntry ai m n (w.setWidth 32, (w >>> 32).setWidth 32), entryCount (w.setWidth 32) false)

/-- The rows of an MMA against the columns of the active bank, with the word and the count of each entry; `hit` names the row
and column of an entry that a physical fault upset, and its free word. -/
def mmaRows (s : State) (fmt : Fmt) (grp : Grp) (prc : Bool) (ai : AReg) (r0 : Nat) (d : TileDesc) (cols : Nat)
    (hit : Option ((Nat × Nat) × Word)) (x : EngineSt) : EngineSt × List (Nat × Count) :=
  (List.range d.rows).foldl (fun acc i =>
    let row := s.tileRow d i
    let scales := s.tileScales d i
    (List.range cols).foldl (fun acc n =>
      let r := match hit with
        | some (site, w) =>
          if site = (i, n) then upsetEntry ai w (r0 + i) n acc.1
          else mmaEntry fmt grp prc ai d.cols row scales (r0 + i) n acc.1
        | none => mmaEntry fmt grp prc ai d.cols row scales (r0 + i) n acc.1
      (r.1, (accKey n (x.entryWord ai (r0 + i)), r.2) :: acc.2)) acc) (x, [])

/-- Words of the rows and columns that an MMA promotes into or a drain reads. -/
def mmaWords (x : EngineSt) (ai : AReg) (r0 rows cols : Nat) : List Nat :=
  (List.range rows).flatMap fun i => (List.range cols).map fun n => accKey n (x.entryWord ai (r0 + i))

/-- A parity error in a word that the promotion port or the drain's read port reads: the word is marked poisoned and recorded
(R95, R102; DESIGN CHOICE, log entry 8). -/
def accParity (c : CoreId) (e : EngId) (ai : AReg) (pc : Addr) (keys : List Nat) (s : State) : State :=
  keys.foldl (fun s k =>
    let v := s.core c.val
    let x := v.engine e
    if x.accParityBad.get false k then
      let x := { x with accParityBad := x.accParityBad.set false k false, accPoison := x.accPoison.set false k true }
      logError (atEngine s c e
          { cause := 0x07, sev := sevPoisoned, pos := k / 512, addr := pc.toNat, info0 := ai.val, info1 := k % 512 })
        (s.setCore c.val ((v.setEngine e x).sawPoison true))
    else s) s

/-- The entry that a physical fault of this MMA upsets, with the free word it then holds. -/
def upsetHit (c : CoreId) (e : EngId) (s : State) : Option ((Nat × Nat) × Word) × State :=
  match ((s.core c.val).engine e).upset with
  | none => (none, s)
  | some u => let r := s.draw; (some (u.site, r.1), r.2)

/-! ### The scrim comparisons (R103, R104) -/

/-- The modulus of the residues of the 16-bit class. -/
abbrev scrimP : Int := 2 ^ 31 - 1

/-- res of an exact value (R104). -/
def resOf : FVal → Int
  | .fin n m e => ((if n then -1 else 1) * (m * 2 ^ (e % 31).toNat : Nat)) % scrimP
  | _ => 0

/-- What a column contributes to its side of a comparison: the block sum, or the residues of a group's window sum and of the
parts of its products that the window discards. -/
def columnTerm (f : Fmt) (as ws : List FVal) : Int :=
  if f.is16 then
    let ps := (as.zip ws).map fun p => p.1.mul p.2
    match (ps.filterMap leadExp).max? with
    | none => 0
    | some emax =>
      let kept (p : FVal) : FVal := .ofInt (truncTo (emax - 40) p) (emax - 40)
      resOf (.ofInt ((ps.map (truncTo (emax - 40))).sum) (emax - 40)) + (ps.map fun p => resOf (p.sub (kept p))).sum
  else ((as.zip ws).map fun p => frameInt f p.1 * frameInt f p.2).sum

/-- What an activation element contributes to the scrim side: its integer, or its residue. -/
def scrimTerm (f : Fmt) (a : FVal) : Int := if f.is16 then resOf a else frameInt f a

/-- The differences of the two comparisons of one unit of one row, columns side less scrim side, where a fault adds `diff` to
the sum of column `col`; none for a unit with a NaN or an infinity, which the special-value logic checks instead (R103). -/
def scrimDiff (f : Fmt) (g : Grp) (b : Bank) (cols : Nat) (row : Bytes) (k unit : Nat) (fault : Option (Nat × Int)) :
    Option (Int × Int) :=
  let len := unitLength f g
  let ks := (List.range' (unit * len) len).filter fun i => decide (i < k)
  let as := ks.map fun i => fmtValue f (elemCode f row i)
  let column (n : Nat) : List FVal := ks.map fun i => fmtValue f (b.weight f i n)
  let key (i : Nat) : Nat := 4 * (i / elemsPerRow f) + i % elemsPerRow f
  if !(as.all FVal.isFin && (List.range cols).all fun n => (column n).all FVal.isFin) then none
  else
    let sum (n : Nat) : Int := columnTerm f as (column n) + match fault with
      | some (m, d) => if m = n then d else 0
      | none => 0
    let side (c : Table Int) : Int := ((ks.zip as).map fun p => scrimTerm f p.2 * c.get 0 (key p.1)).sum
    let plain := ((List.range cols).map sum).sum - side b.c0
    let weighted := ((List.range cols).map fun (n : Nat) => ((n : Int) + 1) * sum n).sum - side b.c1
    some (if f.is16 then (plain % scrimP, weighted % scrimP) else (plain, weighted))

/-- The column that two differences name, if one column is wrong: the weighted one is its position times the plain one. -/
def scrimColumn (f : Fmt) (d : Int × Int) : Nat :=
  ((List.range 64).find? fun (n : Nat) =>
    let x := ((n : Int) + 1) * d.1 - d.2
    if f.is16 then x % scrimP == 0 else x == 0).getD 0

/-- The comparisons of an MMA that fail: the unit, the row and the differences. -/
def scrimFails (s : State) (f : Fmt) (g : Grp) (b : Bank) (cols : Nat) (d : TileDesc) (upset : Option EngineUpset) :
    List (Nat × Nat × (Int × Int)) :=
  (List.range d.rows).flatMap fun i =>
    let row := s.tileRow d i
    (List.range ((d.cols + unitLength f g - 1) / unitLength f g)).filterMap fun j =>
      let fault := match upset with
        | some (.scrim unit r col diff) => if r = i ∧ unit = j then some (col, diff) else none
        | _ => none
      match scrimDiff f g b cols row d.cols j fault with
      | some x => if x = (0, 0) then none else some (j, i, x)
      | none => none

/-- The record of a scrim comparison that fails, for the tile and the row that its fields name, with which of the unweighted and
the weighted one have failed (R104, 15 R447). -/
def scrimRecord (c : CoreId) (e : EngId) (col addr tile unit row : Nat) (d : Int × Int) (s : State) : State :=
  let failed := (d.1 != 0).toNat + 2 * (d.2 != 0).toNat
  logError (atEngine s c e { cause := 0x08, sev := sevPoisoned, pos := col, addr := addr
                             info0 := tile + 0x100 * failed + 0x10000 * unit + 0x100000000 * row
                             info1 := (d.1 % 2 ^ 64).toNat }) s

/-- The record of a duplicate comparison or a scale parity check that fails. -/
def dupRecord (c : CoreId) (e : EngId) (addr tile place : Nat) (s : State) : State :=
  logError (atEngine s c e { cause := 0x09, sev := sevPoisoned, addr := addr, info0 := tile + 0x100 * place }) s

/-- The place that info0 gives a scale parity check. -/
abbrev scalePlace : Nat := 4

/-- A fault that is met is gone. -/
def clearUpset (c : CoreId) (e : EngId) (s : State) : State :=
  let v := s.core c.val
  s.setCore c.val (v.setEngine e { v.engine e with upset := none })

/-- A weight scale that an MMA of a block format reads fails its parity check (R106). -/
def Bank.scalesFail (b : Bank) (f : Fmt) (cols k : Nat) : Bool :=
  f.isBlock && (List.range cols).any fun n => (List.range (k / 32)).any fun j => b.scaleBad.get false (8 * n + j)

/-- The checks of the engine that fail in this MMA: their records, unless INT_CTL turns the check off, and whether the
tile is poisoned (R103 to R107, 15 R448; the faults themselves are the model's: DESIGN CHOICE, log entry 8). -/
def engineUpset (c : CoreId) (e : EngId) (ai : AReg) (pc : Addr) (f : Fmt) (g : Grp) (cols : Nat) (d : TileDesc) (s : State) :
    Bool × State :=
  let x := (s.core c.val).engine e
  let fails := if bitAt s.bst.intCtl 0 then [] else scrimFails s f g x.active cols d x.upset
  let s := fails.foldl (fun s q => scrimRecord c e (scrimColumn f q.2.2) pc.toNat ai.val q.1 q.2.1 q.2.2 s) s
  let weightBad := x.active.scalesFail f cols d.cols
  let s := if weightBad then dupRecord c e pc.toNat ai.val scalePlace s else s
  let bad := weightBad || !fails.isEmpty
  match x.upset with
  | none => (bad, s)
  | some (.scrim _ _ _ _) => (bad, clearUpset c e s)
  | some (.dup unit _ _) =>
    if bitAt s.bst.intCtl 1 then (bad, clearUpset c e s) else (true, dupRecord c e pc.toNat ai.val unit (clearUpset c e s))
  | some (.scaleParity _ _) =>
    if f.isBlock then (true, dupRecord c e pc.toNat ai.val scalePlace (clearUpset c e s)) else (bad, s)

/-- A dummy row of feather mode meets the fault: its record, with no MMA, tile or row to name; no tile is poisoned (R107,
R109). Its activation pattern is not given, so a bank whose cells and checksums disagree is left to the rows of an MMA
(DESIGN CHOICE, log entry 148). -/
def dummyRow (c : CoreId) (e : EngId) (s : State) : State :=
  match ((s.core c.val).engine e).upset with
  | some (.scrim unit _ col diff) =>
    if bitAt s.bst.intCtl 0 || diff == 0 then clearUpset c e s
    else scrimRecord c e col 0 0xFF unit 0xFFFF (diff, ((col : Int) + 1) * diff) (clearUpset c e s)
  | some (.dup unit _ _) =>
    if bitAt s.bst.intCtl 1 then clearUpset c e s else dupRecord c e 0 0xFF unit (clearUpset c e s)
  | _ => s

/-- The word of STB_CAP that holds a partial (R114): CP24 with bit 32 set, or FP32. -/
def capWord (wide24 : Bool) (p : FVal) : Word :=
  if wide24 then BitVec.ofNat 64 (fcp24.convert .nearest false p).code ||| flagAt 32 true
  else (code32 p).setWidth 64

/-- Stripback capture (R113, R114): counts this MMA, and when it is the named one and holds the named row, copies
the 64 partials after the named stage. -/
def stripback (s : State) (fmt : Fmt) (grp : Grp) (prc : Bool) (e : EngId) (d : TileDesc) (v : CoreSt) : CoreSt :=
  let w := v.stbCtl
  let x := v.engine e
  if !(bitAt w 48 && bitsAt w 4 2 == e.val) then v
  else
    let v := v.setEngine e { x with stbCount := x.stbCount + 1 }
    let arow := bitsAt w 16 7
    if x.stbCount + 1 ≠ bitsAt w 32 16 ∨ arow ≥ d.rows then v
    else
      let row := s.tileRow d arow
      let scales := s.tileScales d arow
      let stage := bitsAt w 8 5
      let word (n : Nat) : Word :=
        let ps := columnPartials fmt grp prc x.active row scales d.cols n
        capWord (!(fmt.is16 || prc)) ((ps.getD stage (ps.getLast?.getD (.zero, false))).1)
      { v with stbCap := v.stbCap.setAll 0 (List.range 64) word,
               stbCtl := setBits (setBits w 48 1 0) 49 1 1 }

/-- Admission of real rows under feather mode, by FTH_CTL as it now stands (R110, R111): a start from idle or from a ramp-down
begins a ramp-up; without one the engine is at full duty. -/
def featherAdmit (ctl : Word) (x : Feather) : Feather :=
  if !bitAt ctl 0 || bitsAt ctl 20 8 = 0 then .steady 8
  else match x with
    | .idle => .rampUp 1
    | .rampDown l => .rampUp l
    | f => f

/-- What an MMA does once its checks have passed. The engine counts every entry it writes (03 R86); whether it counts those of
a poisoned tile or word, which are formed from poison (15 R424), is left open (DESIGN CHOICE, log entry 137). -/
def mmaRun (c : CoreId) (e : EngId) (ai : AReg) (r0 : Nat) (d : TileDesc) (fmt : Fmt) (grp : Grp) (prc : Bool)
    (cols : Nat) (pc : Addr) (s : State) : State :=
  let s := s.touchTile d
  let keys := mmaWords ((s.core c.val).engine e) ai r0 d.rows cols
  let s := accParity c e ai pc keys s
  let hit := upsetHit c e s
  let u := engineUpset c e ai pc fmt grp cols d hit.2
  let s := u.2
  let v := stripback s fmt grp prc e d (s.core c.val)
  let x := v.engine e
  let bad := s.tilePoisoned d || x.active.poison || u.1
  let r := mmaRows s fmt grp prc ai r0 d cols hit.1 x
  let x' := { r.1 with tilePoison := if bad then maskBit x.tilePoison ai true else x.tilePoison
                       feather := featherAdmit s.power.fthCtl x.feather }
  let marked (p : Nat × Count) : Bool := x.accPoison.get false p.1
  let tileBad := bad || x.isPoisoned ai
  let seen := tileBad || keys.any fun k => x.accPoison.get false k
  let p := if seen then s.choose else (true, s)
  let counted := if p.1 then r.2 else if tileBad then [] else r.2.filter fun p => !marked p
  p.2.setCore c.val (((v.setEngine e x').sawPoison seen).tally (Tally.sum (counted.map (·.2))))

/-- MMA. One with an extent of zero does nothing at the engine, and one that fails a check there starts nothing: neither counts
toward STB_CTL.mma_count, of which R113 says only that it counts the MMAs issued (DESIGN CHOICE, log entry 168). -/
def execMma (c : CoreId) (e : EngId) (ai : AReg) (r0 : Fin 128) (tA : TReg) (fmt : Fmt) (grp : Grp) (prc : Bool)
    (s : State) : Answer :=
  issue (.mma c e ai r0 tA fmt grp prc) c s fun v s =>
    match mmaIssueChecks c v tA fmt with
    | .error t => .trap t s
    | .ok d =>
      if d.isEmpty then .done s
      else match mmaEngineChecks e ((s.core c.val).engine e) ai r0.val d fmt with
        | .error t => .trap t s
        | .ok sh => .done (mmaRun c e ai r0.val d fmt grp prc sh.columns v.pc s)

/-! ## Drain (03 R83 to R85, 06 R158, 15 R427) -/

/-- The row length that an MDRAIN writes: 8 bytes an element under .F32X2 (07 R194). -/
def drainRowBytes (pair : Bool) (d : TileDesc) : Nat := if pair then 8 * d.cols else d.rowBytes

/-- The runs that an MDRAIN writes. -/
def drainRuns (pair : Bool) (d : TileDesc) : List (Nat × Nat) :=
  if d.isEmpty then []
  else (List.range d.rows).map (fun i => (d.rowAddr i, drainRowBytes pair d)) ++ d.scaleRuns

/-- Check 1 of R158: the core's own local store or its cluster's cluster store. -/
def drainPlace (c : CoreId) (pair : Bool) (d : TileDesc) : Except Trap Unit :=
  let home := placeOf d.base.toNat
  if home ≠ .localStore c.val ∧ home ≠ .clusterStore (clusterOf c).val then
    .error { cause := causeAddress, detail := 0x03, addr := d.base.toNat }
  else match firstStray home (drainRuns pair d) with
    | some b => .error { cause := causeAddress, detail := 0x02, addr := b }
    | none => .ok ()

/-- Check 4 of R158: the level-statistics record that gl names, none for g0 (02 R59). -/
def recordOperand (c : CoreId) (v : CoreSt) (gl : GReg) : Except Trap (Option Nat) :=
  if gl = 0 then .ok none
  else
    let a := (v.gread gl).toNat
    if a % 128 ≠ 0 then .error { cause := causeAddress, detail := 0x01, addr := a }
    else if placeOf a ≠ .localStore c.val then .error { cause := causeAddress, detail := 0x03, addr := a }
    else .ok (some a)

/-- A pre-scale exponent in −127 to 127 (02 R42). -/
def preScale (w : Word) : Option Int := if -127 ≤ w.toInt ∧ w.toInt ≤ 127 then some w.toInt else none

/-- Checks 1 to 4 of MDRAIN (R158, R152, R194): the tile, the pre-scale and the record. -/
def drainIssueChecks (c : CoreId) (v : CoreSt) (tD : TReg) (gk gl : GReg) (fmt : Fmt) (pair sat : Bool) :
    Except Trap (TileDesc × Int × Option Nat) := do
  let d ← tileOperand v tD
  drainPlace c pair d
  if d.fmt ≠ fmt then .error { cause := causeIllegalOperand, detail := 0x01 }
  if pair && decide (d.rows > 1) && decide (d.rstride < drainRowBytes pair d) then
    .error { cause := causeIllegalOperand, detail := 0x02 }
  if sat && !fmt.is16 then .error { cause := causeIllegalOperand, detail := 0x0A }
  if pair then
    (if gl ≠ 0 then .error { cause := causeIllegalOperand, detail := 0x0A } else .ok (d, 0, none))
  else match preScale (v.gread gk) with
    | none => .error { cause := causeIllegalOperand, detail := 0x04 }
    | some k => do
      let r ← recordOperand c v gl
      .ok (d, k, r)

/-- Checks 5 and 6 of MDRAIN, at the engine (R84, R85, R94, R139). -/
def drainEngineChecks (e : EngId) (v : CoreSt) (ai : AReg) (r0 : Nat) (d : TileDesc) (pair sr : Bool) : Except Trap Unit :=
  let x := v.engine e
  if d.fmt.isBlock ∧ d.cols ≠ 32 ∧ d.cols ≠ 64 then .error (engineTrap e causeIllegalOperand 0x02)
  else if pair && !x.isWide ai then .error (engineTrap e causeIllegalOperand 0x06)
  else if r0 + d.rows > x.capacity ai ∨ d.cols > 64 then .error (engineTrap e causeIllegalOperand 0x02)
  else if sr && !v.seeded then .error (engineTrap e causeIllegalState 0x01)
  else .ok ()

/-- The source value of an entry: FP32, or hi + lo exactly (R83). -/
def entryValue (wide : Bool) (e : Word32 × Word32) : FVal :=
  if wide then (val32 e.1).add (val32 e.2) else val32 e.1

/-- An entry that a drain meets poisoned: its tile or its word (15 R427). -/
def EngineSt.entryPoisoned (x : EngineSt) (ai : AReg) (m n : Nat) : Bool :=
  x.isPoisoned ai || x.accPoison.get false (accKey n (x.entryWord ai m))

/-- The roundings of the elements of one drained row: draws of lane 64 × e + column under .SR (02 R45). -/
def rowRoundings (e : EngId) (sr : Bool) (cols : Nat) (v : CoreSt) : List Rounding × CoreSt :=
  if !sr then ((List.range cols).map fun _ => .nearest, v)
  else (List.range cols).foldl (fun acc n =>
    let d := acc.2.draw (64 * e.val + n)
    (acc.1 ++ [drawRounding d.1], d.2)) ([], v)

/-- One drained row: its bytes, its scale bytes, and the count of each element. -/
structure DrainRow where
  bytes : Bytes
  scales : Bytes
  counts : List Count
  deriving DecidableEq, Repr

/-- Conversion of one row (R83, R84). -/
def drainRow (fmt : Fmt) (sat : Bool) (rs : List Rounding) (vs : List FVal) : DrainRow :=
  if fmt.isBlock then
    let bs := ((chunks 32 2 vs).zip (chunks 32 2 rs)).map fun p => convertBlock fmt p.2 p.1
    ⟨packCodes fmt (bs.flatMap (·.codes)), bs.map fun b => BitVec.ofNat 8 b.scale, bs.flatMap (·.counts)⟩
  else
    let cs := (vs.zip rs).map fun p => convertPlain fmt p.2 sat p.1
    ⟨packCodes fmt (cs.map (·.code)), [], cs.map (·.count)⟩

/-- Device words that hold element `n` of a row at `a`, or its whole block (15 R427). -/
def elemWords (fmt : Fmt) (pair : Bool) (a n : Nat) : List Nat :=
  if pair then wordsOf (a + 8 * n) 8
  else if fmt.isBlock then wordsOf (a + n / 32 * blockBytes fmt) (blockBytes fmt)
  else wordsOf (a + n * (elemBits fmt / 8)) (elemBits fmt / 8)

/-- The element is formed from, or its block holds, a poisoned entry. -/
def elemPoisoned (fmt : Fmt) (bad : List Bool) (n : Nat) : Bool :=
  if fmt.isBlock then ((bad.drop (n / 32 * 32)).take 32).any id else bad.getD n false

/-- A row of a drain written, with its poison and its counts. -/
def drainWriteRow (c : CoreId) (fmt : Fmt) (pair : Bool) (d : TileDesc) (i : Nat) (whole : Bool) (bad : List Bool)
    (r : DrainRow) (s : State) : State :=
  let a := d.rowAddr i
  let b := d.scaleAddr i
  let ns := List.range d.cols
  let words := (ns.filter fun n => elemPoisoned fmt bad n).flatMap fun n => elemWords fmt pair a n
  let sWords := (ns.filter fun n => elemPoisoned fmt bad n).flatMap fun n => wordsOf (b + n / 32) 1
  let s := coreWrite c a r.bytes (fun w => whole || words.contains w) s
  let s := if r.scales.isEmpty then s else coreWrite c b r.scales (fun w => whole || sWords.contains w) s
  let good := (r.counts.zipIdx.filter fun p => !(whole || elemPoisoned fmt bad p.2)).map (·.1)
  s.setCore c.val ((s.core c.val).tally (Tally.sum good))

/-- R60: cur_amax raised to the maximum of the drained magnitudes, or its word poisoned (15 R427). A NaN that
software left in cur_amax has no stated result: a free value. -/
def updateAmax (c : CoreId) (rec_ : Option Nat) (bad : Bool) (vs : List FVal) (s : State) : State :=
  match rec_ with
  | none => s
  | some a =>
    if bad then coreWrite c (a + 64) (s.bytes (a + 64) 4) (fun _ => true) s
    else
      let s := s.touch (a + 64) 4
      let m := (rn32 (maxFinite vs)).1
      if m.isZero then s
      else match val32 (BitVec.ofNat 32 (leNat (s.bytes (a + 64) 4))) with
        | .nan =>
          let p := s.draw
          coreWrite c (a + 64) (leBytes 4 (p.1.toNat % 2 ^ 32)) (fun _ => false) p.2
        | cur => if m.compare cur == 1 then coreWrite c (a + 64) (leBytes 4 (code32 m).toNat) (fun _ => false) s else s

/-- The rows of a drain, in order (02 R45): values, draws, conversion, write. -/
def drainRows (c : CoreId) (e : EngId) (ai : AReg) (r0 : Nat) (d : TileDesc) (fmt : Fmt) (k : Int) (sr sat : Bool)
    (up : Option Nat) : List Nat → State → State
  | [], s => s
  | i :: rest, s =>
    let v := s.core c.val
    let x := v.engine e
    let vs := (List.range d.cols).map fun n => (entryValue (x.isWide ai) (x.entry ai (r0 + i) n)).scale k
    let bad := (List.range d.cols).map fun n => x.entryPoisoned ai (r0 + i) n || up == some (64 * e.val + n)
    let rr := rowRoundings e sr d.cols v
    let s := s.setCore c.val rr.2
    let s := drainWriteRow c fmt false d i (x.isPoisoned ai) bad (drainRow fmt sat rr.1 vs) s
    drainRows c e ai r0 d fmt k sr sat up rest s

/-- Every entry that a drain reads. -/
def drainEntries (r0 : Nat) (d : TileDesc) : List (Nat × Nat) :=
  (List.range d.rows).flatMap fun i => (List.range d.cols).map fun n => (r0 + i, n)

/-- What an MDRAIN does once its checks have passed. -/
def drainRun (c : CoreId) (e : EngId) (ai : AReg) (r0 : Nat) (d : TileDesc) (fmt : Fmt) (k : Int) (rec_ : Option Nat)
    (sr sat : Bool) (pc : Addr) (s : State) : State :=
  let s := accParity c e ai pc (mmaWords ((s.core c.val).engine e) ai r0 d.rows d.cols) s
  let up := if sr then stippleUpset c pc ((List.range d.cols).map (64 * e.val + ·)) s else (none, s)
  let s := up.2
  let x := (s.core c.val).engine e
  let es := drainEntries r0 d
  let bad := es.any fun p => x.entryPoisoned ai p.1 p.2
  let s := updateAmax c rec_ bad (es.map fun p => entryValue (x.isWide ai) (x.entry ai p.1 p.2)) s
  let s := drainRows c e ai r0 d fmt k sr sat up.1 (List.range d.rows) s
  s.setCore c.val ((s.core c.val).sawPoison bad)

/-- A self-test visit occupies the drain of an engine, or waits to: an MDRAIN that issues waits (04 R108, 15 R437). -/
def engineVisited (s : State) (c : CoreId) (e : EngId) : Bool := s.unitVisited (.engine c e)

/-- Issue of a drain. -/
def issueDrain (i : Instr) (c : CoreId) (e : EngId) (s : State) (body : CoreSt → State → Effect) : Answer :=
  issueVisited (engineVisited s c e) i c s body

/-- MDRAIN. -/
def execMdrain (c : CoreId) (e : EngId) (ai : AReg) (r0 : Fin 128) (tD : TReg) (gk gl : GReg) (fmt : Fmt)
    (sr sat : Bool) (s : State) : Answer :=
  issueDrain (.mdrain c e ai r0 tD gk gl fmt sr sat) c e s fun v s =>
    match drainIssueChecks c v tD gk gl fmt false sat with
    | .error t => .trap t s
    | .ok (d, k, r) =>
      if d.isEmpty then .done s
      else match drainEngineChecks e (s.core c.val) ai r0.val d false sr with
        | .error t => .trap t s
        | .ok () => .done (drainRun c e ai r0.val d fmt k r sr sat v.pc s)

/-- The 8 bytes of an entry under .F32X2: hi above lo, and its count (R85). -/
def pairRow (x : EngineSt) (ai : AReg) (m cols : Nat) : DrainRow :=
  let es := (List.range cols).map fun n => x.entry ai m n
  ⟨es.flatMap fun p => leBytes 4 p.2.toNat ++ leBytes 4 p.1.toNat, [], es.map fun p => entryCount p.1 false⟩

/-- MDRAIN.F32X2. -/
def execMdrainF32x2 (c : CoreId) (e : EngId) (ai : AReg) (r0 : Fin 128) (tD : TReg) (gk gl : GReg) (s : State) : Answer :=
  issueDrain (.mdrainF32x2 c e ai r0 tD gk gl) c e s fun v s =>
    match drainIssueChecks c v tD gk gl .fp32 true false with
    | .error t => .trap t s
    | .ok (d, _, _) =>
      if d.isEmpty then .done s
      else match drainEngineChecks e (s.core c.val) ai r0.val d true false with
        | .error t => .trap t s
        | .ok () =>
          let s := accParity c e ai v.pc (mmaWords ((s.core c.val).engine e) ai r0.val d.rows d.cols) s
          let x := (s.core c.val).engine e
          let s := (List.range d.rows).foldl (fun s i =>
            drainWriteRow c .fp32 true d i (x.isPoisoned ai)
              ((List.range d.cols).map fun n => x.entryPoisoned ai (r0.val + i) n) (pairRow x ai (r0.val + i) d.cols) s) s
          let bad := (drainEntries r0.val d).any fun p => x.entryPoisoned ai p.1 p.2
          .done (s.setCore c.val ((s.core c.val).sawPoison bad))

end Sys2Proof.Machine
end

