-- ==== Sys2Proof/Machine/Clocks.lean ====
section
/-! DEFINITION. How ACLK is formed (01 R26 to R29) and feather mode (04 R110, R111). -/

namespace Sys2Proof.Machine

/-! ## Sources and the effective setting (R26) -/

/-- A setting: the divider and the keep count. -/
structure Setting where
  div : Nat
  keep : Nat
  deriving DecidableEq, Repr

/-- A setting gives a lower frequency than another: 240 · K ÷ D MHz. -/
def Setting.below (a b : Setting) : Bool := decide (a.keep * b.div < b.keep * a.div)

/-- Whole MHz, rounded down (R29). -/
def Setting.mhz (a : Setting) : Nat := 240 * a.keep / a.div

/-- Keep count of the variant ceiling (18 R493). -/
def ceilingKeep (variant : Nat) : Nat := if variant = 2 then 18 else if variant = 3 then 16 else 20

/-- Active sources in the order of report: the code of eff_src and the setting (R26, R29). -/
def clockSources (s : State) : List (Nat × Setting) :=
  (if s.ckg.trip then [(3, ⟨24, 1⟩)] else []) ++ (if (s.proc 1).down then [(1, ⟨12, 20⟩)] else [])
    ++ [(2, ⟨6, ceilingKeep s.fuses.variant⟩), (0, ⟨s.ckg.reqDiv, s.ckg.reqKeep⟩)]

/-- The lowest setting of a list; the earlier of two equal ones. -/
def lowest : List (Nat × Setting) → Nat × Setting
  | [] => (2, ⟨6, 20⟩)
  | [a] => a
  | a :: rest => let b := lowest rest; if b.2.below a.2 then b else a

/-- The lowest active setting and its source. -/
def clockTarget (s : State) : Nat × Setting := lowest (clockSources s)

/-- The setting in force. -/
def Ckg.current (g : Ckg) : Setting := ⟨g.curDiv, g.curKeep⟩

/-- The setting in force at once: at a chip reset and at a power cycle (R27). -/
def settleClock (s : State) : State :=
  let t := (clockTarget s).2
  { s with ckg := { s.ckg with curDiv := t.div, curKeep := t.keep, lastStep := none } }

/-- The source that eff_src reports: while a lower setting waits for its window boundary, the one behind the setting still
in force; else the source of the lowest active setting, toward which the device steps (R26, R29; DEDUCED, log entry 144). -/
def effSource (s : State) : Nat :=
  if (clockTarget s).2.below s.ckg.current then s.ckg.src else (clockTarget s).1

/-- Before a source changes: the source of the setting in force is kept. -/
def holdSource (s : State) : State := { s with ckg := { s.ckg with src := effSource s } }

/-- A request of the power-management core (R29). -/
def requestClock (div keep : Nat) (s : State) : State :=
  { s with ckg := { s.ckg with reqDiv := div, reqKeep := keep, src := effSource s } }

/-! ## Changes of the setting (R27) -/

/-- ACLK_LOWER: at a window boundary, a lower target takes effect. -/
def execAclkLower (s : State) : Answer :=
  .next (if (clockTarget s).2.below s.ckg.current then settleClock s else s)

/-- One raising step from `c` toward `t` (R27). -/
def raiseStep (c t : Setting) : Setting :=
  let k := min 20 (c.keep * t.div / c.div)
  if c.div = t.div then { c with keep := c.keep + 1 }
  else if 1 ≤ k then ⟨t.div, k⟩
  else if !t.below { c with keep := c.keep + 1 } then { c with keep := c.keep + 1 }
  else ⟨t.div, 1⟩

/-- ACLK_RAISE_STEP: at a window boundary at least 1 µs after the step before it. A lowest setting of the same frequency
under another D and K neither lowers nor raises ACLK, and the manual does not say when it is taken: here as a raising step
(DESIGN CHOICE, log entry 145). -/
def execAclkRaiseStep (s : State) : Answer :=
  let t := (clockTarget s).2
  let c := s.ckg.current
  let early := match s.ckg.lastStep with
    | some k => decide (s.clk < k + usEdges)
    | none => false
  if c = t || t.below c || early then .next s
  else
    let n := raiseStep c t
    .next { s with ckg := { s.ckg with curDiv := n.div, curKeep := n.keep,
                                       lastStep := if n = t then none else some s.clk } }

/-! ## CKG_ACLK (R29) -/

/-- The code of a divider. -/
def divCode (d : Nat) : Nat := if d = 8 then 1 else if d = 12 then 2 else if d = 24 then 3 else 0

/-- The divider of a code. -/
def codeDiv (n : Nat) : Nat := if n = 1 then 8 else if n = 2 then 12 else if n = 3 then 24 else 6

/-- What CKG_ACLK reads. -/
def ckgWord (s : State) : Word :=
  putAt 0 (divCode s.ckg.reqDiv) ||| putAt 8 s.ckg.reqKeep ||| putAt 16 (divCode s.ckg.curDiv) ||| putAt 24 s.ckg.curKeep
    ||| putAt 32 (effSource s) ||| putAt 36 s.ckg.current.mhz

/-- A checked write of CKG_ACLK; none where a field is rejected. -/
def writeCkg (v : Word) (s : State) : Option State :=
  let d := bitsAt v 0 3
  let k := bitsAt v 8 5
  if d > 3 || k > 20 then none
  else some (if k = 0 then s else requestClock (codeDiv d) k s)

/-! ## Feather mode (04 R110, R111) -/

/-- A checked write of FTH_CTL (04 R111; the minima of 20 R531 bind its writer: DEDUCED, log entry 173). -/
def writeFth (v : Word) (s : State) : Option State :=
  if bitsAt v 4 12 = 0xFFF || bitsAt v 20 8 = 0xFF || bitsAt v 32 8 = 0xFF then none
  else some { s with power := { s.power with fthCtl := v } }

/-- The feather state of an engine changed by `f`. -/
def changeFeather (c : CoreId) (e : EngId) (f : Feather → Feather) (s : State) : State :=
  let v := s.core c.val
  let x := v.engine e
  s.setCore c.val (v.setEngine e { x with feather := f x.feather })

/-- One level of a ramp down from level `n`; the engine idles below 1/8. -/
def featherDown (n : Nat) : Feather := if n ≤ 1 then .idle else .rampDown (n - 1)

/-- A start goes to full duty with no ramp: feather mode is off, or ramp_up is 0 (R111). -/
def noRampUp (s : State) : Bool := !bitAt s.power.fthCtl 0 || bitsAt s.power.fthCtl 20 8 = 0

/-- A stop has no ramp: feather mode is off, or ramp_down is 0 (R111). -/
def noRampDown (s : State) : Bool := !bitAt s.power.fthCtl 0 || bitsAt s.power.fthCtl 32 8 = 0

/-- Dummy rows fill the gap: feather mode is on and gap_max is not 0 (R110, R111). -/
def gapFilled (s : State) : Bool := bitAt s.power.fthCtl 0 && bitsAt s.power.fthCtl 4 12 != 0

/-- FEATHER_GAP_EXPIRY: the gap fill has run out, at the level in force (R110 items 1 and 3). -/
def execFeatherGapExpiry (c : CoreId) (e : EngId) (s : State) : Answer :=
  let step (n : Nat) : Feather := if noRampDown s then .idle else featherDown n
  let running := match ((s.core c.val).engine e).feather with
    | .steady _ => true
    | .rampUp _ => true
    | _ => false
  let s := if running && gapFilled s then dummyRow c e s else s
  .next (changeFeather c e (fun x => match x with
    | .steady n => step n
    | .rampUp n => step n
    | y => y) s)

/-- FEATHER_RAMP_STEP: a level has been held for ramp_up or ramp_down cycles; FTH_CTL rules as it now stands (R110 items 3
and 4, R111). -/
def execFeatherRampStep (c : CoreId) (e : EngId) (s : State) : Answer :=
  .next (changeFeather c e (fun x => match x with
    | .rampUp n => if n + 1 ≥ 8 || noRampUp s then .steady 8 else .rampUp (n + 1)
    | .rampDown n => if noRampDown s then .idle else featherDown n
    | y => y) s)

end Sys2Proof.Machine
end

