-- ==== Sys2Proof/Machine/Power.lean ====
section
/-! DEFINITION. Power and temperatures: emergencies, the power and thermal loops, the hardware limiter, the sensors (17
R477 to R479, 18 R494, 20 R524, R534, R535, R539). -/

namespace Sys2Proof.Machine

/-! ## Limits (17 R477, 18 R493) -/

/-- The variant power limit in W. -/
def variantWatts (variant : Nat) : Nat := if variant = 2 then 2400 else if variant = 3 then 1900 else 2800

/-- The effective cap in W (17 R477). -/
def effectiveCap (s : State) : Nat :=
  match s.power.cap with
  | some w => min w (variantWatts s.fuses.variant)
  | none => variantWatts s.fuses.variant

/-! ## Emergencies (17 R479) -/

/-- A condition of R479 holds; while the power-management core is down, the device is in an emergency. -/
def emergencyHolds (s : State) : Bool :=
  s.ckg.trip || effSource s == 1 || s.power.nearTrip || s.power.badInput || s.power.overCap || (s.proc 1).down

/-- A change of the conditions: an emergency begins with them, and the time of their end is kept. -/
def withEmergency (f : State → State) (s : State) : State :=
  let t := f s
  if emergencyHolds t then { t with power := { t.power with emergency := true, lastEmergency := t.clk } }
  else if emergencyHolds s then { t with power := { t.power with lastEmergency := t.clk } }
  else t

/-- EMERGENCY_END: no condition has held for 1 s. -/
def execEmergencyEnd (s : State) : Answer :=
  if s.power.emergency && !emergencyHolds s && decide (s.power.lastEmergency + 1000 * msEdges ≤ s.clk) then
    .next { s with power := { s.power with emergency := false } }
  else .next s

/-- The reason bits as one number: bit 0 trip to bit 4 power over cap. -/
def emergencyReasons (s : State) : Nat :=
  s.ckg.trip.toNat + 2 * (effSource s == 1 || (s.proc 1).down).toNat + 4 * s.power.nearTrip.toNat
    + 8 * s.power.badInput.toNat + 16 * s.power.overCap.toNat

/-- FWP_STAT. -/
def fwpWord (s : State) : Word :=
  flagAt 0 s.power.emergency ||| putAt 1 (emergencyReasons s) ||| putAt 8 (effectiveCap s)

/-! ## Loops (17 R477) -/

/-- The device runs, and so does its power-management core. -/
def powerCoreUp (s : State) : Bool := s.boot.done && !(s.proc 1).down

/-- A setting that CKG_ACLK takes. -/
def legalSetting (div keep : Nat) : Bool := [6, 8, 12, 24].contains div && decide (1 ≤ keep) && decide (keep ≤ 20)

/-- A pair as a setting. -/
def settingOf (p : Nat × Nat) : Setting := ⟨p.1, p.2⟩

/-- The lower of the two loops' requests is written (17 R477). -/
def writeLoops (s : State) : State :=
  let p := s.power.powReq
  let r := match s.power.thmReq with
    | some t => if (settingOf t).below (settingOf p) then t else p
    | none => p
  requestClock r.1 r.2 s

/-- A request of the power loop that the rule allows: lower while the mean is over the cap, else at most one step of K
up, to the ceiling. -/
def powerRequest (s : State) (excess : Bool) (div keep : Nat) : Bool :=
  let old := s.power.powReq
  legalSetting div keep &&
    (if excess then (⟨div, keep⟩ : Setting).below (settingOf old) || old == (24, 1)
     else decide (div = old.1) && decide (old.2 ≤ keep) && decide (keep ≤ old.2 + 1)
       && !(⟨6, ceilingKeep s.fuses.variant⟩ : Setting).below ⟨div, keep⟩)

/-- The time for which the mean may exceed the cap (17 R479). -/
abbrev overLimit : Nat := 5 * msEdges

/-- The mean of the last 1 ms is judged against the cap: since when it has exceeded it, and whether for 5 ms in a row (17 R479). -/
def judgeMean (meanWatts : Nat) (s : State) : State :=
  let since := if meanWatts ≤ effectiveCap s then none else match s.power.overSince with
    | some t => some t
    | none => some s.clk
  let late := match since with
    | some t => decide (t + overLimit ≤ s.clk)
    | none => false
  { s with power := { s.power with meanWatts := meanWatts, overSince := since, overCap := late } }

/-- POWER_LOOP_TICK: the mean of the last 1 ms against the cap (17 R477, R479). -/
def execPowerLoopTick (meanWatts div keep : Nat) (s : State) : Answer :=
  if !powerCoreUp s then .next s
  else
    let excess := decide (effectiveCap s < meanWatts)
    let s := withEmergency (judgeMean meanWatts) s
    if powerRequest s excess div keep then .next (writeLoops { s with power := { s.power with powReq := (div, keep) } })
    else .next s

/-- Throttle temperatures, in 0.1 °C (20 R534). -/
abbrev throttleCompute : Int := 1000
/-- Of the memory shelves. -/
abbrev throttleMemory : Int := 950

/-- THERMAL_LOOP_TICK: while the hottest sensor is above its throttle temperature, the thermal loop lowers its request (17
R477). -/
def execThermalLoopTick (div keep : Nat) (s : State) : Answer :=
  let p := s.power
  let hot := decide (p.compMax > throttleCompute) || decide (p.memMax > throttleMemory)
  let old := match p.thmReq with
    | some t => t
    | none => (s.ckg.reqDiv, s.ckg.reqKeep)
  let lower := legalSetting div keep && ((⟨div, keep⟩ : Setting).below (settingOf old) || old == (24, 1))
  if !powerCoreUp s then .next s
  else if !hot then .next (writeLoops { s with power := { p with thmReq := none } })
  else if lower then .next (writeLoops { s with power := { p with thmReq := some (div, keep) } })
  else .next s

/-- LIMITER_TICK: the hardware power limiter, once per 1 ms (18 R494). -/
def execLimiterTick (meanWatts : Nat) (s : State) : Answer :=
  let limit := variantWatts s.fuses.variant
  let p := { s.power with meanWatts := meanWatts }
  let j := if limit * 105 < meanWatts * 100 then max 2 (p.duty - 1)
    else if meanWatts * 100 < limit * 95 then min 8 (p.duty + 1) else p.duty
  if !s.pins.pwrGood then .next s
  else .next { s with power := { p with duty := j, dutyAct := p.dutyAct || decide (j < p.duty) } }

/-- PWL_STAT (18 R494). -/
def pwlWord (s : State) : Word :=
  putAt 0 s.power.duty ||| flagAt 4 s.power.dutyAct ||| putAt 16 (variantWatts s.fuses.variant)

/-! ## Sensors (20 R534, R539, 17 R479) -/

/-- Trip temperatures, in 0.1 °C (20 R534). -/
abbrev tripCompute : Int := 1100
/-- Of the memory shelves. -/
abbrev tripMemory : Int := 1050

/-- The hottest reading and its sensor, ties to the lower. -/
def hottest (rs : List Int) : Int × Nat :=
  match rs.zipIdx with
  | [] => (0, 0)
  | a :: rest => rest.foldl (fun best r => if r.1 > best.1 then r else best) a

/-- Every sensor lies at least 15 °C below its region's trip temperature (20 R535). -/
def cool (r : SensorReadings) : Bool :=
  r.compute.all (fun t => decide (t ≤ tripCompute - 150)) && r.memory.all fun t => decide (t ≤ tripMemory - 150)

/-- The power-management core judges the readings as they stand: the reason bits near trip and input voltage (17 R479). -/
def judgeReadings (s : State) : State :=
  let p := s.power
  { s with power := { p with
      nearTrip := decide (p.compMax ≥ tripCompute - 50) || decide (p.memMax ≥ tripMemory - 50)
      badInput := decide (p.inputMv < 48000) || decide (p.inputMv > 58000) } }

/-- What the power-management core evaluates again before it signals ready (17 R479). -/
def judgeAgain (s : State) : State := judgeMean s.power.meanWatts (judgeReadings s)

/-- SENSOR_REFRESH: readings arrive; the power-management core judges them while it runs (20 R539, 17 R479). -/
def execSensorRefresh (r : SensorReadings) (s : State) : Answer :=
  if r.compute.length ≠ 64 ∨ r.memory.length ≠ 16 ∨ !s.pins.pwrGood then .next s
  else
    let c := hottest r.compute
    let m := hottest r.memory
    .next (withEmergency (fun s =>
      let p := s.power
      let t := { s with power := { p with
          compute := Table.ofFn 64 0 fun i => r.compute.getD i 0
          memory := Table.ofFn 16 0 fun i => r.memory.getD i 0
          compMax := c.1
          compId := c.2
          memMax := m.1
          memId := m.2
          inputMv := r.inputMv
          inputMa := r.inputMa
          coolSince := if !cool r then none else match p.coolSince with
            | some t => some t
            | none => some s.clk } }
      if powerCoreUp s then judgeReadings t else t) s)

/-- A reading in 0.1 °C as the 12-bit field of THM_STAT. -/
def tempField (t : Int) : Nat := (BitVec.ofInt 12 t).toNat

/-- THM_STAT (20 R539). -/
def thmWord (s : State) : Word :=
  putAt 0 (tempField s.power.compMax) ||| putAt 16 (tempField s.power.memMax) ||| flagAt 32 (!s.power.tripped.isEmpty)
    ||| flagAt 33 (!s.pins.tripN) ||| putAt 40 s.power.compId ||| putAt 48 s.power.memId

/-! ## PLDM sensors (13 R389) -/

/-- The reading of a sensor, as R389 encodes it. -/
def sensorValue (s : State) (id : Nat) : Option Nat :=
  match id with
  | 1 => some (BitVec.ofInt 32 s.power.compMax).toNat
  | 2 => some (BitVec.ofInt 32 s.power.memMax).toNat
  | 3 => some s.power.inputMv
  | 4 => some s.power.inputMa
  | 5 => some s.power.meanWatts
  | 6 => some s.ckg.current.mhz
  | 7 => some (effSource s)
  | 8 => some (variantWatts s.fuses.variant)
  | _ => none

end Sys2Proof.Machine
end

