-- ==== Sys2Proof/Machine/Boot.lean ====
section
/-! DEFINITION. Chip resets, power cycles and the boot: rails, phases, the repair map, fitness, thermal trips (14 R395,
R401, R403, R411, R415, R416, 18 R483 to R497, 13 R388, R390, 20 R529, R530, R535 to R538). -/

namespace Sys2Proof.Machine

/-! ## What a reset leaves (14 R395) -/

/-- Events that the sideband reports (13 R390). -/
abbrev eventTrip : Nat := 1
/-- Event. -/
abbrev eventEscalation : Nat := 2
/-- Event. -/
abbrev eventBoot : Nat := 3

/-- Frames that a confidential context holds. -/
def confidentialFrames (s : State) : List Nat :=
  (List.range 1536).filter fun f =>
    let b := s.atu.frm.get 0 f
    b.getLsbD 7 && (s.ctx (b.toNat % 64)).conf

/-- Everything at its reset value but what no reset touches: the module's flash and fuses, the pins, what the sensors
compare, the commands that wait and what has been sent. -/
def freshState (s : State) : State :=
  { State.reset with
    pending := s.pending
    clk := s.clk
    draws := s.draws
    stamps := s.stamps
    out := s.out
    pins := { s.pins with i3cAddr := none, mctpEid := none }
    flashMem := s.flashMem
    flashBad := s.flashBad
    fuses := s.fuses
    fw := { State.reset.fw with components := s.fw.components }
    sec := { State.reset.sec with owner := s.sec.owner, nonceDraws := s.sec.nonceDraws }
    ckg := { State.reset.ckg with trip := s.ckg.trip }
    power := { State.reset.power with tripped := s.power.tripped, coolSince := s.power.coolSince, inputMv := s.power.inputMv }
    boot := { State.reset.boot with fullDone := s.boot.fullDone } }

/-- A boot begins at a phase, or waits there for RESET_N to rise; a full render boot under a trip stops where it stands (18
R483, R497, 20 R537). -/
def beginBoot (skim : Bool) (phase : Nat) (s : State) : State :=
  { s with boot := { State.reset.boot with
      skim := skim, phase := phase, running := s.pins.resetN, waitResetN := !s.pins.resetN,
      stopped := !skim && !s.power.tripped.isEmpty, fullDone := s.boot.fullDone, startClk := s.clk,
      confFrames := s.boot.confFrames } }

/-- A component that an escalated reset takes back to its previous image (17 R482). -/
def Component.revert (x : Component) : Component :=
  if x.trial then
    { x with bank := .rejected, runVersion := x.prevVersion, runSvn := x.prevSvn, runDigest := x.prevDigest, trial := false }
  else x

/-- The time in which an escalated reset rejects a new image (17 R482). -/
abbrev trialTime : Nat := 10000 * msEdges

/-- A chip reset for `cause`, with the processor of an escalation; a boot whose rails still ramp starts again at phase 0x1
(14 R395, R403, R411, R416, 13 R388). -/
def chipReset (cause proc : Nat) (s : State) : State :=
  let s := abandonSlots (fun _ => true) s
  let t := freshState s
  let frames := (s.boot.confFrames ++ confidentialFrames s).dedup
  let components := if cause = 3 && decide (s.clk < s.boot.startClk + trialTime) then
      s.fw.components.mapAll .reset Component.revert else s.fw.components
  let t := { t with
    mem := s.mem.drop fun a => decide (dramEnd ≤ a)
    poison := s.poison.drop fun w => decide (dramEnd ≤ 8 * w)
    latent := s.latent.drop fun w => decide (dramEnd ≤ 8 * w)
    fw := { t.fw with components := components }
    flashSlots := s.flashSlots.mapAll .reset fun x => { FlashSlot.reset with
      status := if x.status = flashAbandoned then flashAbandoned else 0 }
    rst := { State.reset.rst with cause := cause, proc := proc, badCl := s.rst.badCl, chipResets := satTo 0xFFFE (s.rst.chipResets + 1) }
    boot := { t.boot with confFrames := frames } }
  let t := if cause = 3 then State.sendMctp true (.pldmEvent eventEscalation proc) t else t
  withEmergency id (beginBoot s.boot.fullDone (if s.boot.phase = 1 then 1 else 2) (settleClock t))

/-- RST_CHIP's confirmation. -/
abbrev chipConfirm : Nat := 0xA5

/-- A write of RST_CHIP (14 R415). -/
def writeRstChip (v : Word) (s : State) : Option State :=
  if !bitAt v 0 then some s
  else if bitsAt v 8 8 ≠ chipConfirm then none
  else some (chipReset 2 0 s)

/-- RST_STAT (14 R416). -/
def rstStatWord (s : State) : Word :=
  putAt 0 s.rst.cause ||| putAt 4 s.rst.proc ||| putAt 16 s.rst.badCl.toNat ||| putAt 32 s.rst.chipResets

/-! ## Pins and rails (13 R388, 18 R485, 20 R529, R530, R538) -/

/-- The die is powered. -/
def powered (s : State) : Bool := s.pins.pwrEn && !s.pins.moduleFault

/-- The root PLL is locked on a powered die: the ports run. -/
def portsRun (s : State) : Bool := powered s && s.boot.pllLocked

/-- RESET_N_ASSERT: a fall of the pin is a chip reset, and is ignored while PWR_EN is low; only a boot whose PWR_EN rose
with the pin low goes on under it (13 R388, 18 R483). -/
def execResetNAssert (s : State) : Answer :=
  let t := { s with pins := { s.pins with resetN := false } }
  if powered s && s.pins.resetN then .next (chipReset 1 0 t) else .next t

/-- RESET_N_DEASSERT: the boot that waits for it starts (13 R388, 18 R483). -/
def execResetNDeassert (s : State) : Answer :=
  let s := { s with pins := { s.pins with resetN := true } }
  if powered s && s.boot.waitResetN then
    .next { s with boot := { s.boot with waitResetN := false, running := true, startClk := s.clk } }
  else .next s

/-- Nothing runs: the module is off, or holds the die in reset. -/
def dark (s : State) : State :=
  let t := freshState (abandonSlots (fun _ => true) s)
  settleClock { t with
    pins := { t.pins with pwrGood := false }
    boot := { t.boot with running := false, fullDone := false, phase := 1 } }

/-- PWR_EN_RISE: the rails ramp, and a full render boot starts at phase 0x1 (13 R388, 18 R483). -/
def execPwrEnRise (s : State) : Answer :=
  if s.pins.pwrEn then .next s
  else
    let s := dark s
    let s := beginBoot false 1 { s with pins := { s.pins with
      pwrEn := true, rails := [], moduleFault := false, tripN := s.power.tripped.isEmpty } }
    .next { s with boot := { s.boot with running := true, waitResetN := false } }

/-- PWR_EN_FALL: the rails fall; nothing volatile is left, and no comparator asserts: one that is still hot when the power
is back is a new THERMAL_TRIP (20 R526, R529, R535, R537; DEDUCED, log entry 142). -/
def execPwrEnFall (s : State) : Answer :=
  if !s.pins.pwrEn then .next s
  else
    let s := dark { s with power := { s.power with tripped := [], coolSince := none }, ckg := { s.ckg with trip := false } }
    .next { s with pins := { s.pins with pwrEn := false, rails := [], moduleFault := false, tripN := true } }

/-- The state of R485, with the rails that are left: only a power cycle recovers from it. -/
def moduleFault (rails : List RailGroup) (s : State) : State :=
  let s := dark s
  { s with pins := { s.pins with rails := rails, moduleFault := true } }

/-- RAIL_FAULT: a rail leaves regulation after PWR_GOOD has risen (18 R485). -/
def execRailFault (g : RailGroup) (s : State) : Answer :=
  .next (if s.pins.pwrGood then moduleFault (s.pins.rails.filter fun r => r != g) s else s)

/-- OVERCURRENT_STOP: a power stage stops (20 R530). -/
def execOvercurrentStop (g : RailGroup) (s : State) : Answer :=
  .next (if powered s then moduleFault (s.pins.rails.filter fun r => r != g) s else s)

/-- INPUT_LOCKOUT: the power stages stop (20 R524). -/
def execInputLockout (s : State) : Answer := .next (if powered s then moduleFault [] s else s)

/-- CRITICAL_SHUTDOWN: VCOMP stops (20 R538). -/
def execCriticalShutdown (at_ : Sensor) (s : State) : Answer :=
  .next (if powered s then
    moduleFault (s.pins.rails.filter fun r => r != .compute)
      { s with power := { s.power with tripped := if s.power.tripped.contains at_ then s.power.tripped else s.power.tripped ++ [at_] } }
  else s)

/-- PLL_LOCK (18 R484, R485). -/
def execPllLock (s : State) : Answer :=
  .next (if powered s && s.pins.pwrGood && s.boot.running && s.boot.phase = 2 then
    { s with boot := { s.boot with pllLocked := true } } else s)

/-! ## Thermal trips (20 R535, R537, 01 R26, R27) -/

/-- THERMAL_TRIP: a comparator asserts. -/
def execThermalTrip (at_ : Sensor) (s : State) : Answer :=
  if !powered s then .next s
  else
    let fresh := s.power.tripped.isEmpty
    let s := withEmergency (fun s => { s with
      power := { s.power with tripped := if s.power.tripped.contains at_ then s.power.tripped else s.power.tripped ++ [at_]
                              coolSince := none }
      ckg := { s.ckg with trip := true, src := effSource s }
      pins := { s.pins with tripN := false } }) s
    let s := if !s.boot.done && !s.boot.skim then { s with boot := { s.boot with stopped := true } } else s
    .next (if fresh then State.sendMctp true (.pldmEvent eventTrip 0) s else s)

/-- TRIP_CLEAR: every sensor has been cool for 100 ms. -/
def execTripClear (s : State) : Answer :=
  match s.power.coolSince with
  | some t =>
    if s.ckg.trip && decide (t + 100 * msEdges ≤ s.clk) then
      .next (withEmergency (fun s => { s with
        power := { s.power with tripped := [] }
        ckg := { s.ckg with trip := false } }) s)
    else .next s
  | none => .next s

/-! ## The repair map (18 R488 to R490) -/

/-- Repair entries that name a core of a cluster, in record order. -/
def Fuses.coreEntries (x : Fuses) (k : Nat) : List (Fin 17) :=
  (x.repair.filter fun r => r.crcOk && r.kind == 2 && r.unit == k).map fun r => Fin.ofNat 17 r.index

/-- The unusable physical cores of a cluster, the fuses' first, and whether the repair record named each. -/
def Fuses.unusable (x : Fuses) (k : Nat) : List (Fin 17 × Bool) :=
  let fused := match x.badCore.get none k with
    | some c => [(c, false)]
    | none => []
  fused ++ ((x.coreEntries k).dedup.filter fun c => !fused.any fun f => f.1 == c).map fun c => (c, true)

/-- The map in force (18 R488). -/
def Fuses.formMap (x : Fuses) : Fuses :=
  { x with map := Table.ofFn 16 none fun k => (x.unusable k).head? }

/-- The boot learns a reason for being unfit; the first stands (18 R495; DEDUCED, log entry 36). -/
def unfit (reason place : Nat) (s : State) : State :=
  if s.boot.unfitReason = 0 then { s with boot := { s.boot with unfitReason := reason, unfitPlace := place } } else s

/-- Clusters with more than one unusable core. -/
def crowded (s : State) : State :=
  ((List.range 16).filter fun k => (s.fuses.unusable k).length > 1).foldl (fun s k => unfit 1 k s) s

/-- Entries that a repair record skips: each is recorded (18 R489). -/
def badEntries (s : State) : State :=
  (s.fuses.repair.filter fun r => !r.crcOk || (r.kind != 1 && r.kind != 2)).foldl
    (fun s _ => logError (atPlace 0x00 0 { cause := 0x1A, sev := sevEvent }) s) s

/-- A physical core holds a logical position. -/
def coreUsed (s : State) (k : ClusterId) (p : Fin 17) : Bool :=
  match s.fuses.map.get none k.val with
  | some (bad, _) => bad != p
  | none => p.val < 16

/-- The BST record of a physical core (18 R490, R492). -/
def bootTestRecord (k : ClusterId) (p : Fin 17) (s : State) : State :=
  let bad := match s.fuses.map.get none k.val with | some (b, _) => b.val | none => 16
  let logical := 16 * k.val + (if p.val < bad then p.val else p.val - 1)
  logError { cause := 0x0C, sev := sevEvent, loc := 0x01, lidx := if coreUsed s k p then logical else 0,
             pidx := 17 * k.val + p.val } s

/-- The most entries of the repair record (18 R489). -/
abbrev repairLimit : Nat := 65536

/-- A full render boot finds a physical core failed (18 R490). -/
def retireCore (fails : Bool) (s : State) (f : ClusterId × Fin 17) : State :=
  let k := f.1
  let used := coreUsed s k f.2
  let s := bootTestRecord k f.2 s
  if !used then s
  else if (s.fuses.map.get none k.val).isSome then unfit 1 k.val s
  else if fails || s.fuses.repair.length ≥ repairLimit then unfit 6 k.val s
  else
    let x := { s.fuses with repair := s.fuses.repair ++ [Repair.mk 2 k.val f.2.val 0 s.fuses.boots true] }
    { s with fuses := x.formMap }

/-- A skim boot finds a receiver of a broadcast failed twice (18 R492). -/
def dropCore (s : State) (f : ClusterId × Fin 17) : State :=
  let used := coreUsed s f.1 f.2
  let s := bootTestRecord f.1 f.2 s
  if used then { s with rst := { s.rst with badCl := s.rst.badCl ||| (1#16 <<< f.1.val) } } else s

/-! ## Phases (18 R483 to R497) -/

/-- The boot moves to a phase. -/
def toPhase (n : Nat) (s : State) : State := { s with boot := { s.boot with phase := n } }

/-- The boot ends with a result, which the sideband reports (18 R495, R497, 13 R390). -/
def endBoot (result : BitVec 2) (reason place ms : Nat) (s : State) : State :=
  State.sendMctp true (.pldmEvent eventBoot result.toNat) { s with boot := { s.boot with
      done := true, running := false, result := result, reason := reason, place := place, ms := ms, endClk := s.clk } }

/-- Phase 0x1: every rail is in regulation, PWR_GOOD rises. -/
def endPhase1 (s : State) : State :=
  let s := { s with pins := { s.pins with rails := [.auxiliary, .memory, .serdes, .compute], pwrGood := true } }
  toPhase 2 { s with boot := { s.boot with running := s.pins.resetN, waitResetN := !s.pins.resetN } }

/-- Phase 0x2: the fuses are read, the security core runs (18 R495). -/
def endPhase2 (f : BootFindings) (s : State) : State :=
  if f.fusesUnreadable || !([1, 2, 3].contains s.fuses.variant) then endBoot 3 4 0 f.ms s
  else toPhase 3 { s with sec := { s.sec with udsHidden := true, deviceKeys := true } }

/-- A component that waits for a chip reset runs its new image (17 R482). -/
def Component.load (x : Component) : Component :=
  if x.bank == .awaitingReset && !x.trial then
    { x with prevVersion := x.runVersion, prevSvn := x.runSvn, prevDigest := x.runDigest,
             runVersion := some x.stagedVersion, runSvn := x.stagedSvn, runDigest := some x.stagedDigest, trial := true }
  else x

/-- The security core reads the owner slot: one whose tag does not verify is treated as empty, with a record (19 R522). -/
def readOwnerSlot (f : BootFindings) (s : State) : State :=
  if f.ownerTagBad then logError (atPlace 0x00 0 { cause := 0x1A, sev := sevEvent }) { s with sec := { s.sec with owner := none } }
  else s

/-- Phase 0x3: firmware is verified and loaded, and the owner slot read (18 R495, R496, 19 R522). -/
def endPhase3 (f : BootFindings) (s : State) : State :=
  if f.unverifiable.contains 1 then
    let s := endBoot 3 5 0 f.ms s
    { s with boot := { s.boot with recovery := true } }
  else
    let s := readOwnerSlot f (if f.unverifiable.isEmpty then s else unfit 5 0 s)
    toPhase 4 { s with fw := { s.fw with
      components := s.fw.components.mapAll .reset Component.load
      procs := (List.range 19).foldl (fun (t : Table Proc) m => t.update .reset m fun x => { x with lastKick := s.clk })
        s.fw.procs } }

/-- The DRAM row entries of the repair record redirect their rows again, entry by entry (18 R488, 08 R216). -/
def redirectRows (s : State) : State :=
  (s.fuses.repair.filter fun r => r.crcOk && r.kind == 1).foldl
    (fun s r => s.setStack r.unit ((s.stack r.unit).redirect r.index r.row)) s

/-- Phase 0x4: the repair map, then the broadcasts (18 R488, R492). -/
def endPhase4 (f : BootFindings) (s : State) : State :=
  let s := crowded (badEntries (redirectRows { s with fuses := s.fuses.formMap }))
  let s := f.failedCores.foldl (if s.boot.skim then dropCore else retireCore f.retireFails) s
  toPhase (if s.boot.skim then 6 else 5) s

/-- Lane groups that the tests find failed are marked (18 R487, 08 R212). -/
def markLanes (f : BootFindings) (s : State) : State :=
  f.failedLaneGroups.foldl (fun s g => failLaneGroup g.1.val g.2.1.val g.2.2.val s) s

/-- Phase 0x5: tests (18 R490, R495). -/
def endPhase5 (f : BootFindings) (s : State) : State :=
  let s := f.failedCores.foldl (retireCore f.retireFails) s
  let s := match f.rowsOutOfSpares with | some k => unfit 2 k.val s | none => s
  let s := match f.channelBad with | some k => unfit 3 k.val s | none => s
  toPhase 6 (markLanes f s)

/-- Bytes of a frame (08 R222). -/
abbrev frameBytes : Nat := 0x40000000

/-- Phase 0x6: the stores are zeroed; DRAM too in a full render boot, the frames of confidential contexts in a skim boot
(18 Phases, 14 R395). -/
def endPhase6 (s : State) : State :=
  let frames := s.boot.confFrames
  let goes (a : Nat) : Bool := !s.boot.skim || decide (dramEnd ≤ a) || frames.contains (a / frameBytes)
  toPhase 7 { s with
    mem := s.mem.drop goes
    poison := s.poison.drop fun w => goes (8 * w)
    latent := s.latent.drop fun w => goes (8 * w)
    boot := { s.boot with confFrames := [] } }

/-- Reset generations and the boot nonce are drawn (11 R307, 14 R399). -/
def drawSecrets (s : State) : State :=
  let n := s.sec.nonceDraws
  { s with
    ctxs := allCtxs.foldl (fun t k => t.update .reset k.val fun c => { c with gen := Config.resetGeneration n k.val }) s.ctxs
    sec := { s.sec with ownNonce := Config.bootNonce n, nonceDraws := n + 1 } }

/-- The protection set-up is written and locked (19 R506); what the manual does not give of it is free (DESIGN CHOICE, log entry 37). -/
def writeProtection (s : State) : State :=
  let v := s.choose
  let d := v.2.choose
  let a := d.2.draw
  let b := a.2.draw
  { b.2 with
    ethFm := v.1
    ethFma0 := a.1
    ethFma1 := b.1
    own := .empty
    sec := { b.2.sec with dbgEn := d.1, locked := true } }

/-- A component confirmed by the end of its boot (17 R482). -/
def Component.confirm (x : Component) : Component := if x.trial then { x with bank := .running, trial := false } else x

/-- Phase 0x7: set-up, secrets, fitness, report; a skim boot starts the hold of R401, and the ports have their time to train from
here (14 R403, 11 R306). -/
def endPhase7 (f : BootFindings) (s : State) : State :=
  let s := drawSecrets (writeProtection s)
  let s := { s with
    fw := { s.fw with components := s.fw.components.mapAll .reset Component.confirm }
    fuses := { s.fuses with boots := if s.boot.skim then s.fuses.boots else s.fuses.boots + 1 }
    boot := { s.boot with fullDone := true }
    bst := { s.bst with
      engDue := s.clk + Bst.reset.engDue, vecDue := s.clk + Bst.reset.vecDue, stkDue := s.clk + Bst.reset.stkDue }
    rst := { s.rst with remoteHold := if s.boot.skim then some s.clk else none }
    ports := (List.range 16).foldl (fun t p => t.update .reset p fun x => { x with trainClk := s.clk }) s.ports }
  endBoot (if s.boot.unfitReason = 0 then 1 else 2) s.boot.unfitReason s.boot.unfitPlace f.ms s

/-- BOOT_PHASE_DONE: the phase in progress ends, with what its tests found. -/
def execBootPhaseDone (f : BootFindings) (s : State) : Answer :=
  if !powered s || !s.boot.running || s.boot.stopped || s.boot.done then .next s
  else
    match s.boot.phase with
    | 1 => .next (endPhase1 s)
    | 2 => .next (if s.boot.pllLocked then endPhase2 f s else s)
    | 3 => .next (endPhase3 f s)
    | 4 => .next (endPhase4 f s)
    | 5 => .next (endPhase5 f s)
    | 6 => .next (endPhase6 s)
    | _ => .next (endPhase7 f s)

/-- BOOT_STAT (18 R497). -/
def bootWord (s : State) : Word :=
  flagAt 0 s.boot.done ||| flagAt 1 s.boot.skim ||| putAt 2 s.boot.result.toNat ||| putAt 4 s.boot.phase
    ||| putAt 8 s.boot.reason ||| putAt 16 s.boot.place ||| putAt 32 s.boot.ms

end Sys2Proof.Machine
end

