-- ==== Sys2Proof/Machine/Commands.lean ====
section
/-! DEFINITION. The commands that the front end runs itself: NOP, WAIT, SIGNAL, LAUNCH and COLAUNCH, the image
commands, and the timeout of a command (10 R275 to R292). -/

namespace Sys2Proof.Machine

/-! ## NOP, WAIT, SIGNAL (R275, R277) -/

/-- The NOP command; a reserved opcode fails check 1 at offset 0 (R272). -/
def nopBody (q : SqId) (bs : Bytes) (s : State) : State :=
  settleCmd q s do
    fieldCheck bs ((0, byteAt bs 0 != 0) :: mustBeZero bs 16 48)
    pure (complete q { status := stSuccess } s)

/-- COMMAND_NOP: NOP, and the opcodes that R272 reserves. -/
def execCommandNop (sq : SqId) (hostBytes : Bytes) (s : State) : Answer :=
  runCmd sq hostBytes (fun o => o == 0 || decide (o ≥ 9)) (fun _ bs s => nopBody sq bs s) s

/-- The core that a queue of a direct context is bound to, die-level (R269, R270). -/
def boundCoreOf (s : State) (q : SqId) : CoreId :=
  let x := s.sq q.val
  Fin.ofNat 256 (16 * (s.ctx x.context.val).first + x.boundCore)

/-- The arrival port of WAIT and SIGNAL: the front end's, or the bound core's in direct mode (R269, 09 R246). -/
def commandRank (s : State) (q : SqId) (n : SemId) : Nat :=
  if (s.ctx (s.sq q.val).context.val).direct then coreRank n (boundCoreOf s q) false else farRank n rankFrontEnd

/-- The fields of WAIT and SIGNAL: a semaphore name and a number, all ones reserved. -/
def semFields (s : State) (k : CtxId) (bs : Bytes) : List (Nat × Bool) :=
  [(16, (frontSem s k (BitVec.ofNat 64 (leAt bs 16 8))).isNone), (24, allOnes64 (leAt bs 24 8))] ++ mustBeZero bs 32 32

/-- WAIT: its operation goes to the semaphore; a target of 0 completes at once. -/
def waitBody (q : SqId) (k : CtxId) (bs : Bytes) (s : State) : State :=
  settleCmd q s do
    fieldCheck bs (semFields s k bs)
    let name := BitVec.ofNat 64 (leAt bs 16 8)
    let target := BitVec.ofNat 64 (leAt bs 24 8)
    match frontSem s k name with
    | none => invalidAt 16
    | some n =>
      if target = 0 then pure (complete q { status := stSuccess } s)
      else pure (arrive n (.wait (commandRank s q n) (.queue q) .waitAcq name target 0) (setWork q (.waitSem n name target) s))

/-- WAIT (R277). -/
def execWaitCmd (sq : SqId) (hostBytes : Bytes) (s : State) : Answer :=
  runCmd sq hostBytes (fun o => o == 3) (waitBody sq) s

/-- SIGNAL: an add; its release holds already, since the queue's earlier commands are complete. -/
def signalBody (q : SqId) (k : CtxId) (bs : Bytes) (s : State) : State :=
  settleCmd q s do
    fieldCheck bs (semFields s k bs)
    let name := BitVec.ofNat 64 (leAt bs 16 8)
    let value := BitVec.ofNat 64 (leAt bs 24 8)
    match frontSem s k name with
    | none => invalidAt 16
    | some n =>
      let s := if value = 0 then s else arrive n (.add (commandRank s q n) k name value) s
      pure (complete q { status := stSuccess } s)

/-- SIGNAL (R277). -/
def execSignalCmd (sq : SqId) (hostBytes : Bytes) (s : State) : Answer :=
  runCmd sq hostBytes (fun o => o == 4) (signalBody sq) s

/-! ## LAUNCH (R278, R279) -/

/-- A branch of the generation `g`. -/
def branchOf (index image : Nat) (g : Gen) (entryOff args : Nat) (cores : List CoreId) (weight : Nat) : Branch :=
  ⟨index, image, g.num, BitVec.ofNat 48 (g.textBase + entryOff), BitVec.ofNat 48 g.textBase, g.textLen,
   BitVec.ofNat 64 args, cores, weight, false⟩

/-- A launch that has passed its checks pins its generations and waits for its cores (R278, R288). -/
def beginLaunch (q : SqId) (k : CtxId) (branches : List Branch) (chipIndex startAt : Nat) (isCo : Bool) (s : State) : State :=
  let p := s.stamp
  let s := branches.foldl (fun s b => pinGen k b.image b.gen s) p.2
  let s := setWork q (.launch ⟨branches, chipIndex, BitVec.ofNat 64 startAt, p.1, false, false, isCo⟩) s
  let x := s.sq q.val
  s.setSq q.val { x with cmd := x.cmd.map fun r => { r with pins := branches.map fun b => (b.image, b.gen) } }

/-- The cores of the context's partition (R270). -/
def partitionCores (c : Ctx) : List CoreId := allCores.filter fun i => c.hasCluster (i.val / 16)

/-- The weight of a plain launch (R284). -/
abbrev plainWeight : Nat := 16

/-- LAUNCH: its checks in the order of R273. -/
def launchBody (q : SqId) (k : CtxId) (bs : Bytes) (s : State) : State :=
  settleCmd q s do
    let image := leAt bs 16 2
    let entryOff := leAt bs 24 8
    let startAt := leAt bs 40 8
    fieldCheck bs ([(16, badImage image), (18, badChipIndex (leAt bs 18 2)), (20, badGen (leAt bs 20 4)),
      (24, entryOff % 8 != 0)] ++ mustBeZero bs 48 16)
    let g ← findGen s k image (leAt bs 20 4)
    plumbCheck s startAt
    if entryOff ≥ g.textLen then invalidAt 24
    else
      let c := s.ctx k.val
      let cores := if c.direct then [boundCoreOf s q] else partitionCores c
      pure (beginLaunch q k [branchOf 0 image g entryOff (leAt bs 32 8) cores plainWeight] (leAt bs 18 2) startAt false s)

/-- LAUNCH (R278). -/
def execLaunch (sq : SqId) (hostBytes : Bytes) (s : State) : Answer :=
  runCmd sq hostBytes (fun o => o == 1) (launchBody sq) s

/-! ## COLAUNCH (R282, R283) -/

/-- Where a failure in entry `i` of a branch table lies (R282). -/
def inBranch {α : Type} (i : Nat) : Check α → Check α
  | .ok a => .ok a
  | .error f => .error { f with info := (i + 1) * 2 ^ 40 + f.info }

/-- The mask of a branch table entry. -/
def branchMask (e : Bytes) : Nat := leAt e 32 32

/-- The cores that a mask names (R21, R282). -/
def maskCores (c : Ctx) (mask : Nat) : List CoreId :=
  ((List.range 256).filter mask.testBit).map fun i => Fin.ofNat 256 (16 * c.first + i)

/-- Check 1 of entry `i` of a branch table (R282). -/
def branchFields (c : Ctx) (entries : List Bytes) (i : Nat) : Check Unit :=
  let e := entries.getD i []
  let mask := branchMask e
  let meets := (entries.take i).any fun b => branchMask b &&& mask != 0
  match firstBad ([(0, badImage (leAt e 0 2)), (2, byteAt e 2 == 0), (4, badGen (leAt e 4 4)), (8, leAt e 8 8 % 8 != 0),
      (32, mask == 0 || decide (mask ≥ 2 ^ (16 * c.clusters)) || meets)] ++ mustBeZero e 3 1 ++ mustBeZero e 24 8) with
  | some o => inBranch i (invalidAt o)
  | none => .ok ()

/-- The entries of a branch table. -/
def branchEntries (n : Nat) (table : Bytes) : List Bytes := (List.range n).map fun i => (table.drop (64 * i)).take 64

/-- Check 3 of a branch: its entry lies in the text. -/
def branchEntry (e : Bytes) (i : Nat) (g : Gen) : Check Unit :=
  if leAt e 8 8 ≥ g.textLen then inBranch i (invalidAt 8) else .ok ()

/-- COLAUNCH: its checks in the order of R273, the table read ahead where it can be reached. -/
def colaunchBody (q : SqId) (k : CtxId) (bs : Bytes) (s : State) : State :=
  let n := leAt bs 16 2
  let s := touchAhead k (leAt bs 20 2) (leAt bs 24 8) (64 * n) (touchDescs k [20] bs s)
  settleCmd q s do
    let c := s.ctx k.val
    let startAt := leAt bs 40 8
    fieldCheck bs ([(16, decide (n > 16)), (18, badChipIndex (leAt bs 18 2)), (24, leAt bs 24 8 % 64 != 0)]
      ++ mustBeZero bs 22 2 ++ mustBeZero bs 32 8 ++ mustBeZero bs 48 16)
    if n = 0 then return complete q { status := stSuccess } s
    let table ← match ahead s k (leAt bs 20 2) (leAt bs 24 8) (64 * n) with
      | some a => peek s k a (64 * n) 24
      | none => pure none
    let entries := branchEntries n (table.getD [])
    if table.isSome then (List.range n).forM (branchFields c entries)
    if c.direct then stateError rsMode
    let gens ← if table.isSome then
        (List.range n).mapM fun i =>
          let e := entries.getD i []
          inBranch i (findGen s k (leAt e 0 2) (leAt e 4 4))
      else pure []
    plumbCheck s startAt
    let b ← bufDesc s k (leAt bs 20 2) 20 false true
    extentCheck b (leAt bs 24 8) (64 * n) 24
    (gens.zip entries).zipIdx.forM fun p => branchEntry p.1.2 p.2 p.1.1
    let _ ← pagesCheck s k (b.base + leAt bs 24 8) (64 * n) needRead false .empty
    let branches := (gens.zip entries).zipIdx.map fun p =>
      let e := p.1.2
      branchOf p.2 (leAt e 0 2) p.1.1 (leAt e 8 8) (leAt e 16 8) (maskCores c (branchMask e)) (byteAt e 2).toNat
    pure (beginLaunch q k branches (leAt bs 18 2) startAt true s)

/-- COLAUNCH (R282). -/
def execColaunch (sq : SqId) (hostBytes : Bytes) (s : State) : Answer :=
  runCmd sq hostBytes (fun o => o == 2) (colaunchBody sq) s

/-! ## Image commands (R285 to R288) -/

/-- The bytes of the image that a readable sound header at `off` announces; 64 where there is none. -/
def announced (s : State) (k : CtxId) (buf off : Nat) : Nat :=
  match ahead s k buf off 64 with
  | some a => match peek s k a 64 24 with
    | .ok (some h) => if badHeader h then 64 else imageBytes (leAt h 8 8) (leAt h 48 4)
    | _ => 64
  | none => 64

/-- IMAGE_LOAD: generation 1 of a new image ID (R285, R286). The header is judged in check 1 where it can be
reached, the digest in check 3. -/
def imageLoadBody (q : SqId) (k : CtxId) (bs : Bytes) (s : State) : State :=
  let image := leAt bs 16 2
  let buf := leAt bs 18 2
  let off := leAt bs 24 8
  let s := touchAhead k buf off 64 (touchDescs k [18] bs s)
  let s := touchAhead k buf off (announced s k buf off) s
  settleCmd q s do
    let header ← match ahead s k buf off 64 with
      | some a => peek s k a 64 24
      | none => pure none
    let h := header.getD []
    fieldCheck bs ([(16, badImage image), (24, off % 64 != 0 || (header.isSome && badHeader h))]
      ++ mustBeZero bs 20 4 ++ mustBeZero bs 32 32)
    if !(s.image k image).gens.isEmpty then stateError rsInUse
    let b ← bufDesc s k buf 18 false true
    extentCheck b off 64 24
    let a := b.base + off
    let textLen := leAt h 8 8
    let count := leAt h 48 4
    let total := imageBytes textLen count
    if header.isNone then
      let _ ← pagesCheck s k a 64 needRead false .empty
      invalidAt 24
    extentCheck b off total 24
    let body ← peek s k a total 24
    match body with
    | some i => if imageDigest i textLen count != (h.drop 16).take 32 then invalidAt 24
    | none => pure ()
    let t ← imagePages s k a textLen count
    let s := s.setImage k image ⟨[newGen t 1 a textLen count ((h.drop 16).take 32)], 1⟩
    pure (complete q { status := stSuccess, gen := 1 } s)

/-- IMAGE_LOAD (R285). -/
def execImageLoad (sq : SqId) (hostBytes : Bytes) (s : State) : Answer :=
  runCmd sq hostBytes (fun o => o == 6) (imageLoadBody sq) s

/-- The patch entries of a list: text offset and word (R287). -/
def patchEntries (n : Nat) (list : Bytes) : List (Nat × Nat) :=
  (List.range n).map fun i => (leAt list (16 * i) 8, leAt list (16 * i + 8) 8)

/-- An image with its patches applied in order, and its digest set (R287). -/
def patched (image : Bytes) (es : List (Nat × Nat)) (textLen count : Nat) : Bytes :=
  let bs := es.foldl (fun bs e => putLe bs (64 + e.1) 8 e.2) image
  bs.take 16 ++ imageDigest bs textLen count ++ bs.drop 48

/-- The generations of an image after an in-place patch of `g`: the old number is gone, the new one is the newest
(R287). -/
def replaceGen (gens : List Gen) (g new : Gen) : List Gen := (gens.filter fun x => x.num != g.num) ++ [new]

/-- The field checks of IMAGE_PATCH (R275, R287). -/
def patchFields (bs : Bytes) : List (Nat × Bool) :=
  let inPlace := (byteAt bs 36).getLsbD 0
  [(16, badImage (leAt bs 16 2)), (20, badGen (leAt bs 20 4)), (24, leAt bs 24 8 % 16 != 0),
    (32, leAt bs 32 4 == 0xFFFFFFFF), (36, (byteAt bs 36).toNat / 2 != 0), (48, !inPlace && leAt bs 48 8 % 64 != 0)]
    ++ mustBeZero bs 37 3 ++ mustBeZero bs 42 6 ++ mustBeZero bs 56 8

/-- The destination of a patch: in place, the generation's own; else the extent at dbuf and doff (R287). -/
def patchTarget (s : State) (k : CtxId) (bs : Bytes) (g : Gen) : Check Nat :=
  if (byteAt bs 36).getLsbD 0 then pure g.header
  else do
    let d ← bufDesc s k (leAt bs 40 2) 40 true true
    extentCheck d (leAt bs 48 8) g.extent 48
    pure (d.base + leAt bs 48 8)

/-- IMAGE_PATCH (R287). -/
def imagePatchBody (q : SqId) (k : CtxId) (bs : Bytes) (s : State) : State :=
  let image := leAt bs 16 2
  let pbuf := leAt bs 18 2
  let poff := leAt bs 24 8
  let n := leAt bs 32 4
  let inPlace := (byteAt bs 36).getLsbD 0
  let s := touchAhead k pbuf poff (16 * n) (touchDescs k [18, 40] bs s)
  let s := match findGen s k image (leAt bs 20 4) with
    | .ok g => if n = 0 then s else s.touchVia g.map g.header g.extent
    | .error _ => s
  settleCmd q s do
    fieldCheck bs (patchFields bs)
    if n = 0 then return complete q { status := stSuccess } s
    let g ← findGen s k image (leAt bs 20 4)
    if inPlace && g.pins != 0 then stateError rsPinned
    let p ← bufDesc s k pbuf 18 false true
    extentCheck p poff (16 * n) 24
    let list ← peek s k (p.base + poff) (16 * n) 24
    let es := patchEntries n (list.getD [])
    if list.isSome && es.any (fun e => e.1 % 8 != 0 || decide (e.1 ≥ g.textLen)) then invalidAt 24
    let a ← patchTarget s k bs g
    if s.poisonedVia g.map g.header g.extent then .error { status := stPoisoned, info := 16 }
    let _ ← pagesCheck s k (p.base + poff) (16 * n) needRead false .empty
    let t ← if inPlace then pure g.map else imagePages s k a g.textLen g.tslCount
    let x := s.image k image
    let num ← nextGen x (!inPlace)
    let new := patched (s.bytesVia g.map g.header g.extent) es g.textLen g.tslCount
    let s := s.writeImage t a new fun _ => false
    let made := if inPlace then { g with num := num, digest := (new.drop 16).take 32 }
      else newGen t num a g.textLen g.tslCount ((new.drop 16).take 32)
    let s := s.setImage k image ⟨if inPlace then replaceGen x.gens g made else x.gens ++ [made], num⟩
    pure (complete q { status := stSuccess, gen := num } s)

/-- IMAGE_PATCH (R287). -/
def execImagePatch (sq : SqId) (hostBytes : Bytes) (s : State) : Answer :=
  runCmd sq hostBytes (fun o => o == 7) (imagePatchBody sq) s

/-- The highest of the numbers of generations. -/
def highestNum (gs : List Gen) : Nat := gs.foldl (fun m g => max m g.num) 0

/-- IMAGE_RETIRE (R286, R287). -/
def imageRetireBody (q : SqId) (k : CtxId) (bs : Bytes) (s : State) : State :=
  settleCmd q s do
    let image := leAt bs 16 2
    let num := leAt bs 20 4
    fieldCheck bs ([(16, badImage image), (20, badGen num)] ++ mustBeZero bs 18 2 ++ mustBeZero bs 24 40)
    let x := s.image k image
    let gone := if num = 0 then x.gens else x.gens.filter fun g => g.num == num
    if gone.isEmpty then stateError rsMissing
    if gone.any fun g => g.pins != 0 then stateError rsPinned
    let kept := x.gens.filter fun g => !gone.contains g
    let s := s.setImage k image (if kept.isEmpty then .none else { x with gens := kept })
    pure (complete q { status := stSuccess, gen := highestNum gone } s)

/-- IMAGE_RETIRE (R287). -/
def execImageRetire (sq : SqId) (hostBytes : Bytes) (s : State) : Answer :=
  runCmd sq hostBytes (fun o => o == 8) (imageRetireBody sq) s

/-! ## The timeout of a command (R292) -/

/-- The work of a command has not ended. -/
def CmdRun.unfinished (r : CmdRun) : Bool := match r.work with
  | .completing => false
  | _ => true

/-- A TIMEOUT record (15 R447). -/
def timeoutRecord (q : SqId) (k : CtxId) (tag : Word) (s : State) : State :=
  logError { atPlace 0x0A q.val { cause := 0x15, sev := sevEvent, info0 := q.val, info1 := tag.toNat } with names := some k } s

/-- QUEUE_TIMEOUT: the context takes no further work, the command's entry says TIMEOUT, a record is written, the
queue is HUNG. -/
def execQueueTimeout (sq : SqId) (s : State) : Answer :=
  let x := s.sq sq.val
  let k := x.context
  match x.cmd with
  | some r =>
    let live := x.state != .hung && r.unfinished && (s.ctx k.val).resetRun.isNone
    if !live || decide (s.clk < r.startClk + x.timeout) then .next s
    else
      let s := s.setCtx k.val { s.ctx k.val with hung := true }
      let s := dropWaits (.queue sq) (cutShort sq stTimeout s)
      let s := timeoutRecord sq k r.tag s
      .next (s.setSq sq.val { s.sq sq.val with state := .hung, lastErr := BitVec.ofNat 8 stTimeout })
  | none => .next s

end Sys2Proof.Machine
end

