-- ==== Sys2Proof/Machine/Control.lean ====
section
/-! DEFINITION. C class but END: branches, jumps, and words that cannot issue (06 Control, 07 R180, R195 to R198). -/

namespace Sys2Proof.Machine

/-- The target of a branch at `pc`: an unbounded integer (06 R148, 07 R175). -/
def branchTarget (pc : Addr) (off : BitVec 32) : Int := (pc.toNat : Int) + 8 * off.toInt

/-- Control goes to an unbounded target, or the jump takes ADDRESS with detail 0x06 (06 R148). -/
def jumpTo (c : CoreId) (target : Int) (s : State) : Effect :=
  if target < 0 ∨ target ≥ 2 ^ 48 then
    .trap { cause := causeAddress, detail := 0x06, addr := (BitVec.ofInt 48 target).toNat } s
  else .done (s.setCore c.val { s.core c.val with pc := BitVec.ofInt 48 target })

/-- NOP. -/
def execNop (c : CoreId) (s : State) : Answer := issueCore (.nop c) c s id

/-- J. -/
def execJ (c : CoreId) (off : BitVec 32) (s : State) : Answer :=
  issue (.j c off) c s fun v s => jumpTo c (branchTarget v.pc off) s

/-- JAL: the return address goes to gd. -/
def execJal (c : CoreId) (gd : GReg) (off : BitVec 32) (s : State) : Answer :=
  issue (.jal c gd off) c s fun v s =>
    match jumpTo c (branchTarget v.pc off) s with
    | .done s => .done (s.setCore c.val ((s.core c.val).gwrite gd ((v.pc + 8).setWidth 64)))
    | .trap t s => .trap t s

/-- JR: alignment is checked before the range (06 Control). -/
def execJr (c : CoreId) (gs : GReg) (s : State) : Answer :=
  issue (.jr c gs) c s fun v s =>
    let a := v.gread gs
    if a.toNat % 8 ≠ 0 then .trap { cause := causeAddress, detail := 0x01, addr := a.toNat } s
    else jumpTo c a.toNat s

/-- A conditional branch on two `g` registers. -/
def branchIf (i : Instr) (c : CoreId) (gs gt : GReg) (off : BitVec 32) (p : Word → Word → Bool) (s : State) : Answer :=
  issue i c s fun v s =>
    if p (v.gread gs) (v.gread gt) then jumpTo c (branchTarget v.pc off) s else .done s

/-- BEQ. -/
def execBeq (c : CoreId) (gs gt : GReg) (off : BitVec 32) (s : State) : Answer :=
  branchIf (.beq c gs gt off) c gs gt off (fun a b => a == b) s
/-- BNE. -/
def execBne (c : CoreId) (gs gt : GReg) (off : BitVec 32) (s : State) : Answer :=
  branchIf (.bne c gs gt off) c gs gt off (fun a b => a != b) s
/-- BLT, signed. -/
def execBlt (c : CoreId) (gs gt : GReg) (off : BitVec 32) (s : State) : Answer :=
  branchIf (.blt c gs gt off) c gs gt off (fun a b => a.slt b) s
/-- BGE, signed. -/
def execBge (c : CoreId) (gs gt : GReg) (off : BitVec 32) (s : State) : Answer :=
  branchIf (.bge c gs gt off) c gs gt off (fun a b => b.sle a) s
/-- BLTU. -/
def execBltu (c : CoreId) (gs gt : GReg) (off : BitVec 32) (s : State) : Answer :=
  branchIf (.bltu c gs gt off) c gs gt off (fun a b => a.ult b) s
/-- BGEU. -/
def execBgeu (c : CoreId) (gs gt : GReg) (off : BitVec 32) (s : State) : Answer :=
  branchIf (.bgeu c gs gt off) c gs gt off (fun a b => b.ule a) s

/-- A word that reaches issue and does not decode raises ILLEGAL_INSTR (07 R195, R196); a word that decodes is not
this event, and nothing happens. -/
def execIllegalInstr (c : CoreId) (w : BitVec 64) (s : State) : Answer :=
  let v := s.core c.val
  if !s.coreIssues c then .next s
  else match s.fetchFault c, decodeFz c w.toNat with
    | some t, _ => .next (takeFault c t v.pc 0 s)
    | none, .error d => .next (takeFault c { cause := causeIllegalInstr, detail := d } v.pc w s)
    | none, .ok _ => .next s

/-- The fetch of the word at a pc has met the errors latent there. -/
def touchFetch (k : CtxId) (pc : Addr) (s : State) : State :=
  match walk s k pc.toNat { x := true } with
  | .ok pa => s.touch pa 8
  | .error _ => s

/-- A poisoned instruction word reaches issue: POISON of the fetch, SEQ_FLT3 zero (07 R198). -/
def execFetchPoison (c : CoreId) (s : State) : Answer :=
  let v := s.core c.val
  if !s.coreIssues c then .next s
  else match s.fetchFault c with
    | some t => .next (takeFault c t v.pc 0 s)
    | none => .next (takeFault c { cause := causePoison, unit := unitFetch, addr := v.pc.toNat } v.pc 0
        (touchFetch v.context v.pc (s.setCore c.val (v.sawPoison true))))

end Sys2Proof.Machine
end

