-- ==== Sys2Proof/Machine/Mover.lean ====
section
/-! DEFINITION. D class: the data mover, the near-memory reduce and the weight fingerprint on this die, and the
issue of operations to other chips (06 R159 to R162, 07 R189, 08 R228 to R232). -/

namespace Sys2Proof.Machine

/-! ## Issue checks (06 R152, R159) -/

/-- tS and tD describe the same elements. -/
def sameTile (a b : TileDesc) : Except Trap Unit :=
  if a.fmt ≠ b.fmt then .error { cause := causeIllegalOperand, detail := 0x01 }
  else if a.rows ≠ b.rows ∨ a.cols ≠ b.cols then .error { cause := causeIllegalOperand, detail := 0x02 }
  else .ok ()

/-- Formats that a reduction takes (06 R159). -/
def reduceFormat : Fmt → Bool
  | .fp32 | .bf16 | .fp16 | .int32 => true
  | _ => false

/-- The checks of a reduction (06 R159). -/
def reduceChecks (fmt : Fmt) (d : TileDesc) : Except Trap Unit :=
  if fmt ≠ d.fmt then .error { cause := causeIllegalOperand, detail := 0x01 }
  else if !reduceFormat fmt then .error { cause := causeIllegalOperand, detail := 0x0A }
  else if placeOf d.base.toNat ≠ .dram then .error { cause := causeAddress, detail := 0x03, addr := d.base.toNat }
  else .ok ()

/-- Two runs share a byte. -/
def runsMeet (a b : Nat × Nat) : Bool := decide (a.1 < b.1 + b.2) && decide (b.1 < a.1 + a.2)

/-- No byte lies in both extents (06 R159). -/
def apart (a b : TileDesc) : Except Trap Unit :=
  if a.runs.any fun r => b.runs.any (runsMeet r) then .error { cause := causeIllegalOperand, detail := 0x0B } else .ok ()

/-- A semaphore operand; g0 is none. -/
def semOperand (s : State) (c : CoreId) (v : CoreSt) (r : GReg) : Except Trap (Option SemId) :=
  if r = 0 then .ok none
  else match coreSem s c (v.gread r) with
    | .ok n => .ok (some n)
    | .error d => .error { cause := causeAddress, detail := d }

/-- A translation failure of the data mover: imprecise (06 R167). -/
def moverWalk (need : Need) (e : Nat × WalkFault) : Trap := { walkTrap e.1 e.2 need with unit := unitMover, prec := 2 }

/-- The pages of a tile, added to `t`; a tile in a store has none. -/
def mapTile (s : State) (k : CtxId) (d : TileDesc) (need : Need) (t : Table Nat) : Except Trap (Table Nat) :=
  if placeOf d.base.toNat ≠ .dram then .ok t
  else d.runs.foldlM (fun t r =>
    match mapExtent s k r.1 r.2 need true t with
    | .ok t => .ok t
    | .error e => .error (moverWalk need e)) t

/-- The checks of DCOPY and DCOPY.RED, in order, and the operation they let in. -/
def localChecks (s : State) (c : CoreId) (v : CoreSt) (tD tS : TReg) (gsem : GReg) (red : Option Fmt) :
    Except Trap MoverOp := do
  let src ← tileOperand v tS
  tileInOnePlace s v src
  let dst ← tileOperand v tD
  tileInOnePlace s v dst
  sameTile src dst
  match red with
    | some f => reduceChecks f dst
    | none => .ok ()
  apart src dst
  let n ← semOperand s c v gsem
  let pages ← mapTile s v.context src { r := true } .empty
  let pages ← mapTile s v.context dst { r := red.isSome, w := true } pages
  .ok ⟨v.moverNext, match red with | some f => .reduce f | none => .copy, src, dst, pages, n, v.pc, 0, s.mem, s.poison, false⟩

/-- Bytes of a digest. -/
abbrev digestBytes : Nat := 32

/-- The checks of DHASH: tS in the DRAM of this die, then gd (06 R159). -/
def hashChecks (s : State) (c : CoreId) (v : CoreSt) (gd : GReg) (tS : TReg) (gsem : GReg) : Except Trap MoverOp := do
  let src ← tileOperand v tS
  tileInOnePlace s v src
  if placeOf src.base.toNat ≠ .dram then
    .error { cause := causeAddress, detail := 0x03, addr := src.base.toNat }
  let a := (v.gread gd).toNat
  if a % digestBytes ≠ 0 then .error { cause := causeAddress, detail := 0x01, addr := a }
  match placeOf a with
    | .dram => .ok ()
    | _ => match reach s v a { w := true } with
      | .ok _ => .ok ()
      | .error t => .error t
  let n ← semOperand s c v gsem
  let pages ← mapTile s v.context src { r := true } .empty
  let pages ← if placeOf a ≠ .dram then .ok pages
    else match mapExtent s v.context a digestBytes { w := true } true pages with
      | .ok t => .ok t
      | .error e => .error (moverWalk { w := true } e)
  .ok ⟨v.moverNext, .hash (BitVec.ofNat 48 a), src, .nothing, pages, n, v.pc, 0, s.mem, s.poison, false⟩

/-- The gdsem of a .R form: g0 is none. A name that breaks the table of R242 faults at issue, as R242 says of data-mover operands, so
none of them leaves as the mark of an operation without a gdsem; what the name reaches is the destination's to judge (09 R242,
R255, 06 R159; DEDUCED, log entry 21). -/
def remoteSemOperand (c : CoreId) (v : CoreSt) (r : GReg) : Except Trap Word :=
  if r = 0 then .ok noSemName
  else if (parseSem (some (clusterOf c)) (v.gread r)).isNone then .error { cause := causeAddress, detail := 0x02 }
  else .ok (v.gread r)

/-- The checks of a .R form, in order, and the operation they let in (06 R159, 12 R342). -/
def remoteTileChecks (s : State) (c : CoreId) (v : CoreSt) (i : Instr) (tD tS : TReg) (gsem gchip gdsem : GReg)
    (red : Option Fmt) : Except Trap RemoteOp := do
  let src ← tileOperand v tS
  tileInOnePlace s v src
  let dst ← tileOperand v tD
  sameTile src dst
  let chip ← chipOperand s (v.gread gchip)
  match red with
    | some f => reduceChecks f dst
    | none => .ok ()
  let n ← semOperand s c v gsem
  let name ← remoteSemOperand c v gdsem
  let j ← remoteChecks s v.context chip unitMover
  let pages ← mapTile s v.context src { r := true } .empty
  .ok { msgId := 0, ctx := v.context, core := c, pc := v.pc, insn := fzWord i
        kind := match red with | some f => .reduce f | none => .copy
        dst := chip, job := s.fab.active.jobId j, gen := 0, src := src, dstDesc := dst, pages := pages, gsem := n
        gdsem := name
        phase := .held, startClk := 0, openClk := 0, resends := .empty, seq := v.moverNext, inPort := false }

/-- Operations that a data mover holds (06 R145). -/
abbrev moverDepth : Nat := 64

/-- Operations that a core's data mover holds, remote ones included. -/
def moverLoad (s : State) (c : CoreId) : Nat :=
  (s.core c.val).mover.length + (s.fab.ops.filter fun o => o.core == c && !(o.kind matches .semAdd _ _)).length

/-- Issue of a D-class instruction: it waits while the mover is full. -/
def issueMover (i : Instr) (c : CoreId) (s : State) (body : CoreSt → State → Effect) : Answer :=
  if moverLoad s c ≥ moverDepth then .next s else issue i c s body

/-- An operation joins the mover of its core. -/
def queueOp (c : CoreId) (o : MoverOp) (s : State) : State :=
  let v := s.core c.val
  s.setCore c.val { v with mover := v.mover ++ [o], moverNext := v.moverNext + 1 }

/-- Issue of an operation on this die. -/
def localOp (i : Instr) (c : CoreId) (check : State → CoreSt → Except Trap MoverOp) (s : State) : Answer :=
  issueMover i c s fun v s =>
    match check s v with
    | .error t => .trap t s
    | .ok o =>       .done (queueOp c { o with insn := fzWord i } s)

/-- Issue of an operation to another chip; a zero extent sends nothing and completes here (06 R152). -/
def remoteOp (i : Instr) (c : CoreId) (tD tS : TReg) (gsem gchip gdsem : GReg) (red : Option Fmt) (s : State) : Answer :=
  issueMover i c s fun v s =>
    match remoteTileChecks s c v i tD tS gsem gchip gdsem red with
    | .error t => .trap t s
    | .ok o =>
      if o.src.isEmpty then .done (queueOp c ⟨v.moverNext, .copy, .nothing, .nothing, .empty, o.gsem, v.pc, o.insn, s.mem, s.poison, false⟩ s)
      else .done (submitOp o (s.setCore c.val { s.core c.val with moverNext := v.moverNext + 1 }))

/-- DCOPY. -/
def execDcopy (c : CoreId) (tD tS : TReg) (gsem : GReg) (s : State) : Answer :=
  localOp (.dcopy c tD tS gsem) c (fun s v => localChecks s c v tD tS gsem none) s
/-- DCOPY.R. -/
def execDcopyR (c : CoreId) (tD tS : TReg) (gsem gchip gdsem : GReg) (s : State) : Answer :=
  remoteOp (.dcopyR c tD tS gsem gchip gdsem) c tD tS gsem gchip gdsem none s
/-- DCOPY.RED. -/
def execDcopyRed (c : CoreId) (tD tS : TReg) (gsem : GReg) (fmt : Fmt) (s : State) : Answer :=
  localOp (.dcopyRed c tD tS gsem fmt) c (fun s v => localChecks s c v tD tS gsem (some fmt)) s
/-- DCOPY.RED.R. -/
def execDcopyRedR (c : CoreId) (tD tS : TReg) (gsem gchip gdsem : GReg) (fmt : Fmt) (s : State) : Answer :=
  remoteOp (.dcopyRedR c tD tS gsem gchip gdsem fmt) c tD tS gsem gchip gdsem (some fmt) s
/-- DHASH. -/
def execDhash (c : CoreId) (gd : GReg) (tS : TReg) (gsem : GReg) (s : State) : Answer :=
  localOp (.dhash c gd tS gsem) c (fun s v => hashChecks s c v gd tS gsem) s

/-! ## What an operation does (06 R160, R162, 08 R228 to R232, 15 R428) -/

/-- Device words of a destination run that receive a byte of a poisoned source word, or of the word `net` that the network
poisons on its way (15 R423, R428). -/
def carried (s : State) (pages : Table Nat) (net : Option Nat) (src dst n : Nat) : List Nat :=
  (List.range n).filterMap fun i =>
    let w := devAddr pages (src + i) / 8
    if s.wordPoisoned w || net == some w then some (devAddr pages (dst + i) / 8) else none

/-- What the network does to a run of a copy, page by page. -/
def networkVia (pages : Table Nat) (a n : Nat) (s : State) : Option Nat × State :=
  (extentPages a n).foldl (fun (p : Option Nat × State) g =>
    let r := pagePart a n g
    let q := networkFault (devAddr pages r.1) r.2.2 p.2
    (if p.1.isSome then p.1 else q.1, q.2)) (none, s)

/-- One run copied, and whether it moved poison. -/
def copyRun (pages : Table Nat) (src dst n : Nat) (s : State) : State × Bool :=
  let p := networkVia pages src n (s.touchVia pages src n)
  let s := p.2
  let bad := carried s pages p.1 src dst n
  (s.writeVia pages dst (s.bytesVia pages src n) fun w => bad.contains w, !bad.isEmpty)

/-- The sum of two elements, rounded once (06 R162, 08 R228). -/
def reduceElem (fmt : Fmt) (a b : Nat) : Nat :=
  match fmt with
  | .int32 => (a + b) % 2 ^ 32
  | .fp16 => (ffp16.convert .nearest false ((ffp16.decode a).add (ffp16.decode b))).code
  | .bf16 => (ffbf16.convert .nearest false ((ffbf16.decode a).add (ffbf16.decode b))).code
  | _ => (round32 ((ffp32.decode a).add (ffp32.decode b))).code

/-- The duplicated adders of a reduce unit differ at one of these device words: it is poisoned and recorded (15 R423, R448;
DESIGN CHOICE, log entry 8, on the record's cause). -/
def reduceUpset (words : List Nat) (s : State) : Option Nat × State :=
  match s.upsets.reduce with
  | none => (none, s)
  | some w =>
    if !words.contains w || bitAt s.bst.intCtl 1 then (none, s)
    else (some w, logError (atPlace 0x07 (stackOf (8 * w)) { cause := 0x09, sev := sevPoisoned, addr := 8 * w })
      { s with upsets := { s.upsets with reduce := none } })

/-- A run of elements at `src`, given as bytes, added into the run at `dst`; `bad` says which source bytes are
poisoned (08 R228, R229). -/
def reduceBytes (fmt : Fmt) (pages : Table Nat) (dst : Nat) (bs : Bytes) (bad : Nat → Bool) (s : State) : State :=
  let u := reduceUpset (wordsVia pages dst bs.length) (s.touchVia pages dst bs.length)
  let s := u.2
  let w := elemBits fmt / 8
  let old := s.bytesVia pages dst bs.length
  let sums := (List.range (bs.length / w)).flatMap fun i => leBytes w (reduceElem fmt (leAt old (w * i) w) (leAt bs (w * i) w))
  let marked := (List.range bs.length).filterMap fun i =>
    let d := devAddr pages (dst + i) / 8
    if bad i || s.wordPoisoned d || u.1 == some d then some d else none
  s.writeVia pages dst sums fun d => marked.contains d

/-- One run reduced, and whether it met poison. -/
def reduceRun (fmt : Fmt) (pages : Table Nat) (src dst n : Nat) (s : State) : State × Bool :=
  let s := s.touchVia pages src n
  let bad := (List.range n).map fun i => s.wordPoisoned (devAddr pages (src + i) / 8)
  let seen := bad.any id || s.poisonedVia pages dst n
  (reduceBytes fmt pages dst (s.bytesVia pages src n) (fun i => bad.getD i false) s, seen)

/-- Bytes of a chunk of a fingerprint (08 R231). -/
abbrev chunkBytes : Nat := 0x100000

/-- A message cut into chunks. -/
def hashChunks : Nat → Bytes → List Bytes
  | 0, _ => []
  | n + 1, bs => if bs.isEmpty then [] else bs.take chunkBytes :: hashChunks n (bs.drop chunkBytes)

/-- The message of a tile (08 R231). -/
def tileMessage (s : State) (pages : Table Nat) (d : TileDesc) : Bytes :=
  d.runs.flatMap fun r => s.bytesVia pages r.1 r.2

/-- The fingerprint of a message of a tile (08 R231). -/
def fingerprint (d : TileDesc) (m : Bytes) : Bytes :=
  let header := leBytes 1 d.fmt.code ++ zeros 1 ++ leBytes 2 d.rows ++ leBytes 2 d.cols ++ zeros 2 ++ leBytes 8 m.length
  sha3_256 (header ++ (hashChunks (m.length / chunkBytes + 1) m).flatMap sha3_256)

/-- The stacks that hold a tile, by granules of 512 bytes (08 R210). -/
def tileStacks (pages : Table Nat) (d : TileDesc) : List Nat :=
  (d.runs.flatMap fun r => (List.range ((r.1 % 512 + r.2 + 511) / 512)).map fun i =>
    stackOf (devAddr pages (max r.1 ((r.1 / 512 + i) * 512)))).dedup

/-- The self-test rotor learns whose tile the Keccak engines of these stacks hashed (15 R438). -/
def noteHash (k : CtxId) (ns : List Nat) (s : State) : State :=
  { s with bst := { s.bst with ranStk := ns.foldl (fun (t : Table (List CtxId)) n =>
      t.update [] n fun ks => if ks.contains k then ks else ks ++ [k]) s.bst.ranStk } }

/-- DHASH's digest, or its poison with a HASH record (08 R231, R232). -/
def hashOp (c : CoreId) (o : MoverOp) (a : Nat) (s : State) : State × Bool :=
  if o.src.isEmpty then (s, false)
  else
    let s := noteHash (s.core c.val).context (tileStacks o.pages o.src) s
    let s := o.src.runs.foldl (fun s r => s.touchVia o.pages r.1 r.2) s
    if o.src.runs.any fun r => s.poisonedVia o.pages r.1 r.2 then
      (logError (atCore s 0x01 c { cause := 0x12, sev := sevPoisoned, addr := a })
        (s.writePoison (devAddr o.pages a) digestBytes), true)
    else (s.writeVia o.pages a (fingerprint o.src (tileMessage s o.pages o.src)) fun _ => false, false)

/-- An operation moves its bytes; the answer says whether it met poison. -/
def moverEffect (c : CoreId) (o : MoverOp) (s : State) : State × Bool :=
  let both (f : Nat → Nat → Nat → State → State × Bool) : State × Bool :=
    (o.src.runs.zip o.dst.runs).foldl (fun p r =>
      let q := f r.1.1 r.2.1 r.1.2 p.1
      (q.1, p.2 || q.2)) (s, false)
  match o.kind with
  | .copy => both (copyRun o.pages)
  | .reduce f => both (reduceRun f o.pages)
  | .hash a => hashOp c o a.toNat s

/-- The mover adds 1 to a semaphore, with release (06 R160). -/
def signal (c : CoreId) (k : CtxId) (n : Option SemId) (s : State) : State :=
  match n with
  | some n => arrive n (.add (coreRank n c true) k (BitVec.ofNat 64 (semNameWord n)) 1) s
  | none => s

/-- The device words that an operation reads, and those that it writes. -/
def MoverOp.readWords (o : MoverOp) : List Nat := (o.src.runs.flatMap fun r => wordsVia o.pages r.1 r.2).dedup
/-- The words that it writes. -/
def MoverOp.writeWords (o : MoverOp) : List Nat :=
  match o.kind with
  | .hash a => if o.src.isEmpty then [] else wordsVia o.pages a.toNat digestBytes
  | _ => (o.dst.runs.flatMap fun r => wordsVia o.pages r.1 r.2).dedup

/-- A device word at the bytes and the poison of other memory. -/
def State.putWord (s : State) (w : Nat) (mem : Memory) (bad : Table Bool) : State :=
  { s with mem := putBytes s.mem (8 * w) ((List.range 8).map fun i => mem.get Memory.unlisted (8 * w + i))
           poison := s.poison.set false w (bad.get false w) }

/-- A device word differs from what it was at the issue of the operation: another access races for it (06 R155). -/
def MoverOp.raced (o : MoverOp) (s : State) (w : Nat) : Bool :=
  ((List.range 8).any fun i => o.before.get Memory.unlisted (8 * w + i) != s.byte (8 * w + i))
    || o.beforePoison.get false w != s.wordPoisoned w

/-- Of some words, those that a free choice, each on its own, picks (06 R155). -/
def pickWords (ws : List Nat) (s : State) : List Nat × State :=
  ws.foldl (fun (p : List Nat × State) w =>
    let q := p.2.choose
    (if q.1 then p.1 ++ [w] else p.1, q.2)) ([], s)

/-- An operation moves its bytes past the accesses that race with it: each raced word that it reads returns the old value or
the new one, each raced word that it writes ends with its value or with the other's (06 R155). -/
def racedEffect (c : CoreId) (o : MoverOp) (s : State) : State × Bool :=
  let old := pickWords (o.readWords.filter (o.raced s)) s
  let kept := pickWords (o.writeWords.filter (o.raced s)) old.2
  let s := kept.2
  let r := moverEffect c o (old.1.foldl (fun s w => s.putWord w o.before o.beforePoison) s)
  let back := (old.1.filter fun w => !o.writeWords.contains w) ++ kept.1
  (back.foldl (fun t w => t.putWord w s.mem s.poison) r.1, r.2)

/-- The destination of an operation written poisoned, in the words given. -/
def poisonWords (ws : List Nat) (s : State) : State := ws.foldl (fun s w => s.writePoison (8 * w) 8) s

/-- An operation's addressing fails its residue check: no access is made, its destination is written poisoned (15 R423; DESIGN
CHOICE, log entry 8, on the record's cause). -/
def addressingFailed (c : CoreId) (o : MoverOp) (s : State) : State :=
  let s := s.setCore c.val { (s.core c.val).sawPoison true with moverUpset := false }
  poisonWords o.writeWords
    (logError (atCore s 0x01 c { cause := 0x0A, sev := sevPoisoned, addr := o.pc.toNat, info0 := 1 }) s)

/-- Words whose requests a hawk queue reset ended, each by a free choice: they are written poisoned (15 R434). -/
def endedRequests (o : MoverOp) (s : State) : State :=
  if o.hurt then let p := pickWords o.writeWords s; poisonWords p.1 p.2 else s

/-- What an operation leaves behind: its own effect, or what a failed check makes of it. -/
def moverOutcome (c : CoreId) (o : MoverOp) (s : State) : State :=
  if (s.core c.val).moverUpset && !bitAt s.bst.intCtl 2 then addressingFailed c o s
  else
    let r := racedEffect c o s
    endedRequests o (r.1.setCore c.val ((r.1.core c.val).sawPoison (r.2 || o.hurt)))

/-- The destination of an operation reaches a text page, mapped before the generation existed: the stack controllers refuse
the write (10 R288). -/
def MoverOp.refused (o : MoverOp) (s : State) : Bool :=
  match o.kind with
  | .hash a => !o.src.isEmpty && s.writeRefused o.pages a.toNat digestBytes
  | _ => o.dst.runs.any fun r => s.writeRefused o.pages r.1 r.2

/-- The trap of a refused operation: TRANSLATION of kind permission, with no byte moved (06 R159, 10 R288). -/
def refusedTrap (o : MoverOp) : Trap :=
  { walkTrap (match o.kind with | .hash a => a.toNat | _ => o.dst.base.toNat) .permission { w := true } with
    unit := unitMover, prec := 2 }

/-- DMOVER_COMPLETE: an operation of the mover moves its bytes and signals (06 R160), or is refused with no byte moved (10
R288). -/
def execDmoverComplete (c : CoreId) (op : Nat) (s : State) : Answer :=
  let v := s.core c.val
  match v.mover.find? fun o => o.id == op with
  | none => .next s
  | some o =>
    let s := s.setCore c.val { v with mover := v.mover.filter fun o => o.id != op }
    if o.refused s then .next (takeFault c (refusedTrap o) o.pc o.insn s)
    else .next (signal c v.context o.gsem (moverOutcome c o s))

end Sys2Proof.Machine
end

