-- ==== Sys2Proof/Machine/CoreState.lean ====
section
/-! DEFINITION. T class: telemetry, level statistics, seeding, and the images of a core's state (02 R59 to R63, 05
R137 to R140, 06 R165, R166, 16 R452 to R454). -/

namespace Sys2Proof.Machine

/-! ## Telemetry (06 R165) -/

/-- NSTAT.SAT. -/
def execNstatSat (c : CoreId) (gd : GReg) (s : State) : Answer := issueCore (.nstatSat c gd) c s fun v => v.gwrite gd v.ntmSat
/-- NSTAT.FLUSH. -/
def execNstatFlush (c : CoreId) (gd : GReg) (s : State) : Answer :=
  issueCore (.nstatFlush c gd) c s fun v => v.gwrite gd v.ntmFlush
/-- NSTAT.NAN. -/
def execNstatNan (c : CoreId) (gd : GReg) (s : State) : Answer := issueCore (.nstatNan c gd) c s fun v => v.gwrite gd v.ntmNan
/-- NSTAT.INF. -/
def execNstatInf (c : CoreId) (gd : GReg) (s : State) : Answer := issueCore (.nstatInf c gd) c s fun v => v.gwrite gd v.ntmInf
/-- NSTAT.STAT. -/
def execNstatStat (c : CoreId) (gd : GReg) (s : State) : Answer :=
  issueCore (.nstatStat c gd) c s fun v => v.gwrite gd v.ntmStat
/-- PTIME. -/
def execPtime (c : CoreId) (gd : GReg) (s : State) : Answer := issueCore (.ptime c gd) c s fun v => v.gwrite gd s.plumb.now
/-- PTIME.V. -/
def execPtimeV (c : CoreId) (gd : GReg) (s : State) : Answer :=
  issueCore (.ptimeV c gd) c s fun v => v.gwrite gd (if s.plumb.valid then 1 else 0)

/-! ## LSTAT (02 R59, R61, R63, 15 R427) -/

/-- The largest integer k for which `a * 2^k` does not exceed `t`, for positive finite values (02 R63). -/
def largestPower (a t : FVal) : Int :=
  match leadExp a, leadExp t with
  | some i, some j => if (a.scale (j - i)).compare t == 1 then j - i - 1 else j - i
  | _, _ => 0

/-- A of R63: the magnitude that the policy picks; `hist` holds the valid entries, `newest` the one just written. -/
def amaxOf (newestOnly : Bool) (hist : List FVal) (newest : FVal) : FVal :=
  if newestOnly then newest.abs
  else match hist.filter fun v => !v.isNan with
    | [] => .nan
    | v :: vs => vs.foldl (fun m v => if v.abs.compare m == 1 then v.abs else m) v.abs

/-- The proposed scale code (02 R63). -/
def proposal (a tmax : FVal) (margin : Nat) : Nat :=
  if !tmax.isFin || tmax.isZero || tmax.neg || !a.isFin then 0xFF
  else if a.isZero then 0x7F
  else (max (-127) (min 127 (largestPower a tmax - margin)) + 127).toNat

/-- A push on the record at `a` (02 R61). Poison in what an entry or the proposal is formed from poisons them (15
R427). -/
def pushRecord (a : Nat) (s : State) : State × Bool :=
  let s := s.touch a 128
  let b := s.bytes a 128
  let word (i : Nat) : Nat := leAt b (4 * i) 4
  let head := (byteAt b 68).toNat % 16
  let filled := min ((byteAt b 69).toNat + 1) 16
  let newestOnly := (byteAt b 71).getLsbD 0
  let entry (j : Nat) : Nat := if j = head then word 16 else word j
  let value (j : Nat) : FVal := ffp32.decode (entry j)
  let used := if newestOnly then [head] else List.range filled
  let badNew := s.poisonedIn (a + 64) 8
  let badA := used.any fun j => if j = head then badNew else s.poisonedIn (a + 4 * j) 4
  let badProp := badNew || badA || s.poisonedIn (a + 72) 8
  let p := proposal (amaxOf newestOnly ((List.range filled).map value) (value head)) (ffp32.decode (word 18))
    ((byteAt b 70).toNat % 8)
  let s := s.write (a + 4 * head) (leBytes 4 (word 16)) fun _ => badNew
  let s := s.writeClean (a + 64) (leBytes 4 0 ++ leBytes 1 ((head + 1) % 16) ++ leBytes 1 filled)
  let s := s.write (a + 76) (leBytes 1 p ++ zeros 3) fun _ => badProp
  (s.writeClean (a + 80) (leBytes 4 (word 20 + 1)), badNew || badProp)

/-- LSTAT: the record is aligned and lies in the core's own local store (02 R59, 06 Telemetry). -/
def execLstat (c : CoreId) (gl : GReg) (s : State) : Answer :=
  issue (.lstat c gl) c s fun v s =>
    let a := (v.gread gl).toNat
    if a % 128 ≠ 0 then .trap { cause := causeAddress, detail := 0x01, addr := a } s
    else if placeOf a ≠ .localStore c.val then .trap { cause := causeAddress, detail := 0x03, addr := a } s
    else
      let r := pushRecord a s
      .done (r.1.setCore c.val (((r.1.core c.val).dropLines a 128).sawPoison r.2))

/-! ## SEED (05 R137, R139) -/

/-- The state that SEED gives a lane. -/
def seedState (job stream : Word) (chipIndex core lane : Nat) : Word :=
  let d := sha3_256 (leBytes 8 job.toNat ++ leBytes 4 chipIndex ++ leBytes 2 core ++ leBytes 2 lane ++ leBytes 8 stream.toNat)
  let x := BitVec.ofNat 64 (leAt d 0 8)
  if x = 0 then 1 else x

/-- The logical chip index of a core's launch. -/
def CoreSt.chipIndex (v : CoreSt) : Nat := match v.launch with | some l => l.chipIndex | none => 0

/-- A core's index in its partition (01 R21). -/
def partIndex (s : State) (c : CoreId) : Nat := c.val - 16 * (s.ctx (s.core c.val).context.val).first

/-- SEED. A lane whose two copies of the seeding hash differ is noted in STP_STAT and recorded; the state is that of the copy
that R137 gives (R141, R143; DESIGN CHOICE, log entry 8). -/
def execSeed (c : CoreId) (gj gs : GReg) (s : State) : Answer :=
  issue (.seed c gj gs) c s fun v s =>
    let f := seedState (v.gread gj) (v.gread gs) v.chipIndex (partIndex s c)
    let s := (stippleUpset c v.pc (List.range 256) s).2
    .done (s.setCore c.val { s.core c.val with stipple := Table.ofFn 256 0 f, seeded := true })

/-! ## Images (16 R452 to R454) -/

/-- Body length of a part (16 R453). -/
def partLength : Part → Nat
  | .scal => 1088
  | .vec => 32768
  | .eng _ => 279744
  | .stp => 2048
  | .ntm => 64

/-- Bytes of a bank in an image. -/
abbrev bankBytes : Nat := 8768
/-- Where the active bank starts in an engine image. -/
abbrev activeAt : Nat := 262208
/-- Where the shadow bank starts. -/
abbrev shadowAt : Nat := 270976
/-- Words of an accumulator file. -/
abbrev accWords : Nat := 32768

/-- A bank's 8,768 bytes. -/
def Bank.image (b : Bank) : Bytes :=
  ((List.range 4096).flatMap fun i => leBytes 2 (b.cells.get 0 i).toNat)
    ++ ((List.range 512).map fun i => b.scales.get 0 i)
    ++ (match b.shape with
      | some x => leBytes 1 x.fmt.code ++ zeros 1 ++ leBytes 2 x.contraction ++ leBytes 1 x.columns
      | none => zeros 1 ++ leBytes 1 1 ++ zeros 3)
    ++ leBytes 1 b.poison.toNat ++ zeros 58

/-- An engine's body. -/
def EngineSt.image (x : EngineSt) : Bytes :=
  ((List.range accWords).flatMap fun i => leBytes 8 (x.acc.get 0 i).toNat)
    ++ ((List.range 8).map fun i => if x.wide.getLsbD i then 1 else 0)
    ++ ((List.range 8).map fun i => if x.tilePoison.getLsbD i then 1 else 0)
    ++ zeros 48 ++ x.active.image ++ x.shadow.image

/-- A core's scalar body. -/
def CoreSt.scalImage (v : CoreSt) : Bytes :=
  ((List.finRange 32).flatMap fun r => leBytes 8 (v.gread r).toNat)
    ++ ((List.finRange 8).flatMap fun r => leBytes 32 (v.pread r).toNat)
    ++ ((List.finRange 16).flatMap fun r => match v.tread r with | some d => d.image | none => zeros 32)
    ++ leBytes 2 (((List.finRange 16).map fun r => if (v.tread r).isSome then 2 ^ r.val else 0).sum)
    ++ zeros 62

/-- The body of a part. -/
def CoreSt.body (v : CoreSt) : Part → Bytes
  | .scal => v.scalImage
  | .vec => (List.range 8192).flatMap fun i => leBytes 4 (v.v.get 0 i).toNat
  | .eng e => (v.engine e).image
  | .stp => (List.range 256).flatMap fun i => leBytes 8 (v.stp i).toNat
  | .ntm => leBytes 8 v.ntmSat.toNat ++ leBytes 8 v.ntmFlush.toNat ++ leBytes 8 v.ntmNan.toNat
      ++ leBytes 8 v.ntmInf.toNat ++ leBytes 8 v.ntmStat.toNat ++ zeros 24

/-- Offsets in a body of the words that hold a poisoned lane or accumulator word (15 R424). -/
def CoreSt.badOffsets (v : CoreSt) : Part → List Nat
  | .vec => v.vPoison.rows.map fun r => r.1 * 4
  | .eng e => (v.engine e).accPoison.rows.map fun r => 8 * r.1
  | _ => []

/-- Bytes of the header of an image. -/
abbrev headerBytes : Nat := 64
/-- The magic of an image. -/
abbrev imageMagic : Nat := 0x49535A46

/-- The header of an image (16 R452). -/
def imageHeader (p : Part) (seeded : Bool) (core : Nat) : Bytes :=
  leBytes 4 imageMagic ++ leBytes 1 p.code ++ leBytes 1 1 ++ leBytes 1 (seeded && p == .stp).toNat ++ zeros 1
    ++ leBytes 8 (partLength p) ++ leBytes 2 core ++ zeros 46

/-- The whole image lies in a store of the partition or in the context's DRAM (06 R166). -/
def imagePlace (s : State) (v : CoreSt) (a n : Nat) : Except Trap Unit :=
  if a % 64 ≠ 0 then .error { cause := causeAddress, detail := 0x01, addr := a }
  else
    let inside := match placeOf a with
      | .dram => Except.ok a
      | _ => reach s v a {}
    match inside with
    | .error t => .error t
    | .ok _ =>
      if a + n > placeEnd a then .error { cause := causeAddress, detail := 0x02, addr := placeEnd a } else .ok ()

/-- A trap of the state unit (06 R167; DEDUCED, log entry 24). -/
def stateTrap (cause detail : Nat) : Trap := { cause := cause, detail := detail, unit := unitState, prec := 1 }

/-- The pages of an image. -/
def mapImage (s : State) (k : CtxId) (a n : Nat) (need : Need) : Except Trap (Table Nat) :=
  if placeOf a ≠ .dram then .ok .empty
  else match mapExtent s k a n need true .empty with
    | .ok t => .ok t
    | .error e => .error { walkTrap e.1 e.2 need with unit := unitState, prec := 1 }

/-- SGET. -/
def execSget (c : CoreId) (part : Part) (ga : GReg) (s : State) : Answer :=
  issue (.sget c part ga) c s fun v s =>
    let a := (v.gread ga).toNat
    let n := headerBytes + partLength part
    match imagePlace s v a n with
    | .error t => .trap t s
    | .ok _ =>
      match mapImage s v.context a n { w := true } with
      | .error t => .trap t s
      | .ok pages =>
        let bad := (v.badOffsets part).map fun o => devAddr pages (a + headerBytes + o) / 8
        let bs := imageHeader part v.seeded (partIndex s c) ++ v.body part
        let s := s.writeVia pages a bs fun w => bad.contains w
        let lines := (List.range (n / 64)).map fun i => devAddr pages (a + 64 * i)
        let v := lines.foldl (fun v d => v.dropLines d 64) (s.core c.val)
        .done (s.setCore c.val (v.sawPoison !bad.isEmpty))

/-- The header meets R452, but for R140. -/
def headerGood (p : Part) (h : Bytes) : Bool :=
  let flags := (byteAt h 6).toNat
  leAt h 0 4 == imageMagic && leAt h 4 1 == p.code && leAt h 5 1 == 1 && (flags == 0 || (flags == 1 && p == .stp))
    && leAt h 7 1 == 0 && leAt h 8 8 == partLength p && (h.drop 18).all fun b => b == 0

/-- The shape record of a bank image, if it is one (DEDUCED, log entry 25). -/
def parseShape (b : Bytes) : Option (Option Shape) :=
  if !((b.drop 6).all fun x => x == 0) || leAt b 1 1 > 1 || leAt b 5 1 > 1 then none
  else if leAt b 1 1 = 1 then some none
  else match Fmt.mmaOfCode (leAt b 0 1) with
    | some f =>
      if leAt b 2 2 ≤ passLength f ∧ leAt b 4 1 ≤ 64 then some (some ⟨f, leAt b 2 2, leAt b 4 1⟩) else none
    | none => none

/-- The bank of an image; `bad` says that a word of it is poisoned (15 R426). -/
def parseBank (b : Bytes) (bad : Bool) : Option Bank :=
  match parseShape (b.drop 8704) with
  | none => none
  | some shape =>
    let bank : Bank := ⟨Table.ofFn 4096 0 fun i => BitVec.ofNat 16 (leAt b (2 * i) 2),
      Table.ofFn 512 0 fun i => byteAt b (8192 + i), .empty, .empty, shape, bad || leAt b 8709 1 == 1, .empty⟩
    some bank.withChecks

/-- An engine restored from its body; `bad` lists the offsets of poisoned words. -/
def restoreEngine (x : EngineSt) (b : Bytes) (bad : List Nat) : Option EngineSt :=
  let within (lo hi : Nat) : Bool := bad.any fun o => decide (lo ≤ o) && decide (o < hi)
  let marks := (b.drop 262144).take 64
  if !((marks.take 16).all fun m => m.toNat ≤ 1) || !((marks.drop 16).all fun m => m == 0) then none
  else
    match parseBank ((b.drop activeAt).take bankBytes) (within activeAt shadowAt),
        parseBank ((b.drop shadowAt).take bankBytes) (within shadowAt (shadowAt + bankBytes)) with
    | some active, some shadow =>
      let tileBad (i : Nat) : Bool :=
        byteAt marks (8 + i) == 1 || within 262144 activeAt || bad.any fun o => decide (o < 262144) && o / 8 % 512 / 64 == i
      let mask (f : Nat → Bool) : BitVec 8 := BitVec.ofNat 8 (((List.range 8).map fun i => if f i then 2 ^ i else 0).sum)
      some { x with
        active := active
        shadow := shadow
        acc := Table.ofFn accWords 0 fun i => BitVec.ofNat 64 (leAt b (8 * i) 8)
        accPoison := .empty
        accParityBad := .empty
        wide := mask fun i => byteAt marks i == 1
        tilePoison := mask tileBad }
    | _, _ => none

/-- The descriptors of a scalar image; none where a valid one fails (16 R454). -/
def parseTiles (b : Bytes) : Option (Table (Option TileDesc)) :=
  (List.range 16).foldlM (fun t i =>
    if !(leAt b 1024 2).testBit i then some t
    else match parseTile (leAt b (512 + 32 * i) 32) with
      | .ok d => some (t.set none i (some d))
      | .error _ => none) Table.empty

/-- The core with a part restored, or none where the image is refused (16 R452 to R454, 05 R140). -/
def restorePart (v : CoreSt) (p : Part) (flags : Nat) (b : Bytes) (bad : List Nat) : Option CoreSt :=
  let word (i : Nat) : Word := BitVec.ofNat 64 (leAt b (8 * i) 8)
  match p with
  | .scal =>
    if !((b.drop 1026).all fun x => x == 0) then none
    else (parseTiles b).map fun t =>
      { v with
        g := Table.ofFn 32 0 fun i => if i = 0 then 0 else word i
        p := Table.ofFn 8 0 fun i => if i = 0 then 0 else BitVec.ofNat 256 (leAt b (256 + 32 * i) 32)
        t := t }
  | .vec => some { v with
      v := Table.ofFn 8192 0 fun i => BitVec.ofNat 32 (leAt b (4 * i) 4)
      vPoison := Table.ofFn 8192 false fun i => bad.contains (4 * i / 8 * 8) }
  | .eng e => (restoreEngine (v.engine e) b bad).map fun x => v.setEngine e x
  | .stp =>
    let t := Table.ofFn 256 0 word
    if flags = 1 ∧ t.rows.length < 256 then none
    else some { v with stipple := if flags = 1 then t else .empty, seeded := flags == 1 }
  | .ntm =>
    if (List.range 4).any (fun i => word i == BitVec.allOnes 64) || !((b.drop 40).all fun x => x == 0) then none
    else some { v with
      ntmSat := word 0
      ntmFlush := word 1
      ntmNan := word 2
      ntmInf := word 3
      ntmStat := word 4 &&& 0xF }

/-- A part whose state carries poison marks. -/
def markedPart : Part → Bool
  | .vec | .eng _ => true
  | _ => false

/-- SPUT: an image that is refused, or whose poison cannot enter the part, restores nothing. -/
def execSput (c : CoreId) (part : Part) (ga : GReg) (s : State) : Answer :=
  issue (.sput c part ga) c s fun v s =>
    let a := (v.gread ga).toNat
    let n := headerBytes + partLength part
    match imagePlace s v a n with
    | .error t => .trap t s
    | .ok _ =>
      match mapImage s v.context a n { r := true } with
      | .error t => .trap t s
      | .ok pages =>
        let s := s.touchVia pages a n
        let h := s.bytesVia pages a headerBytes
        let bad := (List.range (partLength part / 8)).filterMap fun i =>
          if s.wordPoisoned (devAddr pages (a + headerBytes + 8 * i) / 8) then some (8 * i) else none
        if s.poisonedVia pages a headerBytes || (!markedPart part && !bad.isEmpty) then
          .trap { stateTrap causePoison 0 with addr := a } (s.setCore c.val ((s.core c.val).sawPoison true))
        else if !headerGood part h then .trap (stateTrap causeIllegalOperand 0x08) s
        else
          match restorePart (s.core c.val) part (byteAt h 6).toNat (s.bytesVia pages (a + headerBytes) (partLength part)) bad with
          | none => .trap (stateTrap causeIllegalOperand 0x08) s
          | some v => .done (s.setCore c.val (v.sawPoison !bad.isEmpty))

end Sys2Proof.Machine
end

