-- ==== Sys2Proof/Machine/Deadlock.lean ====
section
/-! DEFINITION. The deadlock detector (09 R257 to R261). -/

namespace Sys2Proof.Machine

/-- DLK_CTL after reset (R259). -/
abbrev dlkReset : Word := 0x0F424001

/-- DLK_CTL of the first cluster of a context's partition. -/
def dlkOf (s : State) (k : CtxId) : Word := s.dlkCtl.get dlkReset (s.ctx k.val).first

/-- The cores of a context's partition that run. -/
def runningCores (s : State) (k : CtxId) : List (Nat × CoreSt) :=
  s.cores.rows.filter fun r => r.2.seqState == .running && r.2.context == k && (s.ctx k.val).hasCore r.1

/-- A core held at a wait. -/
def CoreSt.held (v : CoreSt) : Bool := match v.hold with
  | .sem _ _ _ _ _ => true
  | _ => false

/-- A queue that is empty, or whose command waits on a semaphore. -/
def Sq.quiet (x : Sq) : Bool := x.isEmpty || x.state == .waiting

/-- An arrival sent for a context and not yet applied. -/
def sentFor (s : State) (k : CtxId) : SemArrival → Bool
  | .add _ c _ _ => c == k
  | .set _ c _ _ _ => (s.core c.val).context == k
  | .wait _ who _ _ _ _ => match who with
    | .core c => (s.core c.val).context == k
    | .queue q => (s.sq q.val).context == k

/-- An operation that could signal is outstanding (R257). -/
def couldSignal (s : State) (k : CtxId) : Bool :=
  s.sems.rows.any (fun r => r.2.arrivals.any (sentFor s k))
    || (runningCores s k).any (fun r => !r.2.port.isEmpty || r.2.mover.any fun o => o.gsem.isSome)
    || s.fab.ops.any (fun o => o.ctx == k)
    || s.fab.entries.rows.any fun r => match r.2 with | some e => e.ctx == k | none => false

/-- The partition of a context is blocked (R257). -/
def blocked (s : State) (k : CtxId) : Bool :=
  (s.ctx k.val).en && bitAt (dlkOf s k) 0 && !(runningCores s k).isEmpty && (runningCores s k).all (fun r => r.2.held)
    && (queuesOf s k).all (fun n => (s.sq n).quiet) && !couldSignal s k

/-- The detector at one edge: timing starts where the blocked state does, and stops with it; a reset suspends it (R258, 14
R410). -/
def watchContext (s : State) (k : CtxId) : State :=
  let x := s.ctx k.val
  if x.resetRun.isSome then s
  else if blocked s k then
    (if x.blockedSince.isSome then s else s.setCtx k.val { x with blockedSince := some s.plumb.now })
  else if x.blockedSince.isNone && !x.deadlockFired then s
  else s.setCtx k.val { x with blockedSince := none, deadlockFired := false }

/-- The detectors of all partitions. -/
def watchAll (s : State) : State := s.ctxs.rows.foldl (fun s r => watchContext s (Fin.ofNat 64 r.1)) s

/-- The code of a kind of wait (R261). -/
def WaitKind.code : WaitKind → Nat
  | .wait => 0
  | .waitAcq => 1
  | .acq => 2

/-- When a core registered at a semaphore. -/
def registeredAt (x : Sem) (c : Nat) : Word :=
  match x.waiters.find? fun w => match w.who with | .core i => i.val == c | .queue _ => false with
  | some w => w.tick
  | none => 0

/-- The record of a held core (R261). -/
def heldRecord (s : State) (secret : Bool) (c : Nat) (v : CoreSt) : Bytes :=
  match v.hold with
  | .sem kind sem name target pc =>
    leBytes 2 c ++ leBytes 1 kind.code ++ zeros 5 ++ leBytes 8 (if secret then 0 else pc.toNat) ++ leBytes 8 name.toNat
      ++ leBytes 8 target.toNat ++ leBytes 8 (s.sem sem).value.toNat ++ leBytes 8 (registeredAt (s.sem sem) c).toNat
      ++ zeros 16
  | _ => []

/-- The record of a waiting queue (R261). -/
def queueRecord (s : State) (n : Nat) : Bytes :=
  match (s.sq n).cmd with
  | some run => match run.work with
    | .waitSem sem name target =>
      leBytes 2 n ++ zeros 6 ++ leBytes 8 name.toNat ++ leBytes 8 target.toNat ++ leBytes 8 (s.sem sem).value.toNat
    | _ => []
  | none => []

/-- The snapshot of a partition (R261). -/
def snapshotOf (s : State) (k : CtxId) (since : Word) : Bytes :=
  let x := s.ctx k.val
  let cores := runningCores s k
  let queues := (queuesOf s k).filter fun n => (s.sq n).state == .waiting
  leBytes 8 s.plumb.now.toNat ++ leBytes 8 since.toNat ++ leBytes 1 x.first ++ leBytes 1 (bitsAt x.gfeCtx 8 3)
    ++ leBytes 2 cores.length ++ leBytes 2 queues.length ++ leBytes 1 (s.plumb.valid.toNat + 2 * x.conf.toNat)
    ++ leBytes 1 k.val ++ zeros 40 ++ cores.flatMap (fun r => heldRecord s x.conf r.1 r.2)
    ++ queues.flatMap (queueRecord s)

/-- DEADLOCK_FIRE: the partition has stayed blocked for win_us: a snapshot if the buffer is free, a record, the
interrupt (R258, R260; DEDUCED, log entry 27). -/
def execDeadlockFire (ctx : CtxId) (s : State) : Host.Outcome State Fault Refusal :=
  let x := s.ctx ctx.val
  match x.blockedSince with
  | none => .next s
  | some since =>
    if x.deadlockFired || !blocked s ctx || decide (s.plumb.now.toNat < since.toNat + bitsAt (dlkOf s ctx) 8 24 * usEdges) then
      .next s
    else
      let full := bitAt s.dlkStat 0
      let s := if full then { s with dlkStat := s.dlkStat ||| flagAt 1 true }
        else { s with dlkSnap := snapshotOf s ctx since
                      dlkStat := (s.dlkStat &&& 2) ||| flagAt 0 true ||| putAt 8 x.first ||| putAt 12 (bitsAt x.gfeCtx 8 3) }
      let s := s.setCtx ctx.val { s.ctx ctx.val with deadlockFired := true }
      .next (logError { atPlace 0x06 x.first { cause := 0x14, sev := sevEvent, info0 := x.first, info1 := x.clusters,
                                               snapLost := full } with names := some ctx } s)

end Sys2Proof.Machine
end

