-- ==== Sys2Proof/Machine/Links.lean ====
section
/-! DEFINITION. Apbor ports: flit groups and retry, training, identity, sealing keys, thresholds (chapter 11, 19 R517
to R519). -/

namespace Sys2Proof.Machine

/-! ## Status and records (11 R318, R321, 15 R447) -/

/-- The states' codes (11 Training and identity). -/
def LinkState.code : LinkState → Nat
  | .disabled => 0 | .detect => 1 | .equalise => 2 | .laneMap => 3 | .identify => 4 | .active => 5 | .quarantine => 6
  | .fastRetrain => 7 | .down => 8

/-- APB_STAT (11 R318). -/
def Port.statWord (x : Port) : Word :=
  putAt 0 x.state.code ||| putAt 4 x.qReason.toNat ||| flagAt 8 x.sealed ||| putAt 9 x.ver.toNat ||| flagAt 12 x.degr
    ||| flagAt 13 x.qev ||| flagAt 14 x.downEv ||| flagAt 15 x.peerReset

/-- APB_LLR (11 R321). -/
def Port.llrWord (x : Port) : Word := putAt 0 x.crcFail ||| putAt 32 x.fastRt ||| putAt 44 x.fullRt

/-- A LINK record of a port (15 R447). -/
def linkRecord (p : PortId) (s : State) : State :=
  let x := s.port p.val
  logError (atPlace 0x08 p.val { cause := 0x0F, sev := sevEvent, info0 := x.statWord.toNat, info1 := x.llrWord.toNat }) s

/-! ## Keys of a port (19 R500, R518, R523) -/

/-- The key-store slot of a direction and phase. -/
def linkSlot (p : PortId) (receive phase : Bool) : Nat := 0x10 + 4 * p.val + 2 * receive.toNat + phase.toNat

/-- A key-store slot written or zeroised. -/
def setKey (slot : Nat) (b : Bool) (s : State) : State := { s with sec := { s.sec with keys := s.sec.keys.set false slot b } }

/-- A key and its salt written to a port's slot (19 R518). -/
def storeKey (p : PortId) (receive phase : Bool) (key salt : Bytes) (s : State) : State :=
  let x := s.port p.val
  let i := keyIndex receive phase
  setKey (linkSlot p receive phase) true
    (s.setPort p.val { x with keyBytes := x.keyBytes.set [] i key, salts := x.salts.set [] i salt })

/-- A port's slot zeroised. -/
def eraseKey (p : PortId) (receive phase : Bool) (s : State) : State :=
  let x := s.port p.val
  let i := keyIndex receive phase
  setKey (linkSlot p receive phase) false
    (s.setPort p.val { x with keyBytes := x.keyBytes.set [] i [], salts := x.salts.set [] i [] })

/-- All keys of a port zeroised. -/
def dropLinkKeys (p : PortId) (s : State) : State :=
  [(false, false), (false, true), (true, false), (true, true)].foldl (fun s d => eraseKey p d.1 d.2 s) s

/-! ## Changes of state (11 R304 to R311) -/

/-- Units of a class that a receiver's buffer holds (12 R333). -/
def bufferShare (vc : Nat) : Nat := if vc = 0 then 28672 else if vc = 2 then 2048 else 1024

/-- The receiver returns its whole buffer on the channels that open, once (12 R334). -/
def Port.grantBuffer (x : Port) (data : Bool) : Port :=
  let whole (t : Table Nat) (vc : Nat) : Table Nat := (t.set 0 (2 * vc) (bufferShare vc)).set 0 (2 * vc + 1) (bufferShare vc)
  let x := if x.grantedCtl then x else { x with freed := whole x.freed 3, grantedCtl := true }
  if !data || x.grantedData then x
  else { x with freed := whole (whole (whole x.freed 0) 1) 2, grantedData := true }

/-- Groups that wait for an ack are discarded, and both directions begin at number 0 (11 R305). -/
def Port.forgetGroups (x : Port) : Port :=
  { x with
    txSeq := 0
    replay := []
    rxSeq := 0
    gotAny := false
    nakSent := false
    nakDue := false
    ackDue := false
    failCount := 0
    tagFailed := false
    coming := none }

/-- Everything that a link holds for its peer is emptied: groups, packets, sequence numbers, credits (11 R305, R312,
12 R335). -/
def Port.forgetPeer (x : Port) : Port :=
  { x.forgetGroups with
    credits := .empty
    freed := .empty
    queued := []
    transitTurn := false
    arrived := []
    grantedCtl := false
    grantedData := false }

/-- An exchange of keys ends: what it held is zeroised (19 R518). -/
def Port.endExchange (x : Port) : Port :=
  { x with agreement := .none, keySeed := 0, keyHello := [], keyTranscript := [], keySecret := [] }

/-- No lane map is in force (11 R320). -/
def Port.unmapped (x : Port) : Port := { x with rxUsed := 0, txUsed := 0, rxHalf := false, txHalf := false }

/-- Training begins at DETECT (11 R305, R306), with the version that APB_CTL offers now (R317). -/
def Port.toDetect (x : Port) (clk : Nat) : Port :=
  { x.endExchange.unmapped with
    state := .detect
    trainClk := clk
    verOffer := bitsAt x.ctl 4 2
    degraded := 0
    sealed := false
    ver := 0
    qReason := 0
    localVerdict := false
    peerVerdict := false
    failCount := 0
    tagFailed := false
    nextTx := false
    nextRx := false
    retryKeyAt := none
    txPhase := false
    rxPhase := false
    txGroups := 0
    rxGroups := 0
    fullRt := satTo 0xFFE (x.fullRt + 1) }

/-- A full retrain (11 R305). -/
def fullRetrain (p : PortId) (s : State) : State :=
  dropLinkKeys p (s.setPort p.val ((s.port p.val).toDetect s.clk))

/-- The port goes DOWN: the groups that wait are discarded, while credits and packets stay for a peer that is not reset (11 R301,
R305, 12 R335). -/
def portDown (p : PortId) (s : State) : State :=
  let x := s.port p.val
  let x := { x.forgetGroups.endExchange.unmapped with state := .down, downEv := true, sealed := false, trainClk := s.clk }
  sendNotice evDown p.val 0 (linkRecord p (dropLinkKeys p (s.setPort p.val x)))

/-- Groups go out again as they first went (11 R302, R313). -/
def resendGroups (p : PortId) (gs : List SentGroup) (s : State) : State :=
  gs.foldl (fun (s : State) (g : SentGroup) => s.emit (.group p g.image g.starts)) s

/-- Groups that the replay buffer still holds are sent again (11 R302, R305). -/
def resendHeld (p : PortId) (s : State) : State :=
  let x := s.port p.val
  if x.replay.isEmpty then s else resendGroups p x.replay (s.setPort p.val { x with lastAckClk := s.clk })

/-- The port runs: what it held back is sent again, then what waits (11 R305). -/
def runPort (p : PortId) (s : State) : State := pumpPort p (resendHeld p s)

/-- The port enters QUARANTINE (11 R310). -/
def quarantine (p : PortId) (why : Nat) (s : State) : State :=
  let x := s.port p.val
  let x := { x.grantBuffer false with state := .quarantine, qReason := BitVec.ofNat 3 why, qev := true }
  sendNotice evQuarantine p.val why (linkRecord p (runPort p (s.setPort p.val x)))

/-- The port enters ACTIVE (11 R309). -/
def activate (p : PortId) (s : State) : State :=
  let x := s.port p.val
  runPort p (s.setPort p.val { x.grantBuffer true with state := .active, qReason := 0 })

/-- A port that trains, from DETECT or fast. -/
def LinkState.training : LinkState → Bool
  | .detect | .equalise | .laneMap | .identify | .fastRetrain => true
  | _ => false

/-- The port starts a fast retrain; the third within 1 s is a full one; a port that trains already does so once that ends (11 R305,
R306). -/
def fastRetrain (p : PortId) (s : State) : State :=
  let x := s.port p.val
  let recent := x.fastTimes.filter fun t => decide (s.clk < t + 1000 * msEdges)
  if x.state.training then s.setPort p.val { x with pendCross := true }
  else if x.state != .active && x.state != .quarantine then s
  else if recent.length ≥ 2 then fullRetrain p s
  else s.setPort p.val { x with
    state := .fastRetrain, cameFrom := x.state, fastTimes := recent ++ [s.clk], failCount := 0, trainClk := s.clk
    fastRt := satTo 0xFFE (x.fastRt + 1) }

/-! ## Lane maps (11 R299 to R301) -/

/-- The lanes that carry logical lanes: the first 16 usable ones, or the first eight. -/
def usedLanes (usable : BitVec 17) : BitVec 17 :=
  let ls := (List.range 17).filter usable.getLsbD
  ((if ls.length ≥ 16 then ls.take 16 else ls.take 8)).foldl (fun w i => w ||| (1#17 <<< i)) 0

/-- Usable lanes of a direction. -/
def laneCount (usable : BitVec 17) : Nat := ((List.range 17).filter usable.getLsbD).length

/-- Lane maps from the lanes that passed in each direction; none where a direction has fewer than 8 (R299 to
R301). -/
def mapLanes (s : State) (p : PortId) (rx tx : BitVec 17) : Option Port :=
  let x := s.port p.val
  let rx := rx &&& ~~~(s.fuses.apbRx.get 0 p.val) &&& ~~~x.degraded
  let tx := tx &&& ~~~(s.fuses.apbTx.get 0 p.val)
  if laneCount rx < 8 || laneCount tx < 8 then none
  else some { x with rxUsed := usedLanes rx, txUsed := usedLanes tx, rxHalf := decide (laneCount rx < 16),
                     txHalf := decide (laneCount tx < 16) }

/-- A port moves from one training state to the next. -/
def trainOn (p : PortId) (a b : LinkState) (s : State) : State :=
  let x := s.port p.val
  if x.state == a then s.setPort p.val { x with state := b } else s

/-- DETECT_DONE. -/
def execDetectDone (p : PortId) (s : State) : Answer := .next (trainOn p .detect .equalise s)
/-- EQUALISE_DONE. -/
def execEqualiseDone (p : PortId) (s : State) : Answer := .next (trainOn p .equalise .laneMap s)

/-! ## Identity (11 R307 to R312) -/

/-- The 32 bytes of an identity record (R307). -/
def recordImage (r : IdRecord) : Bytes :=
  leBytes 2 r.chipId.toNat ++ leBytes 1 r.port.val ++ zeros 1 ++ leBytes 4 r.epoch.toNat ++ leBytes 2 r.verMin.toNat
    ++ leBytes 2 r.verMax.toNat ++ leBytes 1 r.sealCap.toNat ++ zeros 3 ++ leBytes 8 r.bootNonce.toNat ++ zeros 8

/-- A frame that carries a record: its bytes, then their CRC-32 (R307). -/
def recordFrame (r : IdRecord) : Bytes := recordImage r ++ leBytes 4 (crc32 (recordImage r)).toNat

/-- The record that a frame carries; none where the frame's CRC fails (R307). -/
def frameRecord (f : Bytes) : Option IdRecord :=
  if f.length ≠ 36 || leAt f 32 4 ≠ (crc32 (f.take 32)).toNat then none
  else some {
    chipId := BitVec.ofNat 16 (leAt f 0 2)
    port := Fin.ofNat 16 (leAt f 2 1)
    epoch := BitVec.ofNat 32 (leAt f 4 4)
    verMin := BitVec.ofNat 16 (leAt f 8 2)
    verMax := BitVec.ofNat 16 (leAt f 10 2)
    sealCap := (byteAt f 12).getLsbD 0
    bootNonce := BitVec.ofNat 64 (leAt f 16 8) }

/-- This end's record: version 0x0001 up to what APB_CTL.ver_max offered when training began, with sealing available (R307, R317). -/
def ownRecord (s : State) (p : PortId) : IdRecord where
  chipId := ownChip s
  port := p
  epoch := BitVec.ofNat 32 (bitsAt s.fab.active.topg 32 32)
  verMin := 1
  verMax := BitVec.ofNat 16 (s.port p.val).verOffer
  sealCap := true
  bootNonce := s.sec.ownNonce

/-- LANE_MAP_DONE: the port enters IDENTIFY and sends its record (R300, R301, R307). -/
def execLaneMapDone (p : PortId) (rx tx : BitVec 17) (s : State) : Answer :=
  if (s.port p.val).state != .laneMap then .next s
  else match mapLanes s p rx tx with
    | some y => .next ((s.setPort p.val { y with state := .identify }).emit (.identity p (recordFrame (ownRecord s p))))
    | none => .next (portDown p s)

/-- The negotiated version: 0 where there is none (R308). -/
def negotiated (x : Port) (r : IdRecord) : Nat :=
  let v := min x.verOffer r.verMax.toNat
  if max 1 r.verMin.toNat ≤ v then v else 0

/-- The port's entry requires sealing (12 R327). -/
def sealRequired (s : State) (p : PortId) : Bool := bitAt (s.fab.active.port.get Topo.noPort p.val) 3

/-- The first check of R309 that fails, or 0. -/
def identityCheck (s : State) (p : PortId) (r : IdRecord) : Nat :=
  let t := s.fab.active
  if t.role p = 7 || r.chipId = noChip || r.chipId.getLsbD 15 then 1
  else if r.chipId ≠ t.peerChip p || r.port.val ≠ bitsAt (t.port.get Topo.noPort p.val) 4 4 then 2
  else if r.epoch.toNat ≠ bitsAt t.topg 32 32 then 3
  else if negotiated (s.port p.val) r = 0 then 4
  else if sealRequired s p && !(negotiated (s.port p.val) r == 2 && r.sealCap) then 5
  else 0

/-- A record received: APB_PEER and APB_PEERV hold it (R319). -/
def Port.seeRecord (x : Port) (r : IdRecord) : Port :=
  { x with
    haveRecord := true
    nonce := r.bootNonce
    peer := putAt 0 r.chipId.toNat ||| putAt 16 r.port.val ||| flagAt 20 r.sealCap ||| putAt 32 r.epoch.toNat
    peerV := putAt 0 r.verMin.toNat ||| putAt 16 r.verMax.toNat }

/-- A record kept: with it the negotiated version and the verdicts. -/
def Port.takeRecord (x : Port) (r : IdRecord) (ver : Nat) (mine peers : Bool) : Port :=
  { x.seeRecord r with record := some r, ver := BitVec.ofNat 2 ver, localVerdict := mine, peerVerdict := peers }

/-- Once the exchange is over: ACTIVE under both verdicts, else QUARANTINE with the reason (R309, R311). -/
def settleVerdict (p : PortId) (s : State) : State :=
  let x := s.port p.val
  match x.record with
  | none => s
  | some r =>
    let why := identityCheck s p r
    let why := if why = 0 && !x.peerVerdict then 7 else why
    if why = 0 then (if x.state == .active then s else activate p s)
    else if x.state == .quarantine then s.setPort p.val { x with qReason := BitVec.ofNat 3 why }
    else quarantine p why s

/-- A changed boot nonce: the port retrains, with nothing kept for the peer (R312, 14 R405). -/
def peerWasReset (p : PortId) (r : IdRecord) (s : State) : State :=
  let x := s.port p.val
  let s := s.setPort p.val { (x.forgetPeer.seeRecord r) with peerReset := true, record := none }
  sendNotice evPeerReset p.val 0 (fullRetrain p s)

/-! ## Messages of key agreement (19 R517, R518) -/

/-- A LINK packet to the neighbour (12 R330). -/
def linkPkt (s : State) (p : PortId) (sub : Nat) (payload : Bytes) : Pkt :=
  let k : Pkt := { Pkt.blank with
    ptype := ptLink, dstChip := s.fab.active.peerChip p, srcChip := ownChip s, aux := BitVec.ofNat 16 sub, payload := payload }
  { k with crc := k.crcOf }

/-- Subtypes of LINK packets (12 R330). -/
abbrev linkPlumb : Nat := 1
/-- Subtype. -/
abbrev linkKeys : Nat := 2

/-- The payloads of a message of key agreement, 24 bytes of its body in each (19 R517). -/
def keyFragments (m : Nat) (body : Bytes) : List Bytes :=
  let n := max 1 ((body.length + 23) / 24)
  (List.range n).map fun i =>
    leBytes 1 m ++ zeros 1 ++ leBytes 2 i ++ leBytes 2 n ++ zeros 2 ++ fitTo 24 (body.drop (24 * i))

/-- The body of a message, from all its fragments in order, with the last one's padding; none where they are not those of message
`m` (19 R517). -/
def keyBody (m : Nat) (frags : List Bytes) : Option Bytes :=
  let fits (f : Bytes × Nat) : Bool :=
    f.1.length == 32 && leAt f.1 0 1 == m && leAt f.1 2 2 == f.2 && leAt f.1 4 2 == frags.length
  if frags.isEmpty || !(frags.zipIdx.all fits) then none else some (frags.flatMap fun f => f.drop 8)

/-- A message of key agreement leaves in its LINK packets: on VC3, or, before the port runs, beside its training frames (19 R517;
DEDUCED, log entry 29). -/
def sendKeyMessage (p : PortId) (m : Nat) (body : Bytes) (s : State) : State :=
  (keyFragments m body).foldl (fun s f =>
    let k := linkPkt s p linkKeys f
    if (s.port p.val).state == .identify then s.emit (.packet (some p) 3 k) else putOnPort p 3 k s) s

/-- The end with the lower chip ID starts key agreement with a fresh key, a nonce and its chain; the other awaits it (19 R517). -/
def startAgreement (p : PortId) (s : State) : State :=
  let x := s.port p.val
  match x.record with
  | none => s
  | some r =>
    if (ownChip s).toNat < r.chipId.toNat then
      let a := s.draw
      let b := a.2.draw
      let hello := Config.kemFresh a.1 ++ Config.linkNonce b.1 ++ Config.certificateChain
      sendKeyMessage p 1 hello (b.2.setPort p.val { x with agreement := .awaitM2, keySeed := a.1, keyHello := hello })
    else s.setPort p.val { x with agreement := .awaitM1 }

/-- What starts a key switch that has no next key: an exchange, while none is on its way and the security core is up (19 R518). -/
def startSwitch (p : PortId) (s : State) : State :=
  let x := s.port p.val
  if x.sealed && x.agreement == .none && !(s.proc 0).down then startAgreement p s else s

/-! ## Refreshes, and what waits for the end of training (R306, R311) -/

/-- The port sends its record and runs its checks again; during training it does so once that ends (R306, R311). -/
def refreshPort (s : State) (p : PortId) : State :=
  let x := s.port p.val
  if x.state.training then s.setPort p.val { x with pendRefresh := true }
  else if x.state != .active && x.state != .quarantine then s
  else
    let s := s.emit (.refresh p (recordFrame (ownRecord s p)))
    match x.record with
    | some r =>
      if x.state == .quarantine && x.qReason == 6 then s
      else settleVerdict p (s.setPort p.val { x with localVerdict := identityCheck s p r == 0 })
    | none => s

/-- Training has ended in ACTIVE or QUARANTINE: what fell during it is acted on (R306). -/
def afterTraining (p : PortId) (s : State) : State :=
  let x := s.port p.val
  if x.state != .active && x.state != .quarantine then s
  else
    let s := s.setPort p.val { x with pendCross := false, pendSwitch := false, pendRefresh := false }
    let s := if x.pendRefresh then refreshPort s p else s
    let s := if x.pendSwitch then startSwitch p s else s
    if x.pendCross then fastRetrain p s else s

/-- FAST_RETRAIN_DONE: the lane map is rebuilt and the port returns to the state it left; a failure is followed by a
full retrain (R305, R306). -/
def execFastRetrainDone (p : PortId) (ok : Bool) (rx tx : BitVec 17) (s : State) : Answer :=
  let x := s.port p.val
  if x.state != .fastRetrain then .next s
  else match ok, mapLanes s p rx tx with
    | true, some y => .next (afterTraining p (runPort p (s.setPort p.val { y with state := x.cameFrom })))
    | _, _ => .next (fullRetrain p s)

/-- IDENTITY_RECORD: a peer's record arrives in IDENTIFY, and this end's verdict goes back; with version 2 and sealing at both ends,
key agreement comes before the port leaves IDENTIFY (R307, R309, R312, 19 R517; DEDUCED, log entry 29). -/
def execIdentityRecord (p : PortId) (frame : Bytes) (verdict : Bool) (s : State) : Answer :=
  let x := s.port p.val
  match frameRecord frame with
  | none => .next s
  | some r =>
    if x.state != .identify then .next s
    else if x.haveRecord && x.nonce != r.bootNonce then .next (peerWasReset p r s)
    else
      let ver := negotiated x r
      let mine := identityCheck s p r == 0
      let s := (s.setPort p.val (x.takeRecord r ver mine verdict)).emit (.verdict p mine)
      if ver = 2 && r.sealCap && r.chipId != ownChip s then .next (startAgreement p s)
      else .next (afterTraining p (settleVerdict p s))

/-- REFRESH_FRAME: both ends run the checks again without retraining (R311); the version is the one that training agreed (R317). -/
def execRefreshFrame (p : PortId) (frame : Bytes) (verdict : Bool) (s : State) : Answer :=
  let x := s.port p.val
  match frameRecord frame with
  | none => .next s
  | some r =>
    if x.state != .active && x.state != .quarantine then .next s
    else if x.nonce != r.bootNonce then .next (peerWasReset p r s)
    else
      let s := s.setPort p.val (x.takeRecord r (negotiated x r) (identityCheck s p r == 0) verdict)
      if x.state == .quarantine && x.qReason == 6 then .next s else .next (settleVerdict p s)

/-! ## Training limits (11 R305, R306) -/

/-- The time that training may take, by class. -/
def trainLimit (x : Port) : Nat := (if bitsAt x.ctl 1 2 = 2 then 250 else 100) * msEdges

/-- The time that a fast retrain may take (R306). -/
abbrev fastLimit : Nat := 40 * usEdges

/-- TRAINING_TIMEOUT: a port that trains from DETECT goes DOWN; a fast retrain that takes too long has failed; training follows the
boot (R305, R306, 14 R403). -/
def execTrainingTimeout (p : PortId) (s : State) : Answer :=
  let x := s.port p.val
  .next (if !s.boot.done then s else if x.state == .fastRetrain then (if x.trainClk + fastLimit ≤ s.clk then fullRetrain p s else s)
    else if x.state.training && decide (x.trainClk + trainLimit x ≤ s.clk) then portDown p s else s)

/-- DOWN_RETRY: every 1 s, while en is 1. -/
def execDownRetry (p : PortId) (s : State) : Answer :=
  let x := s.port p.val
  .next (if x.state == .down && bitAt x.ctl 0 && decide (x.trainClk + 1000 * msEdges ≤ s.clk) then fullRetrain p s else s)

/-! ## Flit groups received (11 R294, R295, R302 to R305, R313, R314) -/

/-- Symbols that the code of a lane corrects in a codeword (R294). -/
abbrev fecSymbols : Nat := 15

end Sys2Proof.Machine

namespace Sys2Proof

/-- Codewords that the FEC cannot correct. -/
def FlitGroup.lost (g : FlitGroup) : Nat := (g.codewords.filter fun c => decide (Machine.fecSymbols < c.2)).length

/-- What the FEC corrected, by physical lane. -/
def FlitGroup.corrected (g : FlitGroup) : List (Nat × Nat) := g.codewords.filter fun c => decide (c.2 ≤ Machine.fecSymbols)

end Sys2Proof

namespace Sys2Proof.Machine

/-- The trailer of a group (R295). -/
structure Trailer where
  seq : BitVec 12
  ack : BitVec 12
  ackValid : Bool
  nak : Bool
  keyPhase : Bool
  verdict : Bool
  sealed : Bool
  credits : List Nat
  tag : Bytes
  crc : BitVec 32
  deriving DecidableEq, Repr

/-- The fields of the 32 bytes of a trailer (R295, 12 R334). -/
def trailerOf (t : Bytes) : Trailer where
  seq := BitVec.ofNat 12 (leAt t 0 2)
  ack := BitVec.ofNat 12 (leAt t 2 2)
  ackValid := (byteAt t 4).getLsbD 0
  nak := (byteAt t 4).getLsbD 1
  keyPhase := (byteAt t 4).getLsbD 2
  verdict := (byteAt t 4).getLsbD 3
  sealed := (byteAt t 4).getLsbD 4
  credits := (List.range 8).map fun i => field (leAt t 5 7) (7 * i) 7
  tag := (t.drop 12).take 16
  crc := BitVec.ofNat 32 (leAt t 28 4)

end Sys2Proof.Machine

namespace Sys2Proof

/-- A group's packet stream, as it came. -/
def FlitGroup.stream (g : FlitGroup) : Bytes := g.bytes.take Machine.groupBytes

/-- A group's trailer. -/
def FlitGroup.trailer (g : FlitGroup) : Machine.Trailer := Machine.trailerOf (g.bytes.drop Machine.groupBytes)

/-- The group is whole and its CRC holds (R295). -/
def FlitGroup.crcOk (g : FlitGroup) : Bool :=
  g.bytes.length == Machine.groupBytes + 32 &&
    Machine.crc32 (g.bytes.take (Machine.groupBytes + 28)) == g.trailer.crc

end Sys2Proof

namespace Sys2Proof.Machine

/-- Groups up to and including `ack` leave the replay buffer (R302). -/
def ackReplay (ack : BitVec 12) (replay : List SentGroup) : List SentGroup :=
  if replay.any fun g => g.seq == ack then (replay.dropWhile fun g => g.seq != ack).drop 1 else replay

/-- An ack or a nak of a good group (R302). -/
def takeAck (p : PortId) (t : Trailer) (s : State) : State :=
  let x := s.port p.val
  let left := if t.ackValid then ackReplay t.ack x.replay else x.replay
  let s := s.setPort p.val { x with replay := left, lastAckClk := if left.length < x.replay.length then s.clk else x.lastAckClk }
  if t.nak then resendGroups p left s else s

/-- Credits that a trailer returns (12 R334). -/
def Port.takeCredits (x : Port) (cs : List Nat) : Port :=
  { x with credits := cs.zipIdx.foldl (fun (t : Table Nat) (c : Nat × Nat) => t.update 0 c.2 fun n => n + c.1) x.credits }

/-- Counts of the FEC in a group (11 R316, R321). -/
def Port.countFec (x : Port) (g : FlitGroup) : Port :=
  { x with
    ceSym := satTo 0xFFFFFFFFFE (x.ceSym + (g.corrected.map fun c => c.2).sum)
    ueCw := satTo 0xFFFFFE (x.ueCw + g.lost)
    laneCe := g.corrected.foldl (fun t c => t.update 0 c.1 fun n => n + c.2) x.laneCe
    ueCount := x.ueCount + g.lost }

/-- A discard for a failed CRC or tag is counted (R316, R321). -/
def Port.countFail (x : Port) : Port := { x with crcFail := satTo 0xFFFFFFFE (x.crcFail + 1), retryCount := x.retryCount + 1 }

/-- A discard: a nak on the first one after a good group. `same` says that the number expected next has failed; eight failures of
one number in a row start a fast retrain (R302, R305; DEDUCED, log entry 28). -/
def discardGroup (p : PortId) (same : Bool) (s : State) : State :=
  let x := s.port p.val
  let n := if same then x.failCount + 1 else x.failCount
  let s := pumpPort p (s.setPort p.val { x with nakSent := true, nakDue := x.nakDue || !x.nakSent, failCount := n })
  if same && decide (8 ≤ n) then fastRetrain p s else s

/-- Confidential contexts that use a port: those with a job, while the port has a role (R314; DEDUCED, log entry 30). -/
def sealedUsers (s : State) (p : PortId) : List CtxId :=
  if s.fab.active.role p = 7 then []
  else allCtxs.filter fun k => (s.ctx k.val).conf && (s.fab.active.entryOfCtx k).isSome

/-- A second tag failure: QUARANTINE, and the contexts that use the port are fenced (R314). -/
def sealFailure (p : PortId) (s : State) : State :=
  (sealedUsers s p).foldl (fun s k => fenceContext k s) (quarantine p 6 s)

/-- The peer's verdict in a trailer: the data channels close and open with it (R311). -/
def takeVerdict (p : PortId) (v : Bool) (s : State) : State :=
  let x := s.port p.val
  if x.peerVerdict == v || (x.state == .quarantine && x.qReason == 6) then s
  else settleVerdict p (s.setPort p.val { x with peerVerdict := v })

/-- A receiver follows the key phase of the groups it accepts: the superseded key is zeroised (R315, 19 R523). -/
def followPhase (p : PortId) (phase : Bool) (s : State) : State :=
  let x := s.port p.val
  if !x.sealed || phase == x.rxPhase then s
  else eraseKey p true x.rxPhase (s.setPort p.val { x with rxPhase := phase, rxGroups := 0, nextRx := false })

/-- The plaintext of a group that has the number expected: on a sealed link it is opened under the key that its phase names, with
the count of groups under that key; none where its tag fails, or no such key is agreed (R313, R315). -/
def Port.openGroup (x : Port) (t : Trailer) (head stream : Bytes) : Option Bytes :=
  if !x.sealed then some stream
  else if t.keyPhase != x.rxPhase && !x.nextRx then none
  else
    let key := keyIndex true t.keyPhase
    let count := if t.keyPhase == x.rxPhase then x.rxGroups else 0
    Config.gcmOpen (x.keyBytes.get [] key) (x.groupIv key count) head stream t.tag

/-- One flit of an accepted stream: it begins a packet, goes on with one, or carries none (12 R329; DESIGN CHOICE, log entry
170). -/
def Port.takeFlit (x : Port) (start : Bool) (f : Bytes) : Port :=
  let whole (c : PartPkt) : Port :=
    if c.left = 0 then { x with coming := none, arrived := x.arrived ++ [Pkt.ofImage c.bytes] } else { x with coming := some c }
  if start then whole ⟨f, (field (leNat f) 194 14 + 31) / 32⟩
  else match x.coming with
    | some c => whole ⟨c.bytes ++ f, c.left - 1⟩
    | none => x

/-- The stream of an accepted group is delivered, whole and in order (R304). -/
def Port.takeStream (x : Port) (stream : Bytes) (starts : List Nat) : Port :=
  (List.range 159).foldl (fun x i => x.takeFlit (starts.contains i) ((stream.drop (32 * i)).take 32)) x

/-- A group with the number expected is accepted (R302, R304, R311, R315, 12 R334). -/
def acceptGroup (p : PortId) (t : Trailer) (stream : Bytes) (starts : List Nat) (s : State) : State :=
  let s := followPhase p t.keyPhase (takeAck p t s)
  let x := s.port p.val
  let x := { x with rxSeq := x.rxSeq + 1, gotAny := true, ackDue := true, nakSent := false, nakDue := false, failCount := 0,
                    tagFailed := false, rxGroups := if x.sealed then x.rxGroups + 1 else x.rxGroups }
  pumpPort p (takeVerdict p t.verdict (s.setPort p.val ((x.takeCredits t.credits).takeStream stream starts)))

/-- FLIT_GROUP_RECEIVE (R302, R305, R314). -/
def execFlitGroupReceive (p : PortId) (g : FlitGroup) (s : State) : Answer :=
  let x := s.port p.val
  if x.state != .active && x.state != .quarantine then .next s
  else
    let x := x.countFec g
    let s := s.setPort p.val x
    let t := g.trailer
    let same := t.seq == x.rxSeq
    if g.lost ≠ 0 || !g.crcOk then
      .next (discardGroup p same (if g.lost = 0 then s.setPort p.val x.countFail else s))
    else if !same then .next (discardGroup p false (if x.sealed then s else takeAck p t s))
    else match x.openGroup t ((g.bytes.drop groupBytes).take 12) g.stream with
      | some stream => .next (acceptGroup p t stream g.starts s)
      | none =>
        let s := s.setPort p.val { x.countFail with tagFailed := true }
        .next (if x.tagFailed then sealFailure p s else discardGroup p true s)

/-- The replay timeout of a class (11 Reach classes). -/
def replayLimitOf (x : Port) : Nat := (if bitsAt x.ctl 1 2 = 2 then 4 else 2) * usEdges

/-- REPLAY_TIMEOUT (R303). -/
def execReplayTimeout (p : PortId) (s : State) : Answer :=
  let x := s.port p.val
  if (x.state == .active || x.state == .quarantine) && !x.replay.isEmpty
      && decide (x.lastAckClk + replayLimitOf x ≤ s.clk) then .next (resendHeld p s)
  else .next s

/-! ## Thresholds (11 R316) -/

/-- A threshold is crossed: degr, a record, a notice. -/
def crossed (p : PortId) (s : State) : State :=
  let s := s.setPort p.val { s.port p.val with degr := true }
  sendNotice evThreshold p.val 0 (linkRecord p s)

/-- The end of a 1 ms window for one lane. -/
def laneWindow (p : PortId) (s : State) (lane : Nat) : State :=
  let x := s.port p.val
  let run := if x.laneCe.get 0 lane > bitsAt x.ctl 16 24 then x.laneOver.get 0 lane + 1 else 0
  let x := { x with laneOver := x.laneOver.set 0 lane run, laneCe := x.laneCe.set 0 lane 0 }
  if run < 3 then s.setPort p.val x
  else fastRetrain p (crossed p (s.setPort p.val { x with degraded := x.degraded ||| (1#17 <<< lane),
                                                          laneOver := x.laneOver.set 0 lane 0 }))

/-- LINK_THRESHOLD_WINDOW: a window of plumb time that has ended is judged, once (R316). -/
def execLinkThresholdWindow (p : PortId) (w : LinkWindow) (s : State) : Answer :=
  let x := s.port p.val
  match w with
  | .oneMs =>
    let n := s.plumb.now.toNat / msEdges
    if n = x.msWindow then .next s
    else
      let s := (List.range 17).foldl (laneWindow p) (s.setPort p.val { x with retryCount := 0, msWindow := n })
      .next (if x.retryCount > bitsAt x.ctl 40 8 then crossed p s else s)
  | .oneSecond =>
    let n := s.plumb.now.toNat / (1000 * msEdges)
    if n = x.secondWindow then .next s
    else
      let s := s.setPort p.val { x with ueCount := 0, secondWindow := n }
      .next (if x.ueCount > bitsAt x.ctl 48 8 then crossed p s else s)

/-! ## Key agreement and switches (11 R315, 19 R517 to R519) -/

/-- The transcript of an exchange (19 R517). -/
def transcript (hello answer : Bytes) : Bytes := sha3_256 (hello ++ answer)

/-- A key or a salt of an exchange, by its number (19 R518). -/
def derived (secret th : Bytes) (n : Nat) : Bytes := sha3_256 (secret ++ th ++ leBytes 1 n)

/-- The keys of an exchange are written, initiator to responder under number 1, back under 2: at once in force in IDENTIFY, or
ready in the other phase (19 R518). -/
def keysAgreed (p : PortId) (initiator : Bool) (secret th : Bytes) (s : State) : State :=
  let x := s.port p.val
  let first := x.state == .identify
  let store (receive : Bool) (s : State) : State :=
    let n := if initiator != receive then 1 else 2
    storeKey p receive ((if receive then x.rxPhase else x.txPhase) != !first)
      (derived secret th n) ((derived secret th (n + 2)).take 4) s
  let s := store false (store true (s.setPort p.val x.endExchange))
  let y := s.port p.val
  if first then
    afterTraining p (settleVerdict p (s.setPort p.val { y with sealed := true, txGroups := 0, rxGroups := 0 }))
  else s.setPort p.val { y with nextTx := true, nextRx := true }

/-- The exchange has failed (19 R519). -/
def agreementFailed (p : PortId) (s : State) : State :=
  let x := s.port p.val
  let s := s.setPort p.val { x.endExchange with sealed := x.sealed && x.state != .identify }
  if x.state == .identify then afterTraining p (if sealRequired s p then quarantine p 6 s else settleVerdict p s)
  else s.setPort p.val { s.port p.val with retryKeyAt := some (s.clk + msEdges) }

/-- The peer's proof stands: its chain, its security version, its signature (19 R518). -/
def goodProof (f : PeerProof) (s : State) : Bool := f.chainOk && decide (s.fuses.svnFloor ≤ f.svn) && f.signatureOk

/-- An exchange goes on while the security core answers. -/
def agreeing (s : State) (p : PortId) (a : KeyAgreement) : Bool := (s.port p.val).agreement == a && !(s.proc 0).down

/-- An alias signature over a transcript (19 R517). -/
def signedTranscript (s : State) (th : Bytes) : Bytes := Config.aliasSign (runningDigest s 1) (s.component 1).runSvn th

/-- KEY_AGREEMENT_M1: the responder answers with M2: a ciphertext to the key it got, a nonce, its chain, its signature (19 R517). -/
def execKeyAgreementM1 (a : KeyMessage) (s : State) : Answer :=
  match keyBody 1 a.frags with
  | none => .next s
  | some m =>
    if !agreeing s a.port .awaitM1 then .next s
    else
      let hello := m.take (1216 + Config.chainLength (m.drop 1216))
      let r := s.draw
      let b := r.2.draw
      let s := b.2
      let answer := Config.kemCipher r.1 (m.take 1184) ++ Config.linkNonce b.1 ++ Config.certificateChain
      let th := transcript hello answer
      let x := { s.port a.port.val with
        agreement := .awaitM3, keyTranscript := th, keySecret := Config.kemSecretSent r.1 (m.take 1184) }
      .next (sendKeyMessage a.port 2 (answer ++ signedTranscript s th) (s.setPort a.port.val x))

/-- An abort goes to the peer and ends the exchange. -/
def abortAgreement (p : PortId) (s : State) : State := agreementFailed p (sendKeyMessage p 4 [] s)

/-- KEY_AGREEMENT_M2: the initiator verifies the responder and answers with M3, its own signature (19 R517, R518). -/
def execKeyAgreementM2 (a : KeyMessage) (proof : PeerProof) (s : State) : Answer :=
  match keyBody 2 a.frags with
  | none => .next s
  | some m =>
    if !agreeing s a.port .awaitM2 then .next s
    else if !goodProof proof s then .next (abortAgreement a.port s)
    else
      let x := s.port a.port.val
      let th := transcript x.keyHello (m.take (1120 + Config.chainLength (m.drop 1120)))
      let secret := Config.kemSecretGot x.keySeed (m.take 1088)
      .next (keysAgreed a.port true secret th (sendKeyMessage a.port 3 (signedTranscript s th) s))

/-- KEY_AGREEMENT_M3: the responder verifies the initiator (19 R518). -/
def execKeyAgreementM3 (a : KeyMessage) (proof : PeerProof) (s : State) : Answer :=
  match keyBody 3 a.frags with
  | none => .next s
  | some _ =>
    let x := s.port a.port.val
    if !agreeing s a.port .awaitM3 then .next s
    else if goodProof proof s then .next (keysAgreed a.port false x.keySecret x.keyTranscript s)
    else .next (abortAgreement a.port s)

/-- KEY_AGREEMENT_ABORT: an abort from either end. -/
def execKeyAgreementAbort (p : PortId) (s : State) : Answer :=
  .next (if (s.port p.val).agreement == .none then s else agreementFailed p s)

/-- KEY_SWITCH: a direction takes its next key, once; without one, the exchange for it begins, and a port whose old key has
reached its life enters QUARANTINE; during training it is acted on once that ends (R306, R315, 19 R518, R519). -/
def execKeySwitch (p : PortId) (transmit : Bool) (s : State) : Answer :=
  let x := s.port p.val
  if x.state.training then .next (s.setPort p.val { x with pendSwitch := true })
  else if !x.sealed || (x.state != .active && x.state != .quarantine) then .next s
  else if transmit && x.nextTx then
    .next (pumpPort p (eraseKey p false x.txPhase (s.setPort p.val { x with
      txPhase := !x.txPhase, txGroups := 0, nextTx := false })))
  else if !transmit && x.nextRx then
    .next (eraseKey p true x.rxPhase (s.setPort p.val { x with rxPhase := !x.rxPhase, rxGroups := 0, nextRx := false }))
  else if x.nextTx || x.nextRx then .next s
  else if x.txGroups ≥ keyLife || x.rxGroups ≥ keyLife then .next (quarantine p 6 s)
  else .next (startSwitch p s)

/-- KEY_SWITCH_RETRY: 1 ms after a failed exchange (19 R519). -/
def execKeySwitchRetry (p : PortId) (s : State) : Answer :=
  let x := s.port p.val
  match x.retryKeyAt with
  | some t =>
    if t ≤ s.clk && x.sealed && !(s.proc 0).down then
      .next (startAgreement p (s.setPort p.val { x with retryKeyAt := none }))
    else .next s
  | none => .next s

/-! ## APB_CTL (11 R317) -/

/-- A field whose zero leaves it unchanged. -/
def keepZero (old v : Word) (lo n : Nat) : Word := if bitsAt v lo n = 0 then setBits v lo n (bitsAt old lo n) else v

/-- A checked write of APB_CTL. -/
def writeApbCtl (p : PortId) (v : Word) (s : State) : Option State :=
  let x := s.port p.val
  if bitsAt v 1 2 = 3 || bitsAt v 4 2 = 3 || bitsAt v 16 24 = 0xFFFFFF || bitsAt v 40 8 = 0xFF || bitsAt v 48 8 = 0xFF then none
  else
    let kept := keepZero x.ctl (keepZero x.ctl (keepZero x.ctl (keepZero x.ctl v 4 2) 16 24) 40 8) 48 8
    let was := bitAt x.ctl 0
    let x := { x with ctl := setBits (setBits kept 8 1 0) 9 1 0 }
    let x := if bitAt v 9 then { x with ceSym := 0, ueCw := 0, crcFail := 0, fastRt := 0, fullRt := 0 } else x
    if !bitAt v 0 then
      some (dropLinkKeys p (s.setPort p.val { x.endExchange.unmapped with state := .disabled, replay := [], sealed := false }))
    else
      let s := s.setPort p.val x
      some (if !was || bitAt v 8 then fullRetrain p s else s)

end Sys2Proof.Machine
end

