-- ==== Sys2Proof/Machine/Ethernet.lean ====
section
/-! DEFINITION. The Ethernet ports and the sideband bus: link state, flow control, telemetry, notices, addresses (13
R381 to R390, 12 R351). -/

namespace Sys2Proof.Machine

/-- An Ethernet port. -/
def State.ethPort (s : State) (p : Nat) : EthPort := s.eth.get .reset p
/-- The state with an Ethernet port replaced. -/
def State.setEth (s : State) (p : Nat) (x : EthPort) : State := { s with eth := s.eth.set .reset p x }

/-- ETH_CTL.en. -/
def EthPort.en (x : EthPort) : Bool := bitAt x.ctl 0
/-- ETH_CTL.brk. -/
def EthPort.brk (x : EthPort) : Bool := bitAt x.ctl 1
/-- ETH_CTL.pfc for a priority. -/
def EthPort.lossless (x : EthPort) (prio : Nat) : Bool := bitAt x.ctl (8 + prio)

/-- ETH_STAT (13 R386). -/
def EthPort.statWord (x : EthPort) : Word := flagAt 0 x.up0 ||| flagAt 1 x.up1 ||| putAt 8 x.fmDrop

/-- The defined fields of ETH_CTL. -/
abbrev ethCtlMask : Word := 0x1FFFF07

/-- Frames whose priority is paused no more leave, in order; those of a port without a link are lost (13 R382; DESIGN CHOICE, log
entry 171). -/
def releaseFrames (p : Nat) (s : State) : State :=
  let x := s.ethPort p
  let free (w : FrameTag × EthFrame) : Bool := !x.paused.getLsbD w.1.prio
  if !(x.up0 || x.up1) then s.setEth p { x with waiting := [] }
  else (x.waiting.filter free).foldl (fun (s : State) (w : FrameTag × EthFrame) => s.emit (.frame p w.1 w.2))
    (s.setEth p { x with waiting := x.waiting.filter fun w => !free w })

/-- A checked write of ETH_CTL; none where a field is rejected. A port that is disabled has no link, and tel_ms 0 leaves the
period as it is (13 R386). -/
def writeEthCtl (p : Nat) (v : Word) (s : State) : Option State :=
  let x := s.ethPort p
  let changes := bitAt v 1 != bitAt x.ctl 1 || bitAt v 2 != bitAt x.ctl 2
  if bitsAt v 16 8 = 0xFF || (x.en && changes) then none
  else
    let v := if bitsAt v 16 8 = 0 then setBits v 16 8 (bitsAt x.ctl 16 8) else v
    let on := bitAt v 0
    some (releaseFrames p (s.setEth p { x with
      ctl := v &&& ethCtlMask
      up0 := x.up0 && on
      up1 := x.up1 && on
      paused := x.paused &&& BitVec.ofNat 8 (bitsAt v 8 8) }))

/-- ETH_LINK_UP: a port, or a sub-port in breakout, has trained (13 R381). -/
def execEthLinkUp (port : Fin 2) (upper : Bool) (s : State) : Answer :=
  let x := s.ethPort port.val
  if !portsRun s || !x.en || (upper && !x.brk) then .next s
  else .next (s.setEth port.val (if upper then { x with up1 := true } else { x with up0 := true }))

/-- ETH_LINK_DOWN. -/
def execEthLinkDown (port : Fin 2) (upper : Bool) (s : State) : Answer :=
  let x := s.ethPort port.val
  .next (releaseFrames port.val (s.setEth port.val (if upper then { x with up1 := false } else { x with up0 := false })))

/-- PRIORITY_FLOW_CONTROL_FRAME: a priority set in ETH_CTL.pfc pauses or resumes, and what it held leaves (13 R382). -/
def execPriorityFlowControlFrame (port : Fin 2) (prio : Fin 8) (pause : Bool) (s : State) : Answer :=
  let x := s.ethPort port.val
  if !x.lossless prio.val || !(x.up0 || x.up1) then .next s
  else
    let bit := 1#8 <<< prio.val
    .next (releaseFrames port.val (s.setEth port.val { x with
      paused := if pause then x.paused ||| bit else x.paused &&& ~~~bit }))

/-- A telemetry datagram (13 R385). -/
def telemetryBytes (s : State) (x : EthPort) : Bytes :=
  leBytes 2 (ownChip s).toNat ++ zeros 6 ++ leBytes 8 s.plumb.now.toNat ++ leBytes 4 x.telSeq.toNat ++ zeros 12
    ++ (List.range' 1 8).flatMap fun i =>
      leBytes 2 i ++ zeros 2 ++ leBytes 4 (match sensorValue s i with | some v => v | none => 0)

/-- TELEMETRY_SEND: every tel_ms while tel_en is 1 (13 R385). -/
def execTelemetrySend (port : Fin 2) (s : State) : Answer :=
  let x := s.ethPort port.val
  let due := decide (x.telClk + bitsAt x.ctl 16 8 * msEdges ≤ s.clk)
  if !bitAt x.ctl 24 || !(x.up0 || x.up1) || !s.ethFm || !due then .next s
  else
    let data := telemetryBytes s x
    .next (sendFrame port.val tagTelemetry (.datagram (portMac s port.val) (fmAddress s) data)
      (s.setEth port.val { x with telSeq := x.telSeq + 1, telClk := s.clk }))

/-- EVENT_NOTICE: the gateway forwards another chip's notice over Ethernet (12 R351). -/
def execEventNotice (payload : Bytes) (s : State) : Answer :=
  .next (if gateway s = ownChip s && gateway s != noChip then fmDatagram payload s else s)

/-! ## The sideband (13 R387 to R389, 18 R484, R496) -/

/-- The I3C target is powered and clocked. -/
def busUp (s : State) : Bool := portsRun s && s.pins.pwrGood

/-- The sideband answers: from the end of phase 0x3, and not in recovery but for firmware update. -/
def sidebandUp (s : State) : Bool := busUp s && (s.boot.done || decide (3 < s.boot.phase)) && !s.boot.recovery

/-- The device takes a dynamic address. -/
def takeAddress (addr : BitVec 7) (s : State) : State :=
  if (s.boot.done || decide (3 < s.boot.phase)) && busUp s then
    ({ s with pins := { s.pins with i3cAddr := some addr } }).emit (.i3cAck addr)
  else s

/-- ENTDAA: a target without a dynamic address takes one. -/
def execEntdaa (addr : BitVec 7) (s : State) : Answer := .next (if s.pins.i3cAddr.isNone then takeAddress addr s else s)

/-- SETDASA: a dynamic address given by the static address 0x5C. -/
def execSetdasa (addr : BitVec 7) (s : State) : Answer := .next (if s.pins.i3cAddr.isNone then takeAddress addr s else s)

/-- ENDPOINT_ID_ASSIGNMENT: the bus owner assigns the MCTP endpoint ID. -/
def execEndpointIdAssignment (eid : BitVec 8) (s : State) : Answer :=
  .next (if sidebandUp s && s.pins.i3cAddr.isSome then { s with pins := { s.pins with mctpEid := some eid } } else s)

/-- PLDM completion codes: success, and an unknown sensor (DSP0240, DSP0248). -/
abbrev pldmOk : Nat := 0
/-- Completion code. -/
abbrev pldmBadSensor : Nat := 0x80

/-- GET_SENSOR_READING (13 R389). -/
def execGetSensorReading (id : BitVec 16) (s : State) : Answer :=
  if !sidebandUp s then .next s
  else match sensorValue s id.toNat with
    | some v => .next (State.sendMctp false (.pldmReply pldmOk (leBytes 4 v)) s)
    | none => .next (State.sendMctp false (.pldmReply pldmBadSensor []) s)

end Sys2Proof.Machine
end

