-- ==== Sys2Proof/Machine/CopyCmd.lean ====
section
/-! DEFINITION. The COPY command: its checks, its accesses of host memory, its completion (10 R276, 13 R373 to R377,
16 R466). -/

namespace Sys2Proof.Machine

/-- The COPY of a queue. -/
def copyRunOf (s : State) (q : SqId) : Option CopyRun :=
  match (s.sq q.val).cmd with
  | some r => match r.work with
    | .copy c => some c
    | _ => none
  | none => none

/-- The COPY of a queue changed by `f`. -/
def changeCopy (q : SqId) (f : CopyRun → CopyRun) (s : State) : State :=
  match copyRunOf s q with
  | some r => setWork q (.copy (f r)) s
  | none => s

/-- An access at an offset has failed: the lowest is kept (R276). -/
def CopyRun.failAt (r : CopyRun) (off : Nat) : CopyRun :=
  { r with failedAt := some (match r.failedAt with | some o => min o off | none => off) }

/-- Bytes of the line of host memory at `a + off` that an access moves: the line's address, the place in the line, the
count (13 R373). -/
def hostPiece (a off len : Nat) : Nat × Nat × Nat :=
  let at_ := (a + off) % 64
  (a + off - at_, at_, min (64 - at_) (len - off))

/-- Offsets `off` to `off + n - 1`. -/
def offsets (off n : Nat) : List Nat := List.range' off n

/-! ## Reads (13 R375, R377, R380) -/

/-- No further read starts: the one at `next` fails, and nothing behind it arrives. -/
def copyReadsEnd (q : SqId) (a : Nat) (s : State) : State :=
  match copyRunOf s q with
  | some r =>
    let k := failKind false s
    let s := changeCopy q (fun r => { r.failAt r.next with
      lost := r.lost.setAll false (offsets r.next (r.len - r.next)) fun _ => true, next := r.len }) k.2
    hostRecord (hostPiece a r.next r.len).1 k.1 s
  | none => s

/-- Reads of a COPY are issued while slots are ready. -/
def pumpReads (q : SqId) (a : Nat) : Nat → State → State
  | 0, s => s
  | n + 1, s =>
    match copyRunOf s q with
    | none => s
    | some r =>
      if r.next ≥ r.len then s
      else if !hostOpen s then copyReadsEnd q a s
      else if !hostAllowed s (s.sq q.val).context then
        copyReadsEnd q a (fenceContext (s.sq q.val).context s)
      else if !readsOpen s then s
      else
        let p := hostPiece a r.next r.len
        match startRead (.copyLine q r.next p.2.1 p.2.2) p.1 s with
        | none => s
        | some s =>
          pumpReads q a n (changeCopy q (fun r => { r with next := r.next + p.2.2, outstanding := r.outstanding + 1 }) s)

/-- Reads of the COPY of a queue go on. -/
def moreReads (q : SqId) (s : State) : State :=
  match copyRunOf s q with
  | some r => match r.src with
    | .host a => pumpReads q a (r.len / 64 + 2) s
    | .dram _ => s
  | none => s

/-- The bytes of a line have come: those of offset `off` on (13 R375, 15 R428). -/
def copyData (q : SqId) (off lineOff count : Nat) (line : Bytes) (poison : Bool) (s : State) : State :=
  changeCopy q (fun r => { r with
    outstanding := r.outstanding - 1
    received := r.received.setAll 0 (offsets off count) fun o => byteAt line (lineOff + (o - off))
    tainted := if poison then r.tainted.setAll false (offsets off count) fun _ => true else r.tainted
    poisoned := r.poisoned || poison }) s

/-- A read of a COPY has failed: its bytes are lost (R276). -/
def copyReadFailed (q : SqId) (off count : Nat) (s : State) : State :=
  changeCopy q (fun r => { r.failAt off with
    outstanding := r.outstanding - 1
    lost := r.lost.setAll false (offsets off count) fun _ => true }) s

/-! ## Writes (13 R373, R374, R377) -/

/-- A write of a COPY has its answer. -/
def copyWriteEnded (q : SqId) (off : Nat) (ok : Bool) (s : State) : State :=
  changeCopy q (fun r => { (if ok then r else r.failAt off) with outstanding := r.outstanding - 1 }) s

/-- The line and the byte enables of a piece. -/
def pieceLine (at_ : Nat) (bs : Bytes) : Bytes × List Bool :=
  (zeros at_ ++ fitTo (64 - at_) bs, (List.range 64).map fun i => decide (at_ ≤ i) && decide (i < at_ + bs.length))

/-- No further write starts: the one at `next` fails. -/
def copyWritesEnd (q : SqId) (a : Nat) (s : State) : State :=
  match copyRunOf s q with
  | some r =>
    let k := failKind true s
    hostRecord (hostPiece a r.next r.len).1 k.1 (changeCopy q (fun r => { r.failAt r.next with next := r.len }) k.2)
  | none => s

/-- The writes of a COPY to host memory are issued; a line that carries a poisoned word is written poisoned
(15 R428). -/
def pumpWrites (q : SqId) (src a : Nat) : Nat → State → State
  | 0, s => s
  | n + 1, s =>
    match copyRunOf s q with
    | none => s
    | some r =>
      if r.next ≥ r.len then s
      else if !hostOpen s then copyWritesEnd q a s
      else if !hostAllowed s (s.sq q.val).context then copyWritesEnd q a (fenceContext (s.sq q.val).context s)
      else
        let p := hostPiece a r.next r.len
        let bad := s.poisonedVia r.pages (src + r.next) p.2.2
        let l := pieceLine p.2.1 (s.bytesVia r.pages (src + r.next) p.2.2)
        let s := startWrite (.copyLine q r.next) p.1 l.1 l.2 bad s
        let on (r : CopyRun) : CopyRun :=
          { r with next := r.next + p.2.2, outstanding := r.outstanding + 1, poisoned := r.poisoned || bad }
        pumpWrites q src a n (changeCopy q on s)

/-! ## COPY and its end (R276) -/

/-- An end of the extents that a COPY names. -/
def copyEnd (b : BufDesc) (off : Nat) : CopyEnd := if b.dram then .dram (b.base + off) else .host (b.base + off)

/-- Two extents in context DRAM meet (R276). -/
def endsMeet (a b : CopyEnd) (len : Nat) : Bool :=
  match a, b with
  | .dram x, .dram y => runsMeet (x, len) (y, len)
  | _, _ => false

/-- A failing check 3 among several fields of a COPY: the lowest offset; poison of a descriptor is POISONED. -/
def checkThree : List (Check Unit) → Check Unit
  | [] => .ok ()
  | .ok _ :: rest => checkThree rest
  | .error f :: rest =>
    match checkThree rest with
    | .ok _ => .error f
    | .error g => .error (if f.status = g.status ∧ g.info < f.info then g else f)

/-- Check 4 of an end: text pages refuse a write (R288). -/
def endPages (s : State) (k : CtxId) (e : CopyEnd) (len : Nat) (need : Need) (t : Table Nat) : Check (Table Nat) :=
  match e with
  | .dram a => pagesCheck s k a len need true t
  | .host _ => .ok t

/-- The checks of a COPY over its descriptors and extents: what it will do. -/
def copyChecks (s : State) (k : CtxId) (bs : Bytes) : Check CopyRun := do
  let len := leAt bs 40 8
  let soff := leAt bs 24 8
  let doff := leAt bs 32 8
  let src := bufDesc s k (leAt bs 16 2) 16 false false
  let dst := bufDesc s k (leAt bs 18 2) 18 true false
  checkThree [src.map fun _ => (), dst.map fun _ => (), src.bind fun b => extentCheck b soff len 24,
    dst.bind fun b => extentCheck b doff len 32,
    src.bind fun a => dst.bind fun b => if a.dram || b.dram then pure () else invalidAt 18,
    src.bind fun a => dst.bind fun b => if endsMeet (copyEnd a soff) (copyEnd b doff) len then invalidAt 32 else pure ()]
  let a ← src
  let b ← dst
  let t ← endPages s k (copyEnd a soff) len needRead .empty
  let t ← endPages s k (copyEnd b doff) len needWrite t
  pure ⟨copyEnd a soff, copyEnd b doff, len, t, 0, 0, none, false, .empty, .empty, .empty⟩

/-- A COPY begins its accesses. -/
def beginCopy (q : SqId) (r : CopyRun) (s : State) : State :=
  let s := setWork q (.copy r) s
  match r.src, r.dst with
  | .host _, _ => moreReads q s
  | .dram a, .host b => pumpWrites q a b (r.len / 64 + 2) (s.touchVia r.pages a r.len)
  | .dram _, .dram _ => s

/-- COPY. -/
def copyBody (q : SqId) (k : CtxId) (bs : Bytes) (s : State) : State :=
  let s := touchDescs k [16, 18] bs s
  settleCmd q s do
    let len := leAt bs 40 8
    fieldCheck bs ((40, allOnes64 len) :: (mustBeZero bs 20 4 ++ mustBeZero bs 48 16))
    if len = 0 then return complete q { status := stSuccess } s
    let r ← copyChecks s k bs
    pure (beginCopy q r s)

/-- COPY (R276). -/
def execCopyCmd (sq : SqId) (hostBytes : Bytes) (s : State) : Answer :=
  runCmd sq hostBytes (fun o => o == 5) (copyBody sq) s

/-- What a COPY from host memory leaves at its destination: the bytes received; a word that carries a poisoned byte,
and every line with a byte that never came, poisoned (R276, 15 R428). -/
def landCopy (r : CopyRun) (a : Nat) (s : State) : State :=
  let dev (o : Nat) : Nat := devAddr r.pages (a + o)
  let lost (o : Nat) : Bool := r.lost.get false o
  let bs := (List.range r.len).map fun o => if lost o then s.byte (dev o) else r.received.get 0 o
  let badLines := (r.lost.rows.map fun p => dev p.1 / 64).dedup
  let badWords := (r.tainted.rows.map fun p => dev p.1 / 8).dedup
  let s := s.writeVia r.pages a bs fun w => badWords.contains w
  badLines.foldl (fun s l => s.writePoison (64 * l) 64) s

/-- The journal's record of a COPY from host memory (16 R466). -/
def journalCopy (q : SqId) (k : CtxId) (r : CopyRun) (a : Nat) (s : State) : State :=
  let got := (List.range r.len).filter fun o => !r.lost.get false o
  journalBytes k { kind := 0x04, src := q.val, addr := a, poisoned := r.poisoned } (got.map fun o => r.received.get 0 o) s

/-- The status of a COPY whose accesses have all ended (R274, R276). -/
def CopyRun.result (r : CopyRun) : Result :=
  match r.failedAt with
  | some o => { status := stHost, info := o }
  | none => { status := if r.poisoned then stPoisoned else stSuccess }

/-- The bytes of a COPY reach their destination. -/
def moveCopy (q : SqId) (r : CopyRun) (s : State) : State × CopyRun :=
  match r.src, r.dst with
  | .dram a, .dram b =>
    let p := copyRun r.pages a b r.len s
    (p.1, { r with poisoned := r.poisoned || p.2 })
  | .host _, .dram b => (landCopy r b (journalCopy q (s.sq q.val).context r b s), r)
  | _, _ => (s, r)

/-- The first byte of a COPY's destination in a text page, mapped before the generation existed: the write is refused (10 R288). -/
def copyRefusedAt (r : CopyRun) (s : State) : Option Nat :=
  match r.dst with
  | .dram b => ((extentPages b r.len).find? fun p => s.textPage (devAddr r.pages (p * pageBytes) / pageBytes)).map fun p =>
      max b (p * pageBytes)
  | .host _ => none

/-- COPY_COMPLETE: every access that the COPY issued has ended, and none is left to issue. -/
def execCopyComplete (sq : SqId) (s : State) : Answer :=
  let s := moreReads sq s
  match copyRunOf s sq with
  | some r =>
    let issued := match r.src, r.dst with
      | .dram _, .dram _ => true
      | _, _ => decide (r.next ≥ r.len)
    if !issued || r.outstanding != 0 then .next s
    else match copyRefusedAt r s with
    | some va =>
      .next (complete sq { status := stTranslation } (recordWalkFault (s.sq sq.val).context va .permission needWrite s))
    | none =>
      let p := moveCopy sq r s
      .next (complete sq p.2.result p.1)
  | none => .next s

end Sys2Proof.Machine
end

