-- ==== Sys2Proof/Machine/CoreFaults.lean ====
section
/-! DEFINITION. How a fault stops a core and its context (06 R167 to R170, 10 R281, R291). -/

namespace Sys2Proof.Machine

/-! ## Stopping a core (R168) -/

/-- The core has stopped issuing: its mover discards what has not begun, a wait is abandoned, its port sends what it
holds. -/
def stopWork (c : CoreId) (s : State) : State :=
  let s := { s with fab := { s.fab with ops := s.fab.ops.filter fun o => !o.unmoved c } }
  let s := dropWaits (.core c) (s.setCore c.val { s.core c.val with mover := [] })
  movePort c s

/-- The fault registers of a record (R170). -/
def FaultRec.word0 (f : FaultRec) : Word :=
  putAt 0 f.cause ||| putAt 8 f.detail ||| putAt 16 f.unit ||| putAt 19 f.eng ||| putAt 21 f.prec ||| flagAt 23 f.more
    ||| putAt 24 f.lane ||| flagAt 63 true

/-- A core that has written its fault registers. -/
def CoreSt.recorded (v : CoreSt) (f : FaultRec) (st : SeqState) : CoreSt :=
  { v with
    flt0 := f.word0
    flt1 := f.pc.setWidth 64
    flt2 := f.addr.setWidth 64 ||| (f.chip.setWidth 64 <<< 48)
    flt3 := f.insn
    fault := none
    hold := .none
    stopping := false
    seqState := st }

/-- Entries of the completion of a launch that a context fault ends before it starts (R281). -/
def endUnstarted (k : CtxId) (f : CtxFault) (s : State) (n : Nat) : State :=
  let q : SqId := Fin.ofNat 1024 n
  match (s.sq n).cmd with
  | some run => match run.work with
    | .launch l =>
      if l.started || l.branches.any fun b => b.cores.any fun c =>
          (s.core c.val).seqState == .running && (s.core c.val).context == k then s
      else complete q { status := stFault, fault := some f, info := f.pc.toNat } s
    | _ => s
  | none => s

/-- The started launch of a queue completes if all its parts are over; a co-launch branch has its own event (R280, R283). -/
def settleQueue (s : State) (n : Nat) : State :=
  match (s.sq n).cmd with
  | some run => match run.work with
    | .launch l => if l.isCo then s else settleBranch (Fin.ofNat 1024 n) 0 s
    | _ => s
  | none => s

/-- The launches of a faulted context that are over by now, in the order of their queues (R269, R280, R281). -/
def settleFaulted (k : CtxId) (f : CtxFault) (s : State) : State :=
  (queuesOf s k).foldl (fun s n => endUnstarted k f (settleQueue s n) n) s

/-- After a core has stopped: its launch may complete, and launches of a faulted context that never started (R280,
R281). -/
def afterStop (c : CoreId) (s : State) : State :=
  let k := (s.core c.val).context
  match (s.ctx k.val).fault, (s.ctx k.val).faultRaised with
  | some f, false => settleFaulted k f s
  | _, _ => settleLaunch c s

/-- The context fault that the signal of core `c` leaves: the first by arrival stamp, and of those of one cycle that of the lower
core (R169). -/
def Ctx.signalled (x : Ctx) (f : CtxFault) : Ctx :=
  match x.fault with
  | none => { x with fault := some f, faultRaised := true }
  | some g => if x.faultRaised && g.clk == f.clk && decide (f.core < g.core) then { x with fault := some f } else x

/-- CORE_FAULT_RECORD: once the executors are idle, the core writes SEQ_FLT, stops, and signals its cluster; the first
signal of a context is its context fault (R168, R169). An instruction that a self-test visit holds runs first. -/
def execCoreFaultRecord (c : CoreId) (s : State) : Answer :=
  if (s.core c.val).fault.isNone || (s.core c.val).seqState != .running || (s.core c.val).visitHeld then .next s
  else
    let s := stopWork c s
    let v := s.core c.val
    match v.fault with
    | none => .next s
    | some f =>
      if !v.port.isEmpty then .next s
      else
        let s := s.setCore c.val (v.recorded f .ownFault)
        let s := s.setCtx v.context.val ((s.ctx v.context.val).signalled ⟨c, f.cause, f.detail, f.pc, s.clk⟩)
        .next (afterStop c s)

/-- A COPY that is over leaves its outstanding accesses without an owner. -/
def disownCopy (q : SqId) (s : State) : State :=
  let freed (x : ReadSlot) : ReadSlot := match x.use with
    | some (.copyLine n _ _ _) => if n = q then { x with use := some (.orphaned q) } else x
    | _ => x
  let left (w : HostWrite) : HostWrite := match w.use with
    | .copyLine n _ => if n = q then { w with use := .orphanedCopy } else w
    | _ => w
  { s with host := { s.host with slots := s.host.slots.mapAll .reset freed
                                 writes := s.host.writes.map left } }

/-- A command other than a launch ends with ABORTED (R281). -/
def abortOther (s : State) (n : Nat) : State :=
  let q : SqId := Fin.ofNat 1024 n
  match (s.sq n).cmd with
  | some run => match run.work with
    | .launch _ => s
    | _ => disownCopy q (dropWaits (.queue q) (cutShort q stAborted s))
  | none => s

/-- The queues of a context halt (R291). -/
def haltQueues (k : CtxId) (s : State) : State :=
  (queuesOf s k).foldl (fun s n => s.setSq n (s.sq n).haltForContext) s

/-- The other running cores of a context stop issuing (R168). -/
def stopCores (k : CtxId) (s : State) : State :=
  { s with cores := s.cores.mapAll .reset fun v =>
      if v.seqState == .running && v.context == k then { v with stopping := true } else v }

/-- CONTEXT_FAULT: the front end stops every other core of the context, ends its commands and halts its queues (R168,
10 R281, R291). -/
def execContextFault (ctx : CtxId) (s : State) : Answer :=
  let x := s.ctx ctx.val
  match x.faultRaised, x.fault with
  | true, some f =>
    let s := stopCores ctx (s.setCtx ctx.val { x with faultRaised := false })
    let end_ (s : State) (n : Nat) : State := endUnstarted ctx f (settleQueue (abortOther s n) n) n
    .next (haltQueues ctx ((queuesOf s ctx).foldl end_ s))
  | _, _ => .next s

/-- The word at a pc, as a fetch reads it: 0 where it cannot be read. -/
def fetchedWord (s : State) (k : CtxId) (pc : Addr) : Word :=
  match walk s k pc.toNat { x := true } with
  | .ok pa => if s.poisonedIn pa 8 then 0 else BitVec.ofNat 64 (leNat (s.bytes pa 8))
  | .error _ => 0

/-- CONTEXT_STOP: a core that its context stopped records CONTEXT_STOP once its executors are idle; whether the word at
its pc has been fetched is left open (R168). -/
def execContextStop (c : CoreId) (s : State) : Answer :=
  let v := s.core c.val
  if !v.stopping || v.fault.isSome || v.seqState != .running || v.visitHeld then .next s
  else
    let s := stopWork c s
    let v := s.core c.val
    if v.fault.isSome || !v.port.isEmpty then .next s
    else
      let p := s.choose
      let insn := if p.1 then fetchedWord s v.context v.pc else 0
      .next (afterStop c (p.2.setCore c.val (v.recorded ⟨causeContextStop, 0, unitSequencer, 0, 0, 0, v.pc, 0, 0, insn, false⟩
        .ctxStopped)))

end Sys2Proof.Machine
end

