-- ==== Sys2Proof/Machine/Resets.lean ====
section
/-! DEFINITION. Context, core and partition resets: fence, stop, settle, reset, unfence; reset generations; what a
chip reset makes wait (14 R394 to R401, R406, R409, R410, R414). -/

namespace Sys2Proof.Machine

/-! ## Stop and settle (R396, R397) -/

/-- A line of an abandoned operation's destination: its words are the old ones or, by choice, the new ones; a line in progress
completes (R397, R398). -/
def halfLine (o : MoverOp) (done : State) (s : State) (line : Nat) : State :=
  let p := s.choose
  if p.1 then (o.writeWords.filter fun w => w / 8 == line).foldl (fun t w => t.putWord w done.mem done.poison) p.2 else p.2

/-- A data-mover operation is abandoned at a line boundary: no semaphore is signalled, and a digest is not written (R397,
R398). -/
def abandonOp (c : CoreId) (s : State) (o : MoverOp) : State :=
  match o.kind with
  | .hash _ => s
  | _ => ((o.writeWords.map fun w => w / 8).dedup).foldl (halfLine o (moverEffect c o s).1) s

/-- Every operation of a core's mover is abandoned. -/
def abandonMover (c : CoreId) (s : State) : State :=
  let s := (s.core c.val).mover.foldl (abandonOp c) s
  s.setCore c.val { s.core c.val with mover := [] }

/-- A core stopped by a reset: no fault is recorded, nothing it waits for or holds remains (R397). -/
def CoreSt.halted (v : CoreSt) : CoreSt :=
  { v with
    seqState := if v.seqState == .running then .ctxStopped else v.seqState
    hold := if v.visitHeld then v.hold else .none
    fault := none
    stopping := false
    port := []
    readBuf := [] }

/-- The cores that work for a context, or last did and have not become idle. -/
def coresOf (s : State) (k : CtxId) : List CoreId :=
  (s.cores.rows.filter fun r => r.2.seqState != .idle && r.2.context == k).map fun r => Fin.ofNat 256 r.1

/-- One core stops and settles. -/
def settleCore (s : State) (c : CoreId) : State :=
  let s := dropWaits (.core c) (abandonMover c s)
  s.setCore c.val (s.core c.val).halted

/-- Host-read slots of a queue are abandoned, those of a COPY that has ended without them too (13 R376). -/
def abandonReads (q : SqId) (s : State) : State :=
  (s.host.slots.rows.filter fun r => match r.2.use with
    | some u => u.queue == q
    | none => false).foldl (fun s r => abandonSlot r.1 s) s

/-- Whether the fetch of a queue's next command is on its way when a reset takes hold is left open: by choice its read has been
issued, and its slot is abandoned (13 R376; DESIGN CHOICE, log entry 160). -/
def abandonFetch (q : SqId) (s : State) : State :=
  if (s.sq q.val).inDram || !canStart s q || !fetchRoom s q then s
  else
    let p := s.choose
    match readySlot p.2 with
    | some i => if p.1 then abandonSlot i (issueRead i (.fetch q) (s.sq q.val).entryAddr p.2) else p.2
    | none => p.2

/-- A command in progress will complete with ABORTED; its pins are released (R397). -/
def abortCmd (k : CtxId) (s : State) (n : Nat) : State :=
  let q : SqId := Fin.ofNat 1024 n
  let s := disownCopy q (abandonReads q (dropWaits (.queue q) (cutShort q stAborted (abandonFetch q s))))
  match (s.sq n).cmd with
  | some run => (unpinGens k run.pins s).setSq n { s.sq n with cmd := some { run with pins := [] } }
  | none => s

/-- Steps 1 to 3 of a reset of a context (R396, R397). -/
def settleContext (k : CtxId) (s : State) : State :=
  let s := s.setCtx k.val { s.ctx k.val with faultRaised := false }
  let s := haltQueues k ((queuesOf s k).foldl (abortCmd k) s)
  let s := (coresOf s k).foldl settleCore s
  let s := { s with fab := { s.fab with ops := s.fab.ops.filter fun o => o.ctx != k } }
  breakBlocked k (freeEntries k (abandonSlots (fun c => c == k) s))

/-! ## Generations (R399) -/

/-- Whether the context held its generation's value within the last end-to-end time. -/
def genRecent (s : State) (c : Ctx) : Bool :=
  c.genHeld.any fun h => h.1 == c.gen && decide (s.clk < h.2 + e2eEdges s)

/-- The generation advances by 1; while its new value is too young, .R operations wait (R399). -/
def advanceGen (k : CtxId) (s : State) : State :=
  let c := s.ctx k.val
  let held := (c.gen, s.clk) :: c.genHeld.filter fun h => decide (s.clk < h.2 + e2eEdges s)
  let c := { c with gen := c.gen + 1, genHeld := held }
  s.setCtx k.val { c with genAging := genRecent s c }

/-- RESET_GENERATION_AGED: the value has aged, and what waited is sent. -/
def execResetGenerationAged (ctx : CtxId) (s : State) : Answer :=
  let c := s.ctx ctx.val
  if !c.genAging || genRecent s c then .next s
  else .next (sendHeld (s.setCtx ctx.val { c with genAging := false }))

/-- POST_RESET_HOLD_END: the end-to-end time has passed since the end of skim boot (R401). -/
def execPostResetHoldEnd (s : State) : Answer :=
  match s.rst.remoteHold with
  | some t =>
    if s.clk < t + e2eEdges s then .next s
    else .next (sendHeld { s with rst := { s.rst with remoteHold := none } })
  | none => .next s

/-! ## Reset and unfence (R397, R398, R406) -/

/-- Memory of a range at zero, with good check bits and no poison. -/
def zeroRange (lo n : Nat) (s : State) : State :=
  let inW (w : Nat) : Bool := decide (lo ≤ 8 * w) && decide (8 * w < lo + n)
  { s with
    mem := s.mem.drop fun a => decide (lo ≤ a) && decide (a < lo + n)
    poison := s.poison.drop inW
    latent := s.latent.drop inW }

/-- A core idle again, its fault registers clear (R397). -/
def CoreSt.released (v : CoreSt) : CoreSt :=
  { v with seqState := .idle, flt0 := 0, flt1 := 0, flt2 := 0, flt3 := 0, launch := none }

/-- What a core reset clears beside (R398). -/
def CoreSt.wiped (v : CoreSt) : CoreSt :=
  { v with
    engines := v.engines.mapAll .reset EngineSt.cleared
    hold := .none
    stipple := .empty
    seeded := false
    ntmSat := 0
    ntmFlush := 0
    ntmNan := 0
    ntmInf := 0
    ntmStat := 0
    stbCtl := 0 }

/-- A core returns to idle, unless its self-test has failed (R397, R406). -/
def releaseCore (s : State) (c : CoreId) : State :=
  if s.rst.failedCores.contains c then s else s.setCore c.val (s.core c.val).released

/-- The contexts that ran on a core since its units' previous passing visits (R406, 15 R438). -/
def ranOn (s : State) (c : CoreId) : List CtxId :=
  (s.bst.ranVec.get [] c.val ++ (List.range 4).flatMap fun e => s.bst.ranEng.get [] (4 * c.val + e)).dedup

/-- The self-test of a core has failed: it stays stopped, a BST record taints, its cluster is marked bad (R406). -/
def selfTestFailed (c : CoreId) (s : State) : State :=
  let s := logError { atCore s 0x01 c { cause := 0x0C, sev := sevUncontained } with taints := some (ranOn s c) } s
  let s := { s with rst := { s.rst with
    badCl := s.rst.badCl ||| (1#16 <<< (c.val / 16))
    failedCores := if s.rst.failedCores.contains c then s.rst.failedCores else s.rst.failedCores ++ [c] } }
  s.setCore c.val { s.core c.val with seqState := .ownFault }

/-- A core reset (R398, R406). -/
def resetCore (failed : List CoreId) (s : State) (c : CoreId) : State :=
  let s := zeroRange (localBase + c.val * localSize) localSize s
  let s := { s with rst := { s.rst with failedCores := s.rst.failedCores.filter fun d => d != c } }
  let s := s.setCore c.val (s.core c.val).wiped.released
  if failed.contains c then selfTestFailed c s else s

/-- Cores of a partition. -/
def partitionOf (s : State) (k : CtxId) : List CoreId := allCores.filter fun c => (s.ctx k.val).hasCore c.val
/-- Clusters of a partition. -/
def clustersOf (s : State) (k : CtxId) : List Nat := (List.range 16).filter (s.ctx k.val).hasCluster

/-- Step 4 of a context reset (R397). -/
def clearContext (k : CtxId) (s : State) : State :=
  let s := (coresOf s k).foldl releaseCore s
  let c := s.ctx k.val
  let s := zeroSems (fun key => (clustersOf s k).any (fun n => clusterSems n key) || allottedSems c key) s
  s.setCtx k.val { c with tainted := false, fault := none, faultRaised := false }

/-- Step 4 of a rung (R398). -/
def clearDomain (k : CtxId) (r : ResetRun) (failed : List CoreId) (s : State) : State :=
  let s := clearContext k s
  match r.rung with
  | .context => s
  | .core => r.cores.foldl (resetCore failed) s
  | .partition =>
    let s := (partitionOf s k).foldl (resetCore failed) s
    (clustersOf s k).foldl (fun s n => zeroRange (clusterBase + n * clusterSize) clusterSize s) s

/-- RST_CTX.last (R414). -/
def Rung.code : Rung → BitVec 3
  | .context => 1 | .partition => 2 | .core => 3

/-- An executor of a core of the context still holds an instruction that waits for a self-test visit; the unit of a core under
reset is not visited (15 R437). -/
def settling (s : State) (k : CtxId) (r : ResetRun) : Bool :=
  r.rung == .context && s.cores.rows.any fun c => c.2.visitHeld && c.2.context == k

/-- Steps 4 and 5 of the reset in progress (R396). -/
def completeReset (ctx : CtxId) (failedSelfTest : List CoreId) (s : State) : State :=
  match (s.ctx ctx.val).resetRun with
  | none => s
  | some r =>
    if settling s ctx r then s
    else
    let s := clearDomain ctx r failedSelfTest s
    s.setCtx ctx.val { s.ctx ctx.val with resetRun := none, rstLast := r.rung.code }

/-! ## Requests (R409, R414) -/

/-- How wide a rung is. -/
def Rung.width : Rung → Nat
  | .context => 0 | .core => 1 | .partition => 2

/-- A reset is requested: it starts, joins one in progress, or overtakes it (R409). The generation advances as the reset starts,
as the example of the chapter has it, and once for those that complete together (DESIGN CHOICE, log entry 155). -/
def startReset (k : CtxId) (rung : Rung) (cores : List CoreId) (s : State) : State :=
  let c := s.ctx k.val
  match c.resetRun with
  | none =>
    let s := advanceGen k (settleContext k s)
    s.setCtx k.val { s.ctx k.val with resetRun := some ⟨rung, cores, s.clk⟩ }
  | some r =>
    if r.rung.width < rung.width then settleContext k (s.setCtx k.val { c with resetRun := some ⟨rung, cores, s.clk⟩ })
    else if rung == .core && r.rung == .core then
      s.setCtx k.val { c with resetRun := some { r with cores := (r.cores ++ cores).dedup } }
    else s

/-- A write of RST_CTX (R414). -/
def writeRstCtx (k : CtxId) (v : Word) (s : State) : Option State :=
  let c := s.ctx k.val
  let core := bitsAt v 8 8
  let s' := s.setCtx k.val { c with rstCore := BitVec.ofNat 8 core }
  match bitsAt v 0 2 with
  | 0 => some s'
  | 1 => some (if c.en then startReset k .context [] s' else s')
  | 2 => if c.en then some (startReset k .partition [] s') else none
  | _ => if c.en && c.hasCore core then some (startReset k .core [Fin.ofNat 256 core] s') else none

/-- RST_CTX as it reads (R414). -/
def rstCtxWord (c : Ctx) : Word :=
  putAt 8 c.rstCore.toNat ||| flagAt 16 c.resetRun.isSome ||| putAt 17 c.rstLast.toNat ||| flagAt 20 c.tainted
    ||| putAt 24 c.gen.toNat ||| putAt 32 c.late

/-! ## Resets that the device starts (R402, R410, the ladder) -/

/-- Where a RESET record lies, by rung (15 R447). -/
def Rung.place (s : State) (k : CtxId) (rung : Rung) (cores : List CoreId) (r : ErrRec) : ErrRec :=
  match rung, cores with
  | .core, c :: _ => { r with loc := 0x01, lidx := c.val, pidx := physCore s c.val }
  | .partition, _ => atPlace 0x06 (s.ctx k.val).first r
  | _, _ => atPlace 0x00 0 r

/-- The device starts a reset by itself: it records the rung, the domain and the cause of the detection, under the code of an
uncorrectable error in a memory (DESIGN CHOICE, log entry 158); a reset in progress that is as wide absorbs it (R402, R410). -/
def deviceReset (k : CtxId) (rung : Rung) (cores : List CoreId) (cause : Nat) (s : State) : State :=
  let r : ErrRec := { cause := 0x16, sev := sevReset, names := some k, info0 := rung.code.toNat, info1 := cause }
  startReset k rung cores (logError (rung.place s k cores r) s)

/-- The enabled context whose domain satisfies `p`. -/
def ownerOf (s : State) (p : Ctx → Bool) : Option CtxId := allCtxs.find? fun k => (s.ctx k.val).en && p (s.ctx k.val)

/-- An uncorrectable error in a semaphore word: the context of the allotment, or the partition of the cluster, is reset (the
ladder); a word that belongs to none holds nothing. -/
def semLost (n : SemId) (s : State) : State :=
  match n with
  | .die i => match ownerOf s fun x => x.hasDieSem i.val with
    | some k => deviceReset k .context [] 0x02 s
    | none => s.setSem n .reset
  | .cluster c _ => match ownerOf s fun x => x.hasCluster c.val with
    | some k => deviceReset k .partition [] 0x02 s
    | none => s.setSem n .reset

/-- The record of an error in a semaphore memory that its code corrects (15 R423; DESIGN CHOICE, log entry 8, on its cause). -/
def semCorrected (n : SemId) (s : State) : State :=
  let place := match n with | .cluster c _ => c.val | .die _ => 16
  logError (atPlace 0x0E place { cause := 0x01, sev := sevCorrected, addr := semNameWord n }) s

/-- SEMAPHORE_UPDATE: the cycle's operations; an error in the word is met first (15 R423, R402). -/
def execSemaphoreUpdate (sem : SemId) (s : State) : Answer :=
  let x := s.sem sem
  let sound := s.setSem sem { x with upset := none }
  match x.upset with
  | none => .next (updateSem sem s)
  | some true => .next (updateSem sem (semCorrected sem sound))
  | some false => .next (semLost sem sound)

/-- What a check of a sequencer finds: a cache word is fetched again, a lost state resets the core (15 R423, the ladder; DESIGN
CHOICE, log entry 8, on the records' causes). -/
def sequencerCheck (s : State) (c : CoreId) : State :=
  let v := s.core c.val
  let s := s.setCore c.val { v with seqUpset := none }
  match v.seqUpset with
  | none => s
  | some .cacheWord => logError (atCore s 0x01 c { cause := 0x01, sev := sevCorrected }) s
  | some .lost => match ownerOf s fun x => x.hasCore c.val with
    | some k => deviceReset k .core [c] 0x02 s
    | none => s.setCore c.val (s.core c.val).wiped.released

/-- An error in a cluster's sequencer, or in its store's control state: the partition is reset (the ladder). -/
def clusterCheck (s : State) (n : ClusterId) : State :=
  match ownerOf s fun x => x.hasCluster n.val with
  | some k => deviceReset k .partition [] 0x02 s
  | none => s

/-- Checks of state that runs with no command of its own: sequencers, clusters, control registers (15 R423). -/
def checkUpsets (s : State) : State :=
  let s := (s.cores.rows.filter fun r => r.2.seqUpset.isSome).foldl (fun s r => sequencerCheck s (Fin.ofNat 256 r.1)) s
  let u := s.upsets
  let s := u.clusters.foldl clusterCheck { s with upsets := { u with clusters := [], register := none } }
  match u.register with
  | some off => logError (atPlace 0x00 0 { cause := 0x1A, sev := sevUncontained, addr := off }) s
  | none => s

end Sys2Proof.Machine
end

