-- ==== Sys2Proof/Machine/HostLink.lean ====
section
/-! DEFINITION. The host port at work: the memory window, the answers to its own accesses, interrupts, the fence, the
link, configuration space, function-level resets (13 R362 to R379, 20 R543). -/

namespace Sys2Proof.Machine

/-! ## Functions (13 R365, R367, 19 R510) -/

/-- The context bound to a VF. -/
def boundCtx (s : State) (vf : CtxId) : Option CtxId :=
  let w := s.host.vfMap.get 0 vf.val
  if vf ≠ 0 && bitAt w 0 then some (Fin.ofNat 64 (bitsAt w 1 6)) else none

/-- The VF that a context is bound to. -/
def vfOf (s : State) (k : CtxId) : Option CtxId := allCtxs.find? fun v => boundCtx s v == some k

/-- The TDI of a VF. -/
def State.tdi (s : State) (vf : CtxId) : TdiState := s.sec.tdi.get .unlocked vf.val

/-- The state with a TDI's state replaced. -/
def State.setTdi (s : State) (vf : CtxId) (x : TdiState) : State :=
  { s with sec := { s.sec with tdi := s.sec.tdi.set .unlocked vf.val x } }

/-- A VF is locked under TDISP (13 R380). -/
def vfLocked (s : State) (vf : CtxId) : Bool :=
  match s.tdi vf with
  | .locked | .starting | .run => true
  | _ => false

/-! ## Interrupts (13 R368) -/

/-- Pending vectors of a function that can go now are sent. -/
def sendPending (fn : CtxId) (s : State) : State :=
  let ready := s.host.msixPending.rows.filter fun r =>
    r.1 / 1024 == fn.val && s.host.msixOn.get false fn.val && s.host.msixUnmasked.get false r.1 && hostOpen s
  ready.foldl (fun s r => sendVector fn (r.1 % 1024)
    { s with host := { s.host with msixPending := s.host.msixPending.set false r.1 false } }) s

/-- A vector's mask. -/
def setMask (fn : CtxId) (vec : Fin 1024) (masked : Bool) (s : State) : State :=
  { s with host := { s.host with msixUnmasked := s.host.msixUnmasked.set false (1024 * fn.val + vec.val) (!masked) } }

/-- MSIX_VECTOR_UNMASK: the pending message goes. -/
def execMsixVectorUnmask (fn : CtxId) (vec : Fin 1024) (s : State) : Answer :=
  if !s.host.up || (fn ≠ 0 && vfLocked s fn) then .next s else .next (sendPending fn (setMask fn vec false s))

/-! ## Configuration space (13 R369, R380) -/

/-- 256 MiB. -/
abbrev hdmUnit : Nat := 0x10000000

/-- A window that the decoder takes (13 R369). -/
def hdmLegal (base size : Nat) : Bool :=
  base % hdmUnit == 0 && size % hdmUnit == 0 && decide (hdmUnit ≤ size) && decide (size ≤ dramEnd)

/-- CONFIGURATION_SPACE_WRITE. The configuration of a VF locked under TDISP, the number of VFs with it, changes under no write
(13 R380); a control of a capability that the device lacks is a reserved register, and the write drops (R364). -/
def execConfigurationSpaceWrite (w : CfgWrite) (s : State) : Answer :=
  if !s.host.up then .next s
  else match w with
    | .hdmDecoder base size =>
      .next (if hdmLegal base size then { s with host := { s.host with hdmBase := base, hdmSize := size } } else s)
    | .numVfs n =>
      .next (if n ≤ 63 && !(allCtxs.any (vfLocked s)) then { s with host := { s.host with numVfs := n } } else s)
    | .msixEntry fn vec addr data =>
      .next (if fn ≠ 0 && vfLocked s fn then s
        else { s with host := { s.host with msixEntry := s.host.msixEntry.set (0, 0) (1024 * fn.val + vec.val) (addr, data) } })
    | .notAdvertised _ => .next s
    | .msixEnable fn on =>
      .next (if fn ≠ 0 && vfLocked s fn then s
        else sendPending fn { s with host := { s.host with msixOn := s.host.msixOn.set false fn.val on } })
    | .msixMask fn vec masked =>
      .next (if fn ≠ 0 && vfLocked s fn then s else sendPending fn (setMask fn vec masked s))

/-! ## The memory window (13 R369 to R372) -/

/-- The context to which the frame of a physical address is assigned (08 R222). -/
def frameCtx (s : State) (pa : Nat) : Option CtxId :=
  let b := s.atu.frm.get 0 (pa / frameBytes)
  if b.getLsbD 7 then some (Fin.ofNat 64 b.toNat) else none

/-- The frame of a confidential context, or a frozen one for the host itself (13 R370, 19 R510). -/
def frameRefused (s : State) (tee : Option CtxId) (pa : Nat) : Bool :=
  match frameCtx s pa with
  | some k => (s.ctx k.val).conf || ((s.ctx k.val).frozen && tee.isNone)
  | none => false

/-- A request that R370 refuses: for its frame, or a write to a text page. -/
def hdmRefused (s : State) (tee : Option CtxId) (pa : Nat) (write : Bool) : Bool :=
  frameRefused s tee pa || (write && s.textPage (pa / 0x200000))

/-- A refusal's record, at most one per 1 ms of each of the two causes; a line that meets both counts under its frame
(13 R370). -/
def hdmRecord (frame : Bool) (pa : Nat) (s : State) : State :=
  let quiet := match if frame then s.host.lastHdmRecord else s.host.lastTextRecord with
    | some t => decide (s.clk < t + msEdges)
    | none => false
  if quiet then s
  else hostRecord pa hostWindow { s with host := if frame then { s.host with lastHdmRecord := some s.clk }
    else { s.host with lastTextRecord := some s.clk } }

/-- The window answers: its link is up and its decoder covers the offset. -/
def hdmDecodes (s : State) (off : Nat) : Bool := s.host.up && decide (off < s.host.hdmSize)

/-- HDM_READ: one line. -/
def execHdmRead (tee : Option CtxId) (off : Nat) (s : State) : Answer :=
  if dramEnd ≤ off then .fault .addressAbsent
  else if !hdmDecodes s off then .next s
  else
    let a := off / 64 * 64
    if hdmRefused s tee a false then .next ((hdmRecord true a s).emit (.hdmData a (List.replicate 64 0xFF) false))
    else
      let s := s.touch a 64
      .next (s.emit (.hdmData a (s.bytes a 64) (s.poisonedIn a 64)))

/-- The enabled bytes of a line: their addresses and values. -/
def enabledBytes (a : Nat) (data : Bytes) (enable : List Bool) : List (Nat × Byte) :=
  (List.range 64).filterMap fun i => if enable.getD i false then some (a + i, byteAt data i) else none

/-- A line, or part of one, written by the host: a part leaves poison as it is (13 R371, 08 R213). -/
def hdmStore (a : Nat) (data : Bytes) (enable : List Bool) (s : State) : State :=
  if (List.range 64).all fun i => enable.getD i false then s.writeClean a (fitTo 64 data)
  else (enabledBytes a data enable).foldl (fun s p => s.writeClean p.1 [p.2]) s

/-- HDM_WRITE: recorded in the journal of the frame's context before it takes effect (13 R371, R372, 16 R466, R467). -/
def execHdmWrite (tee : Option CtxId) (off : Nat) (data : Bytes) (enable : List Bool) (s : State) : Answer :=
  if dramEnd ≤ off then .fault .addressAbsent
  else if !hdmDecodes s off then .next s
  else
    let a := off / 64 * 64
    if hdmRefused s tee a true then .next ((hdmRecord (frameRefused s tee a) a s).emit (.hdmComplete a))
    else
      let s := match frameCtx s a with
        | some k => (enabledBytes a data enable).foldl (fun s p => journalByte k p.1 p.2 false s) s
        | none => s
      .next ((hdmStore a data enable s).emit (.hdmComplete a))

/-! ## The device's own accesses (13 R373 to R376) -/

/-- A write has ended. -/
def writeEnded (w : HostWrite) (ok : Bool) (s : State) : State :=
  let s := dropWrite w.id s
  match w.use with
  | .completion cq => if ok then entryAccepted cq s else entryFailed cq s
  | .copyLine q off => copyWriteEnded q off ok s
  | .orphanedCopy => s

/-- A write has failed: its record, and what it carried fails (13 R374). -/
def writeFailed (kind : Nat) (s : State) (w : HostWrite) : State := writeEnded w false (hostRecord w.addr kind s)

/-- A write that has no answer yet. -/
def findWrite (s : State) (id : Nat) : Option HostWrite := s.host.writes.find? fun w => w.id == id

/-- GO_RESPONSE. -/
def execGoResponse (id : Nat) (ok : Bool) (s : State) : Answer :=
  match findWrite s id with
  | some w => .next (if ok then writeEnded w true s else writeFailed hostGoErr s w)
  | none => .next s

/-- HOST_WRITE_TIMEOUT. -/
def execHostWriteTimeout (id : Nat) (s : State) : Answer :=
  match findWrite s id with
  | some w => .next (if w.startClk + hostLimit ≤ s.clk then writeFailed hostNoAnswer s w else s)
  | none => .next s

/-- The address that a slot's read asked for; the record of its failure names it. -/
def readAddr (s : State) (u : ReadUse) : Nat :=
  match u with
  | .copyLine q off _ _ => match (s.sq q.val).cmd with
    | some run => match run.work with
      | .copy r => match r.src with | .host a => (a + off) / 64 * 64 | .dram _ => 0
      | _ => 0
    | none => 0
  | .fetch q => (s.sq q.val).entryAddr
  | .orphaned _ => 0

/-- A read has failed: its slot is abandoned, and what asked for it fails; a command's fetch writes its own record
(13 R374, R375, 10 R291). -/
def readFailed (kind : Nat) (s : State) (i : Nat) : State :=
  match (s.slot i).use with
  | none => s
  | some (.copyLine q off lineOff count) =>
    copyReadFailed q off count (abandonSlot i (hostRecord (readAddr s (.copyLine q off lineOff count)) kind s))
  | some (.fetch q) => haltedFetch q kind (abandonSlot i s)
  | some (.orphaned q) => abandonSlot i (hostRecord (readAddr s (.orphaned q)) kind s)

/-- Where HIF_STAT.dropped stops. -/
abbrev droppedTop : Nat := 0xFFFE

/-- HOST_READ_DATA (13 R375, R376). -/
def execHostReadData (cqid : BitVec 12) (data : Bytes) (error poison : Bool) (s : State) : Answer :=
  let i := cqid.toNat % 512
  let x := s.slot i
  if x.gen ≠ cqid.toNat / 512 then
    .next { s with host := { s.host with dropped := satTo droppedTop (s.host.dropped + 1) } }
  else match x.use with
    | none => .next s
    | some u =>
      if error then .next (readFailed hostReadErr s i)
      else match u with
        | .copyLine q off lineOff count => .next (copyData q off lineOff count data poison (freeSlot i s))
        | .fetch _ => .next (freeSlot i s)
        | .orphaned _ => .next (freeSlot i s)

/-- HOST_READ_TIMEOUT. -/
def execHostReadTimeout (slot : Fin 512) (s : State) : Answer :=
  let x := s.slot slot.val
  .next (if x.use.isSome && decide (x.startClk + hostLimit ≤ s.clk) then readFailed hostNoAnswer s slot.val else s)

/-- H2D_SNOOP: the device holds no line (13 R373). -/
def execH2dSnoop (addr : Word) (s : State) : Answer := .next (s.emit (.snoopReply addr))

/-! ## The fence and the link (13 R362, R377, R378, 20 R543) -/

/-- Key-store slots written or zeroised. -/
def setSlots (slots : List Nat) (b : Bool) (s : State) : State :=
  { s with sec := { s.sec with keys := slots.foldl (fun t k => t.set false k b) s.sec.keys } }

/-- The host-port fence begins: the IDE keys are zeroised, so no stream stays active, and every outstanding access fails
(13 R376, R377, 19 R523; DESIGN CHOICE, log entry 16). -/
def hostFence (s : State) : State :=
  let s := setSlots (List.range 12) false s
  let s := { s with host := { s.host with fence := true, ideLink := false, ideCm := false, ideSel := .empty } }
  let s := s.host.writes.foldl (fun s w => let p := failKind true s; writeFailed p.1 p.2 w) s
  s.host.slots.rows.foldl (fun s r => if r.2.use.isSome then let p := failKind false s; readFailed p.1 p.2 r.1 else s) s

/-- The link is lost: the fence begins, configuration space and the decoder return to their reset values (13 R377;
DEDUCED, log entry 38). -/
def linkLost (s : State) : State :=
  let s := hostFence { s with host := { s.host with up := false, downEv := s.host.downEv || s.host.up } }
  { s with host := { s.host with
      x16 := false, fast := false, hdmBase := 0, hdmSize := 0, numVfs := 0, msixOn := .empty, msixUnmasked := .empty,
      msixEntry := .empty } }

/-- The host port may train: power, a locked root, PERST_N high, and a link that the host has not disabled (13 R362, R377,
20 R543). -/
def canTrain (s : State) : Bool := powered s && s.boot.pllLocked && s.pins.perstN && !s.host.linkDisabled

/-- Training starts. -/
def startTraining (s : State) : State := { s with host := { s.host with trainClk := s.clk } }

/-- HOST_LINK_DOWN: the link goes down, is hot-reset or is disabled; the row does not say which, so that the host disables it is a
free choice (DESIGN CHOICE, log entry 162). The port trains again by itself, but not while the host holds the link disabled (13
R377). -/
def execHostLinkDown (s : State) : Answer :=
  if !s.host.up then .next s
  else
    let p := s.choose
    let s := linkLost p.2
    .next (startTraining { s with host := { s.host with linkDisabled := p.1 } })

/-- HOST_LINK_UP: training brings the link up at one of the port's widths and speeds, and the fence lifts, unless a function-level
reset of the PF holds it (13 R362, R377). On a link that the host had disabled it follows the host's enabling, which reaches the
device as this training (DEDUCED, log entry 162). -/
def execHostLinkUp (x16 fast : Bool) (s : State) : Answer :=
  if !powered s || !s.boot.pllLocked || !s.pins.perstN then .next s
  else .next { s with host := { s.host with
    up := true, x16 := x16, fast := fast, fence := s.host.flr, linkDisabled := false, upClk := s.clk } }

/-- 1 s of device time. -/
abbrev retryEdges : Nat := 1000 * msEdges

/-- HOST_LINK_RETRY: training found no width and speed of the port, which reports link down and starts it again, 1 s after it
last started (13 R362). -/
def execHostLinkRetry (s : State) : Answer :=
  .next (if s.host.up || !canTrain s || decide (s.clk < s.host.trainClk + retryEdges) then s
    else startTraining { s with host := { s.host with x16 := false, fast := false } })

/-- PERST_N_ASSERT (20 R543): a link that the host had disabled is reset with the rest of the port (DEDUCED, log entry 162). -/
def execPerstNAssert (s : State) : Answer :=
  let s := { s with pins := { s.pins with perstN := false } }
  if powered s then
    let s := linkLost s
    .next { s with host := { s.host with linkDisabled := false } }
  else .next s

/-- PERST_N_DEASSERT: the port trains again by itself. -/
def execPerstNDeassert (s : State) : Answer := .next (startTraining { s with pins := { s.pins with perstN := true } })

/-- VF_FLR: a context reset of the bound context; a confidential one then goes as STOP_INTERFACE (13 R378, 19 R514). -/
def execVfFlr (vf : CtxId) (s : State) : Answer :=
  match boundCtx s vf with
  | none => .next s
  | some k =>
    let s := startReset k .context [] s
    let stopped := match s.tdi vf with
      | .stopping _ => true
      | _ => false
    .next (if (s.ctx k.val).conf && !stopped then s.setTdi vf .flr else s)

/-- PF_FLR: the host-port fence, and a context reset of every context (13 R378); the fence stands until the last of
them is complete (DEDUCED, log entry 39). -/
def execPfFlr (s : State) : Answer :=
  let s := hostFence s
  .next (allCtxs.foldl (fun s k => startReset k .context [] s) { s with host := { s.host with flr := true } })

/-! ## IDE keys (13 R379, 19 R500) -/

/-- IDE_KM: a secured SPDM message of a session on the PF's DOE mailbox sets a stream's keys, or stops the stream. -/
def execIdeKm (m : KmMessage) (s : State) : Answer :=
  if s.sec.sessions.get .closed m.session.val ≠ .established .doe || (s.proc 0).down || !s.host.up then .next s
  else
    let selective (i : Fin 4) (b : Bool) : State :=
      let s := setSlots [2 + 2 * i.val, 3 + 2 * i.val] b s
      { s with host := { s.host with ideSel := s.host.ideSel.set false i.val b } }
    let link (b : Bool) : State := let s := setSlots [0, 1] b s; { s with host := { s.host with ideLink := b } }
    let mem (b : Bool) : State := let s := setSlots [0xA, 0xB] b s; { s with host := { s.host with ideCm := b } }
    match m.km with
    | .linkKeys => .next (link true)
    | .linkStop => .next (link false)
    | .cachememKeys => .next (mem true)
    | .cachememStop => .next (mem false)
    | .selectiveKeys i => .next (selective i true)
    | .selectiveStop i => .next (selective i false)

end Sys2Proof.Machine
end

