-- ==== Sys2Proof/Machine/Tdisp.lean ====
section
/-! DEFINITION. The trusted device interfaces: locking, starting, stopping and failing, and what a reset's completion
does for them (19 R509 to R515, 14 R396, R397). -/

namespace Sys2Proof.Machine

/-- The security core answers: the device has booted and the core is up. -/
def secUp (s : State) : Bool := powered s && s.boot.done && s.boot.result != 3 && !(s.proc 0).down

/-- A message can come and be answered on the PF's DOE mailbox (13 R379). -/
def doeUp (s : State) : Bool := secUp s && s.host.up

/-- TDISP response codes (PCIe TDISP 1.0). -/
abbrev tdLocked : Nat := 0x03
/-- Response code. -/
abbrev tdReport : Nat := 0x04
/-- Response code. -/
abbrev tdStarted : Nat := 0x06
/-- Response code. -/
abbrev tdStopped : Nat := 0x07
/-- Response code. -/
abbrev tdError : Nat := 0x7F

/-- The TDISP error response (R510). -/
def tdRefuse (vf : CtxId) (s : State) : State := s.emit (.tdisp vf tdError [])

/-- The context of a TDI: the one locked with it. -/
def tdiContext (s : State) (vf : CtxId) : Option CtxId := s.sec.tdiCtx.get none vf.val

/-- A context that LOCK_INTERFACE takes: enabled, no core assigned, every submission queue disabled. -/
def lockable (s : State) (k : CtxId) : Bool := (s.ctx k.val).en && !contextBusy s k && (queuesOf s k).isEmpty

/-- LOCK_INTERFACE (R510). -/
def execLockInterface (vf : CtxId) (s : State) : Answer :=
  if !doeUp s then .next s
  else match boundCtx s vf with
    | some k =>
      if s.tdi vf == .unlocked && lockable s k then
        let s := s.setTdi vf .locked
        let s := { s with sec := { s.sec with tdiCtx := s.sec.tdiCtx.set none vf.val (some k) } }
        .next ((s.setCtx k.val { s.ctx k.val with frozen := true }).emit (.tdisp vf tdLocked []))
      else .next (tdRefuse vf s)
    | none => .next (tdRefuse vf s)

/-! ## The interface report (R511) -/

/-- Frames assigned to a context. -/
def framesOf (s : State) (k : CtxId) : List Nat :=
  (List.range 1536).filter fun f => let b := s.atu.frm.get 0 f; b.getLsbD 7 && b.toNat % 64 == k.val

/-- The bitmap of a context's frames. -/
def frameBitmap (s : State) (k : CtxId) : Bytes := leBytes 192 ((framesOf s k).map fun f => 2 ^ f).sum

/-- Bytes of a first-level and of a second-level table (08 R219). -/
abbrev firstLevelBytes : Nat := 0x40000
/-- Of a second-level table. -/
abbrev secondLevelBytes : Nat := 0x1000

/-- Physical address of the first-level table. -/
def Ctx.tableAt (c : Ctx) : Nat := bitsAt c.atuPtb 18 23 * 0x40000

/-- The second-level tables that the first level references, in ascending context address. -/
def secondTables (s : State) (c : Ctx) : List Nat :=
  (List.range 32768).filterMap fun i =>
    let e := leNat (s.bytes (c.tableAt + 8 * i) 8)
    if e.testBit 0 && !e.testBit 1 then some (field e 12 29 * 4096) else none

/-- The digest of the translation tables. -/
def tablesDigest (s : State) (c : Ctx) : Bytes :=
  sha3_256 (s.bytes c.tableAt firstLevelBytes ++ (secondTables s c).flatMap fun a => s.bytes a secondLevelBytes)

/-- The digest of the buffer descriptor table. -/
def buffersDigest (s : State) (c : Ctx) : Bytes := sha3_256 (s.bytes (c.bufAddr 0) (32 * c.bufCount))

/-- The device-specific area of the report. -/
def interfaceReport (s : State) (k : CtxId) : Bytes :=
  let c := s.ctx k.val
  leBytes 8 c.gfeCtx.toNat ++ leBytes 8 c.gfeBdt.toNat ++ leBytes 8 c.atuPtb.toNat ++ leBytes 8 c.semAllot.toNat
    ++ leBytes 8 c.jnlCtl.toNat ++ leBytes 8 c.jnlBase.toNat ++ frameBitmap s k ++ tablesDigest s c ++ buffersDigest s c

/-- GET_DEVICE_INTERFACE_REPORT. -/
def execGetDeviceInterfaceReport (vf : CtxId) (s : State) : Answer :=
  if !doeUp s then .next s
  else match s.tdi vf, tdiContext s vf with
    | .locked, some k => .next (s.emit (.tdisp vf tdReport (interfaceReport s k)))
    | .run, some k => .next (s.emit (.tdisp vf tdReport (interfaceReport s k)))
    | _, _ => .next (tdRefuse vf s)

/-! ## Start, stop, error (R510, R514) -/

/-- START_INTERFACE: a partition reset begins. -/
def execStartInterface (vf : CtxId) (s : State) : Answer :=
  if !doeUp s then .next s
  else match s.tdi vf, tdiContext s vf with
    | .locked, some k =>
      if s.host.ideLink && s.host.ideCm && (s.ctx k.val).en then .next ((startReset k .partition [] s).setTdi vf .starting)
      else .next (tdRefuse vf s)
    | _, _ => .next (tdRefuse vf s)

/-- STOP_INTERFACE: a partition reset begins. -/
def execStopInterface (vf : CtxId) (s : State) : Answer :=
  let stop (k : CtxId) : State := (startReset k .partition [] s).setTdi vf (.stopping true)
  if !doeUp s then .next s
  else match s.tdi vf, tdiContext s vf with
    | .locked, some k => .next (stop k)
    | .run, some k => .next (stop k)
    | .error, some k => .next (stop k)
    | _, _ => .next (tdRefuse vf s)

/-- What fails the trusted interface of a context: a stream that has stopped, the link, or an access under R380. -/
def tdiBroken (s : State) (k : CtxId) : Bool :=
  !s.host.ideLink || !s.host.ideCm || !s.host.up || (s.ctx k.val).fenced

/-- TDI_ERROR: the TDI of a confidential context enters ERROR; its context is fenced and reset (R514, 13 R380). -/
def execTdiError (vf : CtxId) (s : State) : Answer :=
  match s.tdi vf, tdiContext s vf with
  | .run, some k =>
    if tdiBroken s k && (s.ctx k.val).conf then .next (startReset k .context [] (fenceContext k (s.setTdi vf .error)))
    else .next s
  | _, _ => .next s

/-! ## A reset completes (14 R396, R397, 19 R510, R514) -/

/-- The place of GFE_CTX.conf. -/
abbrev confBit : Word := 0x800

/-- START_INTERFACE ends: conf is set, and with it ownership moves (R512). -/
def finishStart (vf k : CtxId) (s : State) : State :=
  ((s.setCtx k.val { s.ctx k.val with gfeCtx := (s.ctx k.val).gfeCtx ||| confBit }).setTdi vf .run).emit
    (.tdisp vf tdStarted [])

/-- A frame zeroed and released. -/
def releaseFrame (s : State) (f : Nat) : State :=
  let s := zeroRange (f * frameBytes) frameBytes s
  { s with atu := { s.atu with frm := s.atu.frm.set 0 f (s.atu.frm.get 0 f &&& 0x7F) } }

/-- What STOP_INTERFACE does after its reset: the frames are zeroed and released, conf is cleared, the TDI is unlocked. -/
def finishStop (vf k : CtxId) (reply : Bool) (s : State) : State :=
  let s := (framesOf s k).foldl releaseFrame s
  let s := s.setCtx k.val { s.ctx k.val with
    gfeCtx := (s.ctx k.val).gfeCtx &&& ~~~confBit, fenced := false, frozen := false }
  let s := { s.setTdi vf .unlocked with
    sec := { (s.setTdi vf .unlocked).sec with tdiCtx := s.sec.tdiCtx.set none vf.val none } }
  if reply then s.emit (.tdisp vf tdStopped []) else s

/-- The TDI that holds a context. -/
def tdiHolding (s : State) (k : CtxId) : Option CtxId := allCtxs.find? fun v => tdiContext s v == some k

/-- What a completed reset of a context goes on with, by the state of its TDI. -/
def afterReset (k : CtxId) (s : State) : State :=
  match tdiHolding s k with
  | none => s
  | some vf =>
    match s.tdi vf with
    | .starting => finishStart vf k s
    | .flr => startReset k .partition [] (s.setTdi vf (.stopping false))
    | .stopping reply => finishStop vf k reply s
    | _ => s

/-- A function-level reset of the PF ends with the last reset in progress, and its fence lifts while the link is up
and pending vectors that are enabled and unmasked then go (13 R368, R378; DEDUCED, log entry 39). -/
def endFlr (s : State) : State :=
  if s.host.flr && allCtxs.all fun k => (s.ctx k.val).resetRun.isNone then
    allCtxs.foldl (fun s fn => sendPending fn s) { s with host := { s.host with flr := false, fence := !s.host.up } }
  else s

/-- RESET_COMPLETE: steps 4 and 5 (14 R396), and what the TDISP message that asked for the reset goes on with. -/
def execResetComplete (ctx : CtxId) (failedSelfTest : List CoreId) (s : State) : Answer :=
  if (s.ctx ctx.val).resetRun.isNone then .next s else .next (endFlr (afterReset ctx (completeReset ctx failedSelfTest s)))

end Sys2Proof.Machine
end

