-- ==== Sys2Proof/Machine/Spdm.lean ====
section
/-! DEFINITION. Fuse registers, measurements and the SPDM responder (18 R491, 19 R499 to R504, R523). -/

namespace Sys2Proof.Machine

/-! ## The FUS registers (18 R491) -/

/-- FUS_ID. -/
def fusIdWord (s : State) : Word := putAt 0 s.fuses.variant ||| putAt 16 s.fuses.serial.toNat

/-- FUS_CORE of a cluster. -/
def fusCoreWord (s : State) (k : Nat) : Word :=
  match s.fuses.map.get none k with
  | some (c, field) => putAt 0 c.val ||| flagAt 5 field
  | none => putAt 0 0x1F

/-- FUS_ROW of a physical core. -/
def fusRowWord (s : State) (p : Nat) : Word :=
  (List.range 4).foldl (fun w e => w ||| putAt (8 * e) (match s.fuses.badRow.get none (4 * p + e) with
    | some r => r
    | none => 0x7F)) 0

/-- FUS_VLN of a physical core. -/
def fusVlnWord (s : State) (p : Nat) : Word :=
  (List.range 4).foldl (fun w k => w ||| putAt (9 * k) ((s.fuses.badLane.get [] p).getD k 0x1FF)) 0

/-- FUS_APB of a port. -/
def fusApbWord (s : State) (p : Nat) : Word :=
  putAt 0 (s.fuses.apbRx.get 0 p).toNat ||| putAt 17 (s.fuses.apbTx.get 0 p).toNat

/-- Physical cores of the die. -/
abbrev physCores : Nat := 272

/-- FUS_ID and every FUS register in address order. -/
def fuseBytes (s : State) : Bytes :=
  let words := [fusIdWord s] ++ (List.range 16).map (fusApbWord s) ++ (List.range 16).map (fusCoreWord s)
    ++ (List.range physCores).map (fusRowWord s) ++ (List.range physCores).map (fusVlnWord s)
  words.flatMap fun w => leBytes 8 w.toNat

/-! ## Measurements (19 R501) -/

/-- The version of the running image. -/
def runningVersion (s : State) (k : Nat) : Nat :=
  match (s.component k).runVersion with
  | some v => v
  | none => Config.factoryVersion k

/-- PRT_LOCK (19 R507). -/
def prtWord (s : State) : Word :=
  flagAt 1 s.sec.locked ||| flagAt 2 s.sec.dbgEn ||| putAt 8 s.fuses.svnFloor
    ||| flagAt 16 (allCtxs.any fun k => (s.ctx k.val).conf)

/-- The protection set-up as it is measured; the manual does not give its encoding (DESIGN CHOICE, log entry 41). -/
def protectionBytes (s : State) : Bytes :=
  (s.own.rows.flatMap fun r => leBytes 4 r.1 ++ (match r.2 with | some v => leBytes 4 v.toNat | none => []))
    ++ leBytes 8 (prtWord s).toNat

/-- Security versions: the floor, then each component's. -/
def svnBytes (s : State) : Bytes :=
  leBytes 1 s.fuses.svnFloor ++ (List.range' 1 7).flatMap fun k => leBytes 1 (s.component k).runSvn

/-- The measurements by index. -/
def measurement (s : State) (index : Nat) : Option Bytes :=
  if 1 ≤ index ∧ index ≤ 7 then some (runningDigest s index)
  else match index with
    | 0x10 => some (sha3_256 (Config.spdmBody 0x10 (protectionBytes s)))
    | 0x11 => some (sha3_256 (fuseBytes s))
    | 0x12 => some (sha3_256 (svnBytes s))
    | _ => none

/-- Every measurement that the device reports. -/
def measurementIndices : List Nat := [1, 2, 3, 4, 5, 6, 7, 0x10, 0x11, 0x12]

/-- An alias-key signature (R499, R503). -/
def signed (s : State) (body : Bytes) : Bytes := body ++ Config.aliasSign (runningDigest s 1) (s.component 1).runSvn body

/-! ## The responder (R502) -/

/-- The number of a transport. -/
def transportKey : Transport → Nat
  | .doe => 0
  | .mctp => 1

/-- A transport carries messages to the security core and back. -/
def spdmUp (s : State) : Transport → Bool
  | .doe => doeUp s
  | .mctp => secUp s && sidebandUp s && s.pins.mctpEid.isSome

/-- The negotiation of a transport. -/
def State.conn (s : State) (t : Transport) : SpdmConn := s.sec.conns.get .reset (transportKey t)
/-- The state with it replaced. -/
def State.setConn (s : State) (t : Transport) (x : SpdmConn) : State :=
  { s with sec := { s.sec with conns := s.sec.conns.set .reset (transportKey t) x } }

/-- SPDM error codes (DSP0274). -/
abbrev spInvalid : Nat := 0x01
/-- Error code. -/
abbrev spBusy : Nat := 0x03
/-- Error code. -/
abbrev spUnexpected : Nat := 0x04
/-- Error code. -/
abbrev spDecrypt : Nat := 0x06
/-- Error code. -/
abbrev spLarge : Nat := 0x0F

/-- An SPDM message over MCTP raises an in-band interrupt (13 R387). -/
def spdmReady (t : Transport) (s : State) : State :=
  match t, s.pins.i3cAddr with
  | .mctp, some a => s.emit (.inBandInterrupt a false)
  | _, _ => s

/-- A request is answered by `f`, if its transport is up and the negotiation has come far enough. -/
def spdm (t : Transport) (ready : SpdmConn → Bool) (s : State) (f : State → State) : Answer :=
  if !spdmUp s t then .next s
  else if !ready (s.conn t) then .next (spdmReady t (s.emit (.spdmError t spUnexpected)))
  else .next (spdmReady t (f s))

/-- A response that may be large: sent whole, or kept for CHUNK_GET; the size that decides is left open (DESIGN CHOICE, log entry 42). -/
def respondLarge (t : Transport) (code : Nat) (data : Bytes) (s : State) : State :=
  let p := s.choose
  if p.1 then p.2.emit (.spdm t code data)
  else
    let c := p.2.conn t
    (p.2.setConn t { c with large := leBytes 1 code ++ data, largeHandle := (c.largeHandle + 1) % 256 }).emit
      (.spdmError t spLarge)

/-- GET_VERSION: the negotiation starts afresh; version 1.3 only. -/
def execGetVersion (t : Transport) (s : State) : Answer :=
  spdm t (fun _ => true) s fun s => (s.setConn t { SpdmConn.reset with version := true }).emit (.spdm t 0x04 (leBytes 2 0x1300))

/-- GET_CAPABILITIES. -/
def execGetCapabilities (t : Transport) (s : State) : Answer :=
  spdm t (fun c => c.version) s fun s =>
    (s.setConn t { s.conn t with capabilities := true }).emit (.spdm t 0x61 (Config.spdmBody 0x61 []))

/-- NEGOTIATE_ALGORITHMS: SHA3-256 and ML-DSA-44 only. -/
def execNegotiateAlgorithms (t : Transport) (sha3 mldsa44 : Bool) (s : State) : Answer :=
  spdm t (fun c => c.capabilities) s fun s =>
    if sha3 && mldsa44 then
      (s.setConn t { s.conn t with algorithms := true }).emit (.spdm t 0x63 (Config.spdmBody 0x63 []))
    else s.emit (.spdmError t spInvalid)

/-- GET_DIGESTS. -/
def execGetDigests (t : Transport) (s : State) : Answer :=
  spdm t (fun c => c.algorithms) s fun s => s.emit (.spdm t 0x01 (sha3_256 Config.certificateChain))

/-- GET_CERTIFICATE: a portion of the chain of slot 0, after its length and what remains. -/
def execGetCertificate (t : Transport) (slot off len : Nat) (s : State) : Answer :=
  spdm t (fun c => c.algorithms) s fun s =>
    let chain := Config.certificateChain
    if slot ≠ 0 ∨ off ≥ chain.length then s.emit (.spdmError t spInvalid)
    else
      let part := (chain.drop off).take len
      respondLarge t 0x02 (leBytes 2 part.length ++ leBytes 2 (chain.length - off - part.length) ++ part) s

/-- CHALLENGE. -/
def execChallenge (t : Transport) (slot : Nat) (nonce : Bytes) (s : State) : Answer :=
  spdm t (fun c => c.algorithms) s fun s =>
    if slot ≠ 0 ∨ nonce.length ≠ 32 then s.emit (.spdmError t spInvalid)
    else respondLarge t 0x03 (signed s (Config.spdmBody 0x03 (sha3_256 Config.certificateChain ++ nonce))) s

/-- GET_MEASUREMENTS: the number of them for index 0, all for 0xFF, else one; signed. -/
def execGetMeasurements (t : Transport) (index : Nat) (nonce : Bytes) (s : State) : Answer :=
  spdm t (fun c => c.algorithms) s fun s =>
    let block (i : Nat) : Bytes := match measurement s i with
      | some d => leBytes 1 i ++ d
      | none => []
    if nonce.length ≠ 32 then s.emit (.spdmError t spInvalid)
    else if index = 0 then respondLarge t 0x60 (signed s (leBytes 1 measurementIndices.length ++ nonce)) s
    else if index = 0xFF then respondLarge t 0x60 (signed s ((measurementIndices.flatMap block) ++ nonce)) s
    else if measurementIndices.contains index then respondLarge t 0x60 (signed s (block index ++ nonce)) s
    else s.emit (.spdmError t spInvalid)

/-! ## Sessions (R500, R502, R523) -/

/-- A session. -/
def State.session (s : State) (i : Nat) : SessionState := s.sec.sessions.get .closed i

/-- A session's state written, and its key-store slot with it. -/
def setSession (i : Nat) (x : SessionState) (s : State) : State :=
  setSlots [0x58 + i] (x != .closed) { s with sec := { s.sec with sessions := s.sec.sessions.set .closed i x } }

/-- KEY_EXCHANGE: a session opens, or Busy beyond four. -/
def execKeyExchange (t : Transport) (peerKey : Bytes) (s : State) : Answer :=
  spdm t (fun c => c.algorithms) s fun s =>
    if peerKey.length ≠ 96 then s.emit (.spdmError t spInvalid)
    else match (List.range 4).find? fun i => s.session i == .closed with
      | none => s.emit (.spdmError t spBusy)
      | some i => respondLarge t 0x64 (signed s (leBytes 1 i ++ Config.spdmBody 0x64 peerKey)) (setSession i (.handshake t) s)

/-- FINISH: the session is established, or ends where the requester's proof fails. -/
def execFinish (session : Fin 4) (hmacOk : Bool) (s : State) : Answer :=
  match s.session session.val with
  | .handshake t =>
    spdm t (fun _ => true) s fun s =>
      if hmacOk then (setSession session.val (.established t) s).emit (.spdm t 0x65 [])
      else (setSession session.val .closed s).emit (.spdmError t spDecrypt)
  | .established t => spdm t (fun _ => false) s id
  | .closed => .next s

/-- A request inside an established session. -/
def inSession (session : Fin 4) (s : State) (f : Transport → State → State) : Answer :=
  match s.session session.val with
  | .established t => spdm t (fun _ => true) s (f t)
  | .handshake t => spdm t (fun _ => false) s id
  | .closed => .next s

/-- HEARTBEAT. -/
def execHeartbeat (session : Fin 4) (s : State) : Answer := inSession session s fun t s => s.emit (.spdm t 0x68 [])

/-- HEARTBEAT_EXPIRY: the session ends and its keys are zeroised (R523). -/
def execHeartbeatExpiry (session : Fin 4) (s : State) : Answer := .next (setSession session.val .closed s)

/-- KEY_UPDATE. -/
def execKeyUpdate (session : Fin 4) (s : State) : Answer := inSession session s fun t s => s.emit (.spdm t 0x69 [])

/-- END_SESSION: its keys are zeroised (R523). -/
def execEndSession (session : Fin 4) (s : State) : Answer :=
  inSession session s fun t s => (setSession session.val .closed s).emit (.spdm t 0x6C [])

/-- CHUNK_GET: a chunk of the response that is kept; how it is cut is left open (DESIGN CHOICE, log entry 42). -/
def execChunkGet (t : Transport) (handle chunk : Nat) (s : State) : Answer :=
  spdm t (fun c => c.version) s fun s =>
    let c := s.conn t
    if c.large.isEmpty || handle != c.largeHandle then s.emit (.spdmError t spInvalid)
    else s.emit (.spdm t 0x06 (Config.spdmBody 0x06 (leBytes 2 handle ++ leBytes 2 chunk ++ c.large)))

end Sys2Proof.Machine
end

