-- ==== Sys2Proof/Machine/Tvm.lean ====
section
/-! DEFINITION. The trusted domain's requests, sealed weight envelopes and the owner slot (19 R505, R513, R520 to
R522). -/

namespace Sys2Proof.Machine

/-- Status codes of requests (17 R471). -/
abbrev rqOk : Nat := 0x00
/-- Status. -/
abbrev rqInvalid : Nat := 0x01
/-- Status. -/
abbrev rqRefused : Nat := 0x02
/-- Status. -/
abbrev rqBusy : Nat := 0x03
/-- Status. -/
abbrev rqRestarted : Nat := 0x04
/-- Status. -/
abbrev rqUnsupported : Nat := 0x05

/-- A secured request of the TVM of a VF about a context: it comes inside a session, and a context other than the one bound
to the VF, or one that is not confidential, is refused (R512, R513). -/
def tvmRequest (vf ctx : CtxId) (s : State) (f : State → Nat × Bytes × State) : Answer :=
  let secured := s.sec.sessions.rows.any fun r => match r.2 with
    | .established .doe => true
    | _ => false
  if !doeUp s || !secured then .next s
  else if boundCtx s vf != some ctx || !(s.ctx ctx.val).conf then .next (s.emit (.secured vf rqRefused []))
  else
    let r := f s
    .next (r.2.2.emit (.secured vf r.1 r.2.1))

/-! ## GET_RECORD and SET_PTB -/

/-- The slots of the log that hold records, oldest first. -/
def ErrLog.slots (e : ErrLog) : List Nat := (List.range ((e.tail + 1024 - e.head) % 1024)).map fun i => (e.head + i) % 1024

/-- The full record of a slot. -/
def ErrLog.full64 (e : ErrLog) (i : Nat) : Bytes :=
  let u := e.unredacted.get [] i
  if u.isEmpty then e.ring.get [] i else u

/-- The record with a number that names a context, if the log still holds it. -/
def ctxRecord (s : State) (k : CtxId) (seq : BitVec 32) : Option Bytes :=
  ((s.err.slots.map s.err.full64).find? fun b => leAt b 8 4 == seq.toNat).bind fun b =>
    if (byteAt b 15).toNat = k.val then some b else none

/-- GET_RECORD. -/
def execGetRecord (vf ctx : CtxId) (seq : BitVec 32) (s : State) : Answer :=
  tvmRequest vf ctx s fun s => match ctxRecord s ctx seq with
    | some b => (rqOk, b, s)
    | none => (rqRefused, [], s)

/-- Why a write of ATU_PTB is not performed (08 R224). -/
inductive PtbCheck where
  | ok | rejected | busy
  deriving DecidableEq, Repr

/-- The checks of a write of ATU_PTB (08 R224). -/
def ptbCheck (s : State) (k : CtxId) (v : Word) : PtbCheck :=
  if bitsAt v 1 17 ≠ 0 || bitsAt v 41 23 ≠ 0 || decide (bitsAt v 18 23 * 0x40000 ≥ dramEnd) then .rejected
  else if contextBusy s k then .busy
  else .ok

/-- The state with ATU_PTB of a context written. -/
def setPtb (k : CtxId) (v : Word) (s : State) : State := s.setCtx k.val { s.ctx k.val with atuPtb := v }

/-- SET_PTB. -/
def execSetPtb (vf ctx : CtxId) (value : Word) (s : State) : Answer :=
  tvmRequest vf ctx s fun s => match ptbCheck s ctx value with
    | .rejected => (rqInvalid, [], s)
    | .busy => (rqRefused, [], s)
    | .ok =>
      if bitAt value 0 && !frameOwned s ctx (bitsAt value 18 23 * 0x40000) then (rqInvalid, [], s)
      else (rqOk, [], setPtb ctx value s)

/-! ## Envelopes (R520, R521) -/

/-- Bytes of the header, of a recipient, of a signature, of a tag, of a chunk. -/
abbrev envHeader : Nat := 64
/-- Of a recipient. -/
abbrev envRecipient : Nat := 1152
/-- Of a signature. -/
abbrev envSignature : Nat := 2420
/-- Of a tag. -/
abbrev envTag : Nat := 16
/-- Of a chunk. -/
abbrev envChunk : Nat := 0x100000

/-- The header's fields. -/
structure EnvHead where
  nrec : Nat
  len : Nat
  salt : Bytes
  keyId : Bytes
  /-- Its magic, version and zero fields are right. -/
  sound : Bool
  deriving DecidableEq, Repr

/-- A header read. -/
def envHead (h : Bytes) : EnvHead :=
  { nrec := leAt h 6 2, len := leAt h 8 8, salt := (h.drop 16).take 4, keyId := (h.drop 24).take 16,
    sound := leAt h 0 4 == 0x45575A46 && leAt h 4 2 == 1 && leAt h 20 4 == 0 && leAt h 40 24 == 0
      && decide (1 ≤ leAt h 6 2) && decide (leAt h 6 2 ≤ 256) && decide (1 ≤ leAt h 8 8) && decide (leAt h 8 8 ≤ 2 ^ 40) }

/-- Chunks of the content. -/
def EnvHead.chunks (e : EnvHead) : Nat := (e.len + envChunk - 1) / envChunk
/-- Where the chunks begin. -/
def EnvHead.chunksAt (e : EnvHead) : Nat := envHeader + envRecipient * e.nrec
/-- The length of the whole envelope. -/
def EnvHead.total (e : EnvHead) : Nat := e.chunksAt + e.len + envTag * e.chunks + envSignature
/-- Offset and length of chunk `j`. -/
def EnvHead.chunk (e : EnvHead) (j : Nat) : Nat × Nat :=
  (e.chunksAt + j * (envChunk + envTag), min envChunk (e.len - j * envChunk))

/-- The owner key's ID (R520). -/
def keyIdOf (key : Bytes) : Bytes := (sha3_256 key).take 16

/-- What UNSEAL works on: the envelope's bytes and the poison of its words, by offset. -/
structure Envelope where
  head : EnvHead
  bytes : Nat → Nat → Bytes
  poisoned : Nat → Nat → Bool

/-- The tags of an envelope's chunks. -/
def Envelope.tags (v : Envelope) : Bytes :=
  (List.range v.head.chunks).flatMap fun j => let c := v.head.chunk j; v.bytes (c.1 + c.2) envTag

/-- Checks 3 to 5: the recipient that is this device, or nothing (R521). -/
def Envelope.recipient (v : Envelope) (s : State) : Option Bytes :=
  let e := v.head
  let front := v.bytes 0 e.chunksAt
  match s.sec.owner with
  | none => none
  | some (key, _) =>
    let hurt := v.poisoned 0 e.chunksAt || v.poisoned (e.total - envSignature) envSignature
      || (List.range e.chunks).any fun j => let c := e.chunk j; v.poisoned (c.1 + c.2) envTag
    if keyIdOf key != e.keyId || hurt then none
    else if !Config.mldsaVerify key (front ++ sha3_256 v.tags) (v.bytes (e.total - envSignature) envSignature) then none
    else ((List.range e.nrec).map fun i => v.bytes (envHeader + envRecipient * i) envRecipient).find? fun r =>
      r.take 16 == (sha3_256 Config.kemPublicKey).take 16

/-- Check 6: the content key (R521). -/
def Envelope.contentKey (v : Envelope) (r : Bytes) : Option Bytes :=
  (Config.kemDecapsulate ((r.drop 16).take 1088)).bind fun ss =>
    Config.gcmOpen (sha3_256 (ss ++ v.bytes 0 envHeader)) (zeros 12) (r.take 16) ((r.drop 1104).take 32) ((r.drop 1136).take 16)

/-- Check 7: the content, chunk by chunk (R521). -/
def Envelope.content (v : Envelope) (key : Bytes) : Nat → Nat → Option Bytes
  | 0, _ => some []
  | n + 1, j => do
    let c := v.head.chunk j
    if v.poisoned c.1 c.2 then none
    let part ← Config.gcmOpen key (v.head.salt ++ leBytes 8 j) (v.bytes 0 envHeader) (v.bytes c.1 c.2) (v.bytes (c.1 + c.2) envTag)
    let rest ← v.content key n (j + 1)
    some (part ++ rest)

/-- Units of the unsealer (R521). -/
abbrev unsealUnits : Nat := 4

/-- An UNSEAL's status and effect (R521). A length of zero is the no-op that completes, as 00 R11 says of every length but those it
names, though check 1 asks for lengths that match (DESIGN CHOICE, log entry 163). -/
def unsealed (k : CtxId) (args : Bytes) (s : State) : Nat × Bytes × State :=
  let a := leAt args 8 8
  let n := leAt args 16 8
  let d := leAt args 24 8
  let m := leAt args 32 8
  let fail (st : Nat) : Nat × Bytes × State := (st, [], s)
  if s.sec.unsealing ≥ unsealUnits then fail rqBusy
  else if n = 0 || m = 0 then (rqOk, [], s)
  else if allOnes64 n || allOnes64 m || decide (n < envHeader) then fail rqInvalid
  else match mapExtent s k a n { r := true } false .empty, mapExtent s k d m { w := true } true .empty with
    | .ok t, .ok u =>
      let s' := s.touchVia t a n
      let v : Envelope := { head := envHead (s'.bytesVia t a envHeader)
                            bytes := fun o l => s'.bytesVia t (a + o) l
                            poisoned := fun o l => s'.poisonedVia t (a + o) l }
      if n ≠ v.head.total || m ≠ v.head.len || !v.head.sound then fail rqInvalid
      else match ((v.recipient s).bind v.contentKey).bind fun key => v.content key v.head.chunks 0 with
        | some content => (rqOk, [], s'.writeVia u d content fun _ => false)
        | none => (rqRefused, [], s')
    | _, _ => fail rqInvalid

/-- UNSEAL: `args` is the payload, its header first. -/
def execUnseal (vf ctx : CtxId) (args : Bytes) (s : State) : Answer := tvmRequest vf ctx s (unsealed ctx args)

/-! ## FLASH (R513) -/

/-- The slot's four registers as the request gives them, written by the security core. -/
def flashRequest (k : CtxId) (args : Bytes) (s : State) : Nat × Bytes × State :=
  let i := (byteAt args 40).toNat
  let ctl := BitVec.ofNat 64 (leAt args 8 8)
  let word (lo : Nat) (m : Word) : Word := BitVec.ofNat 64 (leAt args lo 8) &&& m
  if i > 3 then (rqInvalid, [], s)
  else if bitsAt ctl 2 6 ≠ k.val then (rqRefused, [], s)
  else if (s.flashSlot i).run.isSome then (rqBusy, [], s)
  else
    let x := s.flashSlot i
    let put := s.setFlashSlot i { x with
      addr := word 16 (maskAt 12 33), off := word 24 (maskAt 0 31), sem := word 32 (BitVec.allOnes 64) }
    match writeFlashCtl i true ctl put with
    | none => (if bitAt ctl 0 then rqRefused else rqInvalid, [], s)
    | some t =>
      if bitAt ctl 0 && (t.flashSlot i).run.isNone then (rqInvalid, [], s.setFlashSlot i { x with status := flashRejected })
      else (rqOk, [], t)

/-- FLASH: `args` is the payload, its header first. -/
def execFlash (vf ctx : CtxId) (args : Bytes) (s : State) : Answer := tvmRequest vf ctx s (flashRequest ctx args)

/-! ## The owner slot (R505, R522) -/

/-- Bytes of an OWNER_SET record. -/
abbrev ownerBytes : Nat := 3740

/-- A physical extent lies in DRAM, in frames assigned to no context. -/
def looseExtent (s : State) (a n : Nat) : Bool :=
  decide (a + n ≤ dramEnd) && (List.range ((a + n - 1) / frameBytes - a / frameBytes + 1)).all fun i =>
    !(s.atu.frm.get 0 (a / frameBytes + i)).getLsbD 7

/-- OWNER_SET of the record at a physical address: its status and effect. A length of zero is the no-op of 00 R11, though R505 asks
for the record's (DESIGN CHOICE, log entry 163). -/
def ownerSet (a n : Nat) (s : State) : Nat × State :=
  if n = 0 then (rqOk, s)
  else if n ≠ ownerBytes || !looseExtent s a ownerBytes then (rqInvalid, s)
  else
    let s := s.touch a ownerBytes
    let b := s.bytes a ownerBytes
    let counter := leAt b 1312 8
    let good := match s.sec.owner with
      | none => true
      | some (key, c) => decide (c < counter) && Config.mldsaVerify key (b.take 1320) (b.drop 1320)
    if s.sec.owner.isNone && leAt b 1320 2420 != 0 then (rqInvalid, s)
    else if (allCtxs.any fun k => (s.ctx k.val).conf) || s.poisonedIn a ownerBytes || !good then (rqRefused, s)
    else (rqOk, { s with sec := { s.sec with owner := some (b.take 1312, counter) } })

end Sys2Proof.Machine
end

