-- ==== Sys2Proof/Machine/Firmware.lean ====
section
/-! DEFINITION. The firmware processors: mailboxes and their requests, watchdogs and restarts, firmware update and
activation (17 R470 to R482, 19 R505, 13 R391, 14 R407, R408, 21 R559). -/

namespace Sys2Proof.Machine

/-! ## Mailboxes (17 R471 to R473) -/

/-- A number from a request window. -/
def Proc.arg (x : Proc) (lo n : Nat) : Nat := leNat ((List.range n).map fun i => x.req.get 0 (lo + i))

/-- The code of the request. -/
def Proc.op (x : Proc) : Nat := x.arg 0 1

/-- The arguments of each request, as first byte and length (17 R473, 19 R505). -/
def requestArgs (op : Nat) : List (Nat × Nat) :=
  match op with
  | 0x10 => [(8, 5)]
  | 0x11 => [(8, 4)]
  | 0x18 => [(8, 1), (16, 16)]
  | 0x19 => [(8, 1)]
  | 0x1A => [(8, 1)]
  | 0x1B => [(8, 1)]
  | 0x1C => [(16, 16)]
  | 0x20 => [(8, 2)]
  | _ => []

/-- Every byte that the layout does not list is zero. -/
def Proc.sound (x : Proc) : Bool :=
  (List.range 64).all fun i =>
    i == 0 || i == 2 || i == 3 || (requestArgs x.op).any (fun r => decide (r.1 ≤ i) && decide (i < r.1 + r.2)) || x.req.get 0 i == 0

/-- The requests that processor `m` implements. -/
def implemented (m op : Nat) : Bool :=
  op == 0x01
    || (m == 0 && [0x10, 0x11, 0x18, 0x19, 0x1A, 0x1B, 0x1C].contains op)
    || (m == 1 && [0x20, 0x21].contains op)

/-- The response is written, and err_vec raised. -/
def respond (m status : Nat) (results : Bytes) (s : State) : State :=
  let x := s.proc m
  let image := leBytes 1 x.op ++ leBytes 1 status ++ leBytes 2 (x.arg 2 2) ++ zeros 4 ++ fitTo 56 results
  raiseErrVec (s.setProc m { x with
    rsp := Table.ofFn 64 0 fun i => byteAt image i
    busy := false
    heldDb := false
    rspNew := true
    seq := BitVec.ofNat 16 (x.arg 2 2) })

/-- A request starts: a code that the processor does not implement is answered at once. -/
def startRequest (m : Nat) (s : State) : State :=
  if implemented m (s.proc m).op then s else respond m rqUnsupported [] s

/-- A write of FWM_DB: none while a request is held or in progress (17 R472). -/
def writeDoorbell (m : Nat) (v : Word) (s : State) : Option State :=
  let x := s.proc m
  if x.busy then none
  else if !bitAt v 0 then some s
  else if x.down then some (s.setProc m { x with busy := true, heldDb := true })
  else some (startRequest m (s.setProc m { x with busy := true }))

/-- FWM_STAT (17 R473). -/
def fwmWord (x : Proc) : Word :=
  flagAt 0 x.busy ||| flagAt 1 x.rspNew ||| flagAt 2 x.down ||| putAt 8 x.restarts ||| putAt 16 x.seq.toNat

/-- The processor carries out the request in its window, if its code is `op`: an unlisted byte that is not zero is INVALID;
else `f` gives the status, the results and the state. -/
def serve (m op : Nat) (s : State) (f : Proc → State → Nat × Bytes × State) : Answer :=
  let x := s.proc m
  if !x.busy || x.heldDb || x.down || x.op != op || !powered s then .next s
  else if !x.sound then .next (respond m rqInvalid [] s)
  else
    let r := f x s
    .next (respond m r.1 r.2.1 r.2.2)

/-- The component that a processor runs. -/
def componentOf (m : Nat) : Nat := min (m + 1) 4

/-- PING. -/
def execPing (m : Fin 19) (s : State) : Answer :=
  serve m.val 0x01 s fun _ s =>
    (rqOk, leBytes 8 (runningVersion s (componentOf m.val)) ++ runningDigest s (componentOf m.val), s)

/-! ## Frames (17 R474, 19 R510, R514) -/

/-- Frames of DRAM. -/
abbrev frameCount : Nat := 1536

/-- The context's frames wait to be released after a function-level reset. -/
def frameStopping (s : State) (k : CtxId) : Bool :=
  match tdiHolding s k with
  | some vf => match s.tdi vf with
    | .flr => true
    | .stopping reply => !reply
    | _ => false
  | none => false

/-- A context whose frames only its trusted domain changes. -/
def frameShut (s : State) (k : CtxId) : Bool := (s.ctx k.val).conf || (s.ctx k.val).frozen

/-- The status of a range of frames; `dest` is the context that gets them. -/
def frameStatus (s : State) (first count : Nat) (dest : Option Nat) : Nat :=
  let frames := List.range' first count
  if count = 0xFFFF ∨ first + count > frameCount then rqInvalid
  else if (match dest with | some c => decide (c > 63) | none => false) then rqInvalid
  else
    let holders := frames.filterMap fun f => frameCtx s (f * frameBytes)
    if holders.any (frameStopping s) then rqBusy
    else if holders.any (frameShut s) then rqRefused
    else match dest with
      | some c => if frameShut s (Fin.ofNat 64 c) || holders.any (fun k => k.val != c) then rqRefused else rqOk
      | none => rqOk

/-- Frames written with a byte. -/
def writeFrames (first count : Nat) (f : Byte → Byte) (s : State) : State :=
  s.setFrames ((List.range' first count).foldl (fun t i => t.update 0 i f) s.atu.frm) fun i => first ≤ i && i < first + count

/-- The translations by which operations in progress move bytes: their context, context page and physical page. -/
def State.translationsHeld (s : State) : List (CtxId × Nat × Nat) :=
  let of (k : CtxId) (t : Table Nat) : List (CtxId × Nat × Nat) := t.rows.map fun r => (k, r.1, r.2)
  (s.cores.rows.flatMap fun c => c.2.mover.flatMap fun o => of c.2.context o.pages)
    ++ (s.fab.ops.flatMap fun o => of o.ctx o.pages)
    ++ (s.fab.entries.rows.flatMap fun e => match e.2 with | some m => of m.ctx m.pages | none => [])
    ++ (s.flashSlots.rows.flatMap fun f => match f.2.run with | some r => of r.ctx r.pages | none => [])
    ++ (s.sqs.rows.flatMap fun q => match q.2.cmd with
      | some run => match run.work with
        | .copy r => of q.2.context r.pages
        | _ => []
      | none => [])

/-- Some frame of a range that would change still has bytes moved through an old translation (08 R223). -/
def framesInUse (s : State) (first count : Nat) (f : Byte → Byte) : Bool :=
  s.translationsHeld.any fun t =>
    let i := t.2.2 * 0x200000 / frameBytes
    first ≤ i && i < first + count && f (s.atu.frm.get 0 i) != s.atu.frm.get 0 i

/-- A frame request that passes its checks takes effect, and is answered, once no operation in progress uses a translation that
it changes: until then either translation may be used, and by choice the old ones are (08 R223, 17 R474; DESIGN CHOICE, log
entry 154). -/
def frameRequest (op : Nat) (dest : Proc → Option Nat) (f : Proc → Byte → Byte) (s : State) : Answer :=
  let x := s.proc 0
  let status (s : State) : Nat := frameStatus s (x.arg 8 2) (x.arg 10 2) (dest x)
  if x.op == op && x.arg 10 2 != 0 && status s == rqOk && framesInUse s (x.arg 8 2) (x.arg 10 2) (f x) then .next s
  else serve 0 op s fun x s =>
    if x.arg 10 2 = 0 then (rqOk, [], s)
    else
      let st := frameStatus s (x.arg 8 2) (x.arg 10 2) (dest x)
      (st, [], if st = rqOk then writeFrames (x.arg 8 2) (x.arg 10 2) (f x) s else s)

/-- FRAME_ASSIGN. -/
def execFrameAssign (s : State) : Answer :=
  frameRequest 0x10 (fun x => some (x.arg 12 1)) (fun x _ => BitVec.ofNat 8 (0x80 + x.arg 12 1)) s

/-- FRAME_RELEASE. -/
def execFrameRelease (s : State) : Answer := frameRequest 0x11 (fun _ => none) (fun _ b => b &&& 0x7F) s

/-! ## Staging (17 R480, 19 R504) -/

/-- A component's state replaced. -/
def State.setComponent (s : State) (k : Nat) (x : Component) : State :=
  { s with fw := { s.fw with components := s.fw.components.set .reset k x } }

/-- An image is verified into the other bank: whether it holds, and the state. -/
def stage (k : Nat) (image : Bytes) (poisoned : Bool) (s : State) : Bool × State :=
  let x := s.component k
  match if poisoned then none else Config.firmwareVerify k image with
  | some (version, svn) =>
    if svn < s.fuses.svnFloor then (false, s.setComponent k { x with bank := .noneStaged, stagedVersion := 0 })
    else (true, s.setComponent k { x with
      bank := .staged, stagedVersion := version, stagedSvn := svn, stagedDigest := sha3_256 image })
  | none => (false, s.setComponent k { x with bank := .noneStaged, stagedVersion := 0 })

/-- The component takes part in the activation in progress. -/
def activating (s : State) (k : Nat) : Bool :=
  match s.fw.activation with
  | some a => a.live.contains k
  | none => false

/-- A component code. -/
def isComponent (k : Nat) : Bool := decide (1 ≤ k) && decide (k ≤ 7)

/-- FW_STAGE. -/
def execFwStage (s : State) : Answer :=
  serve 0 0x18 s fun x s =>
    let k := x.arg 8 1
    let a := x.arg 16 8
    let n := x.arg 24 8
    if !isComponent k || n = 0 || decide (n > 0x4000000) || !looseExtent s a n then (rqInvalid, [], s)
    else if activating s k then (rqBusy, [], s)
    else
      let s := s.touch a n
      let r := stage k (s.bytes a n) (s.poisonedIn a n) s
      (if r.1 then rqOk else rqRefused, [], r.2)

/-- The code of a bank state (17 R482). -/
def BankState.code : BankState → Nat
  | .noneStaged => 0 | .staged => 1 | .awaitingReset => 2 | .running => 3 | .rejected => 4

/-- FW_STATUS. -/
def execFwStatus (s : State) : Answer :=
  serve 0 0x1A s fun x s =>
    let k := x.arg 8 1
    if !isComponent k then (rqInvalid, [], s)
    else
      (rqOk, leBytes 1 (s.component k).bank.code ++ zeros 7 ++ leBytes 8 (s.component k).stagedVersion
        ++ leBytes 8 (runningVersion s k), s)

/-! ## Power (17 R478) -/

/-- SET_CAP. -/
def execSetCap (s : State) : Answer :=
  serve 1 0x20 s fun x s =>
    let w := x.arg 8 2
    if w = 0 then (rqOk, [], s)
    else if w < 500 ∨ w > variantWatts s.fuses.variant then (rqInvalid, [], s)
    else (rqOk, [], { s with power := { s.power with cap := some w } })

/-- GET_POWER: the reasons stand where FWP_STAT has them. -/
def execGetPower (s : State) : Answer :=
  serve 1 0x21 s fun _ s => (rqOk, leBytes 2 s.power.meanWatts ++ leBytes 1 (2 * emergencyReasons s), s)

/-! ## Security versions and the owner slot (19 R505, R522) -/

/-- SVN_RAISE. -/
def execSvnRaise (s : State) : Answer :=
  serve 0 0x1B s fun x s =>
    let v := x.arg 8 1
    if v > 64 then (rqInvalid, [], s)
    else if v ≤ s.fuses.svnFloor ∨ v > (s.component 1).runSvn then (rqRefused, [], s)
    else if s.power.emergency then (rqBusy, [], s)
    else (rqOk, [], { s with fuses := { s.fuses with svnFloor := v } })

/-- OWNER_SET. -/
def execOwnerSet (s : State) : Answer :=
  serve 0 0x1C s fun x s =>
    let r := ownerSet (x.arg 16 8) (x.arg 24 8) s
    (r.1, [], r.2)

/-! ## Watchdogs and restarts (17 R475, R476, 14 R408) -/

/-- A record of a processor. -/
def fwRecord (m failed : Nat) (s : State) : State :=
  logError { atPlace 0x0D m { cause := 0x18, sev := sevEvent, info0 := m, info1 := failed } with sub := m } s

/-- Where FWM_STAT.restarts stops. -/
abbrev restartsTop : Nat := 0xFE

/-- Confidential contexts are fenced with the security core down: their message entries are freed (12 R353, 14 R407). -/
def fenceConfidential (s : State) : State :=
  (allCtxs.filter fun k => (s.ctx k.val).conf).foldl (fun s k => freeEntries k s) s

/-- A processor is held and restarts from warm state; with the security core the confidential contexts are fenced (17 R475). -/
def takeDown (m : Nat) (live : Bool) (s : State) : State :=
  withEmergency (fun s =>
    let x := s.proc m
    let s := if m = 0 then fenceConfidential s else s
    (holdSource s).setProc m { x with down := true, downClk := s.clk, restarts := satTo restartsTop (x.restarts + 1), live := live }) s

/-- The processors have been loaded (18 Phases). -/
def procsRun (s : State) : Bool := powered s && !s.boot.recovery && (s.boot.done || decide (3 < s.boot.phase))

/-- WATCHDOG_EXPIRY: 8 ms without a kick (17 R475). -/
def execWatchdogExpiry (m : Fin 19) (s : State) : Answer :=
  let x := s.proc m.val
  if !procsRun s || x.down || decide (s.clk < x.lastKick + 8 * msEdges) then .next s
  else .next (fwRecord m.val 0 (takeDown m.val false s))

/-- The next processor of an activation restarts, or the activation ends (17 R481). -/
def goOn (s : State) : State :=
  match s.fw.activation with
  | none => s
  | some a =>
    match a.remaining with
    | m :: rest => takeDown m.val true { s with fw := { s.fw with activation := some { a with remaining := rest } } }
    | [] =>
      let s := a.live.foldl (fun s k =>
        let x := s.component k
        if x.bank == .staged then s.setComponent k { x with bank := .running } else s) s
      let s := { s with fw := { s.fw with activation := none } }
      if a.pldm then State.sendMctp false (.pldmReply pldmOk []) s else respond 0 rqOk [] s

/-- FW_READY: the processor has rebuilt its view; a held request starts, one that was in progress is answered RESTARTED, and
an activation goes on; the power-management core has evaluated its reason bits again (17 R472, R475, R479, R481). -/
def execFwReady (m : Fin 19) (s : State) : Answer :=
  let x := s.proc m.val
  if !x.down then .next s
  else
    let s := withEmergency (fun s => (if m.val = 1 then judgeAgain s else s).setProc m.val { x with
      down := false, lastKick := s.clk, live := false, heldDb := false }) s
    let owed := x.busy && !x.heldDb && !(m.val = 0 && (match s.fw.activation with
      | some a => !a.pldm
      | none => false))
    let s := if owed then respond m.val rqRestarted [] s
      else if x.heldDb then startRequest m.val s else s
    .next (if x.live then goOn s else s)

/-- The previous bank of a component becomes the boot bank once more (17 R482). -/
def revertComponent (k : Nat) (s : State) : State :=
  let x := s.component k
  s.setComponent k { x with bank := .rejected, runVersion := x.prevVersion, runSvn := x.prevSvn, runDigest := x.prevDigest }

/-- The processors of an activation that run a component no longer restart for it. -/
def dropRemaining (k : Nat) (s : State) : State :=
  { s with fw := { s.fw with activation := s.fw.activation.map fun a =>
      { a with remaining := a.remaining.filter fun m => componentOf m.val != k } } }

/-- RESTART_FAIL: not ready within 20 ms. Two failures within 10 s start a chip reset; a live restart goes back to the
previous bank (14 R408, 17 R482). -/
def execRestartFail (m : Fin 19) (s : State) : Answer :=
  let x := s.proc m.val
  if !x.down || decide (s.clk < x.downClk + 20 * msEdges) then .next s
  else
    let recent := x.fails.filter fun t => decide (s.clk < t + 10000 * msEdges)
    let s := fwRecord m.val 1 s
    if !recent.isEmpty then .next (chipReset 3 m.val s)
    else
      let s := s.setProc m.val { s.proc m.val with fails := s.clk :: recent }
      let s := if x.live then dropRemaining (componentOf m.val) (revertComponent (componentOf m.val) s) else s
      .next (takeDown m.val x.live s)

/-! ## Activation (17 R481, R482, 13 R391) -/

/-- Staged components, ascending. -/
def stagedComponents (s : State) : List Nat := (List.range' 1 7).filter fun k => (s.component k).bank == .staged

/-- The processors of the live components, in order. -/
def liveProcs (ks : List Nat) : List (Fin 19) :=
  (List.finRange 19).filter fun m => m.val ≠ 0 && ks.contains (componentOf m.val)

/-- A bank is swapped: a live component runs the new image from its restart on, another waits for a chip reset. -/
def swapBank (s : State) (k : Nat) : State :=
  let x := s.component k
  if 2 ≤ k ∧ k ≤ 4 then
    s.setComponent k { x with
      prevVersion := x.runVersion, prevSvn := x.runSvn, prevDigest := x.runDigest,
      runVersion := some x.stagedVersion, runSvn := x.stagedSvn, runDigest := some x.stagedDigest }
  else s.setComponent k { x with bank := .awaitingReset }

/-- What an activation meets before it starts: a status, or none where it may start. -/
def activationBar (s : State) : Option Nat :=
  if s.fw.activation.isSome then some rqBusy
  else if s.power.emergency || (s.proc 1).down then some rqBusy
  else if (stagedComponents s).isEmpty then some rqRefused
  else none

/-- The banks are swapped and the first live processor restarts. -/
def beginActivation (pldm : Bool) (s : State) : State :=
  let ks := stagedComponents s
  let live := ks.filter fun k => decide (2 ≤ k) && decide (k ≤ 4)
  let s := ks.foldl swapBank s
  goOn { s with fw := { s.fw with activation := some ⟨liveProcs live, live, pldm⟩ } }

/-- FW_ACTIVATE. -/
def execFwActivate (s : State) : Answer :=
  let x := s.proc 0
  let k := x.arg 8 1
  if !x.busy || x.heldDb || x.down || x.op != 0x19 || !powered s then .next s
  else if s.fw.activation.any fun a => !a.pldm then .next s
  else if !x.sound || !isComponent k then .next (respond 0 rqInvalid [] s)
  else match activationBar s with
    | some st => .next (respond 0 st [] s)
    | none =>
      if (s.component k).bank != .staged then .next (respond 0 rqRefused [] s) else .next (beginActivation false s)

/-- PLDM completion codes (DSP0240, DSP0267). -/
abbrev pldmError : Nat := 0x01
/-- Not ready (13 R391). -/
abbrev pldmNotReady : Nat := 0x04
/-- Not in update mode. -/
abbrev pldmNoUpdate : Nat := 0x80
/-- Already in update mode. -/
abbrev pldmInUpdate : Nat := 0x81
/-- The state does not allow the command. -/
abbrev pldmBadState : Nat := 0x84

/-- ACTIVATE_FIRMWARE: an agent that is idle answers that no update is in progress (13 R391; PRESUMED, log entry 98). -/
def execActivateFirmware (s : State) : Answer :=
  if !sidebandUp s || (s.proc 0).down then .next s
  else if !s.fw.updating then .next (State.sendMctp false (.pldmReply pldmNoUpdate []) s)
  else match activationBar s with
    | some st => .next (State.sendMctp false (.pldmReply (if st = rqBusy then pldmNotReady else pldmBadState) []) s)
    | none => .next (beginActivation true { s with fw := { s.fw with updating := false } })

/-- The boot goes back to phase 0x3 with a verified security-core image (18 R496). -/
def leaveRecovery (s : State) : State :=
  { s with boot := { s.boot with
      done := false, running := true, result := 0, phase := 3, reason := 0, place := 0, recovery := false } }

/-- A recovered image is the running one. -/
def Component.recovered (x : Component) : Component :=
  { x with bank := .running, runVersion := some x.stagedVersion, runSvn := x.stagedSvn, runDigest := some x.stagedDigest }

/-- PLDM_FIRMWARE_UPDATE (13 R391, 17 R480, 18 R496). -/
def execPldmFirmwareUpdate (m : PldmUpdate) (s : State) : Answer :=
  let answer (code : Nat) (s : State) : Answer := .next (State.sendMctp false (.pldmReply code []) s)
  if !busUp s || !(sidebandUp s || s.boot.recovery) || (s.proc 0).down then .next s
  else match m with
    | .requestUpdate =>
      if s.fw.updating then answer pldmInUpdate s else answer pldmOk { s with fw := { s.fw with updating := true } }
    | .cancel => if !s.fw.updating then answer pldmNoUpdate s else answer pldmOk { s with fw := { s.fw with updating := false } }
    | .transfer k image =>
      if !s.fw.updating then answer pldmNoUpdate s
      else if !isComponent k || (s.boot.recovery && k != 1) then answer pldmError s
      else if activating s k then answer pldmNotReady s
      else
        let r := stage k image false s
        if !r.1 then answer pldmError r.2
        else if s.boot.recovery then
          answer pldmOk (leaveRecovery (r.2.setComponent 1 (r.2.component 1).recovered))
        else answer pldmOk r.2

end Sys2Proof.Machine
end

