-- ==== Sys2Proof/Machine/Vector.lean ====
section
/-! DEFINITION. V class: the vector unit (chapter 05, 07 R184, R185). -/

namespace Sys2Proof.Machine

/-! ## The common form (05 R117 to R119, R142, R143) -/

/-- A self-test visit occupies the tested paths of the vector unit, or waits to (05 R144, 15 R437). -/
def vectorVisited (s : State) (c : CoreId) : Bool := s.unitVisited (.vector c)

/-- Issue of an instruction on a tested path: it waits while a visit runs (05 R144). -/
def issueTested (i : Instr) (c : CoreId) (s : State) (body : CoreSt → State → Effect) : Answer :=
  issueVisited (vectorVisited s c) i c s body

/-- A trap that the vector unit detects: unit-precise (06 R167, R562). -/
def vectorTrap (cause detail : Nat) : Trap := { cause := cause, detail := detail, unit := unitVector, prec := 1 }

/-- What one lane of a vector result is: its word, its count, and whether it is poisoned. -/
structure LaneOut where
  word : Word32
  count : Count := .none
  bad : Bool := false
  deriving DecidableEq, Repr

/-- A check of the vector unit that fails in an active lane on a path this instruction uses (R142, R143, 15 R448;
DESIGN CHOICE, log entry 8): the lane, and the state with its record written. -/
def vectorUpset (c : CoreId) (pc : Addr) (paths lanes : List Nat) (s : State) : Option Nat × State :=
  let v := s.core c.val
  match v.vecUpset with
  | none => (none, s)
  | some (l, path) =>
    if !(lanes.contains l && paths.contains path) || (path == 1 && bitAt s.bst.intCtl 2)
        || (path == 2 && bitAt s.bst.intCtl 1) then (none, s)
    else (some l, logError (atCore s 0x03 c { cause := 0x0A, sev := sevPoisoned, pos := l, addr := pc.toNat
                                              info0 := path })
      (s.setCore c.val { v with vecUpset := none, poisonSeen := true }))

/-- Lane results written into a register, counted and marked. -/
def CoreSt.putLanes (v : CoreSt) (vd : VReg) (outs : List (Nat × LaneOut)) : CoreSt :=
  let v := outs.foldl (fun v p => v.setLane vd p.1 p.2.word p.2.bad) v
  let v := v.tally (Tally.sum ((outs.filter fun p => !p.2.bad).map fun p => p.2.count))
  v.sawPoison (outs.any fun p => p.2.bad)

/-- The lane that a failed check poisons. -/
def poisonLane (u : Option Nat) (l : Nat) (o : LaneOut) : LaneOut := { o with bad := o.bad || u == some l }

/-- Every active lane of vd takes what `f` gives it from the registers as they were. -/
def vecBody (c : CoreId) (vd : VReg) (pk : PReg) (paths : List Nat) (f : CoreSt → Nat → LaneOut) (v : CoreSt)
    (s : State) : Effect :=
  let act := v.active pk
  let u := vectorUpset c v.pc paths act s
  let w := u.2.core c.val
  .done (u.2.setCore c.val (w.putLanes vd (act.map fun l => (l, poisonLane u.1 l (f v l)))))

/-- An instruction on an integer, logic or lane path. -/
def vecInt (i : Instr) (c : CoreId) (vd : VReg) (pk : PReg) (paths : List Nat) (f : CoreSt → Nat → LaneOut)
    (s : State) : Answer :=
  issue i c s (vecBody c vd pk paths f)

/-- An instruction on a floating-point path, which self-test may occupy. -/
def vecFp (i : Instr) (c : CoreId) (vd : VReg) (pk : PReg) (f : CoreSt → Nat → LaneOut) (s : State) : Answer :=
  issueTested i c s (vecBody c vd pk [0] f)

/-- A lane result from a rounded value. -/
def convOut (r : Conv) (bad : Bool) : LaneOut := ⟨BitVec.ofNat 32 r.code, r.count, bad⟩

/-- A function of one FP32 source (R122, R123, R129). -/
def fpUnary (vs : VReg) (f : FVal → Conv) (v : CoreSt) (l : Nat) : LaneOut :=
  convOut (f (val32 (v.lane vs l))) (v.lanePoison vs l)

/-- A function of two FP32 sources. -/
def fpBinary (vs vt : VReg) (f : FVal → FVal → Conv) (v : CoreSt) (l : Nat) : LaneOut :=
  convOut (f (val32 (v.lane vs l)) (val32 (v.lane vt l))) (v.lanePoison vs l || v.lanePoison vt l)

/-- A function of two words with a count. -/
def intBinary (vs vt : VReg) (f : Word32 → Word32 → Word32 × Count) (v : CoreSt) (l : Nat) : LaneOut :=
  let r := f (v.lane vs l) (v.lane vt l)
  ⟨r.1, r.2, v.lanePoison vs l || v.lanePoison vt l⟩

/-! ## FP32 (R122 to R124) -/

/-- VMIN and VMAX: NaN if either operand is, −0 below +0 (R124). -/
def fpPick (larger : Bool) (a b : FVal) : Conv :=
  if a.isNan || b.isNan then round32 .nan
  else
    let o := a.compare b
    let aFirst := if o = 0 then a.neg else decide (o < 0)
    round32 (if aFirst != larger then a else b)

/-- VADD. -/
def execVadd (c : CoreId) (vd vs vt : VReg) (pk : PReg) (s : State) : Answer :=
  vecFp (.vadd c vd vs vt pk) c vd pk (fpBinary vs vt fun a b => round32 (a.add b)) s
/-- VSUB. -/
def execVsub (c : CoreId) (vd vs vt : VReg) (pk : PReg) (s : State) : Answer :=
  vecFp (.vsub c vd vs vt pk) c vd pk (fpBinary vs vt fun a b => round32 (a.sub b)) s
/-- VMUL. -/
def execVmul (c : CoreId) (vd vs vt : VReg) (pk : PReg) (s : State) : Answer :=
  vecFp (.vmul c vd vs vt pk) c vd pk (fpBinary vs vt fun a b => round32 (a.mul b)) s
/-- VFMA: vs × vt + vu with one rounding (R122). -/
def execVfma (c : CoreId) (vd vs vt vu : VReg) (pk : PReg) (s : State) : Answer :=
  vecFp (.vfma c vd vs vt vu pk) c vd pk (fun v l =>
    convOut (round32 (((val32 (v.lane vs l)).mul (val32 (v.lane vt l))).add (val32 (v.lane vu l))))
      (v.lanePoison vs l || v.lanePoison vt l || v.lanePoison vu l)) s
/-- VDIV. -/
def execVdiv (c : CoreId) (vd vs vt : VReg) (pk : PReg) (s : State) : Answer :=
  vecFp (.vdiv c vd vs vt pk) c vd pk (fpBinary vs vt fun a b => round32 (a.div b)) s
/-- VSQRT. -/
def execVsqrt (c : CoreId) (vd vs : VReg) (pk : PReg) (s : State) : Answer :=
  vecFp (.vsqrt c vd vs pk) c vd pk (fpUnary vs fun a => round32 a.sqrt) s
/-- VMIN. -/
def execVmin (c : CoreId) (vd vs vt : VReg) (pk : PReg) (s : State) : Answer :=
  vecFp (.vmin c vd vs vt pk) c vd pk (fpBinary vs vt (fpPick false)) s
/-- VMAX. -/
def execVmax (c : CoreId) (vd vs vt : VReg) (pk : PReg) (s : State) : Answer :=
  vecFp (.vmax c vd vs vt pk) c vd pk (fpBinary vs vt (fpPick true)) s
/-- VABS. -/
def execVabs (c : CoreId) (vd vs : VReg) (pk : PReg) (s : State) : Answer :=
  vecFp (.vabs c vd vs pk) c vd pk (fpUnary vs fun a => round32 a.abs) s
/-- VNEG. -/
def execVneg (c : CoreId) (vd vs : VReg) (pk : PReg) (s : State) : Answer :=
  vecFp (.vneg c vd vs pk) c vd pk (fpUnary vs fun a => round32 a.negate) s

/-! ## INT32 and lanes (R125) -/

/-- A sum clamped to INT32, counted when it clamps (R125). -/
def clampInt (x : Int) : Word32 × Count :=
  if x > 2 ^ 31 - 1 then (0x7FFFFFFF, .sat)
  else if x < -2 ^ 31 then (0x80000000, .sat)
  else (BitVec.ofInt 32 x, .none)

/-- A word without a count. -/
def plain (w : Word32) : Word32 × Count := (w, .none)

/-- VADD.I. -/
def execVaddI (c : CoreId) (vd vs vt : VReg) (pk : PReg) (s : State) : Answer :=
  vecInt (.vaddI c vd vs vt pk) c vd pk [0, 1] (intBinary vs vt fun a b => plain (a + b)) s
/-- VSUB.I. -/
def execVsubI (c : CoreId) (vd vs vt : VReg) (pk : PReg) (s : State) : Answer :=
  vecInt (.vsubI c vd vs vt pk) c vd pk [0, 1] (intBinary vs vt fun a b => plain (a - b)) s
/-- VMUL.I: the low 32 bits. -/
def execVmulI (c : CoreId) (vd vs vt : VReg) (pk : PReg) (s : State) : Answer :=
  vecInt (.vmulI c vd vs vt pk) c vd pk [0, 1] (intBinary vs vt fun a b => plain (a * b)) s
/-- VMULH: the high 32 bits of the signed product. -/
def execVmulh (c : CoreId) (vd vs vt : VReg) (pk : PReg) (s : State) : Answer :=
  vecInt (.vmulh c vd vs vt pk) c vd pk [0, 1]
    (intBinary vs vt fun a b => plain (BitVec.ofInt 32 (a.toInt * b.toInt / 2 ^ 32))) s
/-- VMULH.U: the high 32 bits of the unsigned product. -/
def execVmulhU (c : CoreId) (vd vs vt : VReg) (pk : PReg) (s : State) : Answer :=
  vecInt (.vmulhU c vd vs vt pk) c vd pk [0, 1]
    (intBinary vs vt fun a b => plain (BitVec.ofNat 32 (a.toNat * b.toNat / 2 ^ 32))) s
/-- VSLL: amounts of 32 or more give 0. -/
def execVsll (c : CoreId) (vd vs vt : VReg) (pk : PReg) (s : State) : Answer :=
  vecInt (.vsll c vd vs vt pk) c vd pk [0, 2] (intBinary vs vt fun a b => plain (a <<< b.toNat)) s
/-- VSRL: amounts of 32 or more give 0. -/
def execVsrl (c : CoreId) (vd vs vt : VReg) (pk : PReg) (s : State) : Answer :=
  vecInt (.vsrl c vd vs vt pk) c vd pk [0, 2] (intBinary vs vt fun a b => plain (a >>> b.toNat)) s
/-- VSRA: amounts of 32 or more give the sign fill. -/
def execVsra (c : CoreId) (vd vs vt : VReg) (pk : PReg) (s : State) : Answer :=
  vecInt (.vsra c vd vs vt pk) c vd pk [0, 2]
    (intBinary vs vt fun a b => plain (a.sshiftRight (min 31 b.toNat))) s
/-- VAND. -/
def execVand (c : CoreId) (vd vs vt : VReg) (pk : PReg) (s : State) : Answer :=
  vecInt (.vand c vd vs vt pk) c vd pk [0, 2] (intBinary vs vt fun a b => plain (a &&& b)) s
/-- VOR. -/
def execVor (c : CoreId) (vd vs vt : VReg) (pk : PReg) (s : State) : Answer :=
  vecInt (.vor c vd vs vt pk) c vd pk [0, 2] (intBinary vs vt fun a b => plain (a ||| b)) s
/-- VXOR. -/
def execVxor (c : CoreId) (vd vs vt : VReg) (pk : PReg) (s : State) : Answer :=
  vecInt (.vxor c vd vs vt pk) c vd pk [0, 2] (intBinary vs vt fun a b => plain (a ^^^ b)) s
/-- VADD.I.SAT. -/
def execVaddISat (c : CoreId) (vd vs vt : VReg) (pk : PReg) (s : State) : Answer :=
  vecInt (.vaddISat c vd vs vt pk) c vd pk [0, 1] (intBinary vs vt fun a b => clampInt (a.toInt + b.toInt)) s
/-- VSUB.I.SAT. -/
def execVsubISat (c : CoreId) (vd vs vt : VReg) (pk : PReg) (s : State) : Answer :=
  vecInt (.vsubISat c vd vs vt pk) c vd pk [0, 1] (intBinary vs vt fun a b => clampInt (a.toInt - b.toInt)) s
/-- VPERM: the lane of vs that vt names, modulo 256. -/
def execVperm (c : CoreId) (vd vs vt : VReg) (pk : PReg) (s : State) : Answer :=
  vecInt (.vperm c vd vs vt pk) c vd pk [0, 2] (fun v l =>
    let k := (v.lane vt l).toNat % 256
    ⟨v.lane vs k, .none, v.lanePoison vs k || v.lanePoison vt l⟩) s
/-- VSEL: vd ← pq ? vs : vt. It moves words and is given no type: a word that reads as an FP32 NaN or infinity is not counted,
here as in VPERM, VBCAST, VLD and VLDX (02 R54; DESIGN CHOICE, log entry 150). -/
def execVsel (c : CoreId) (vd vs vt : VReg) (pq pk : PReg) (s : State) : Answer :=
  vecInt (.vsel c vd vs vt pq pk) c vd pk [0, 2] (fun v l =>
    let r := if (v.pread pq).getLsbD l then vs else vt
    ⟨v.lane r l, .none, v.lanePoison r l⟩) s
/-- VBCAST: gs[31:0] in every active lane. -/
def execVbcast (c : CoreId) (vd : VReg) (gs : GReg) (pk : PReg) (s : State) : Answer :=
  vecInt (.vbcast c vd gs pk) c vd pk [] (fun v _ => ⟨(v.gread gs).setWidth 32, .none, false⟩) s

/-- VEXT: a lane word to gd, predicates ignored; POISON if it is poisoned (06 R157). -/
def execVext (c : CoreId) (gd : GReg) (vs : VReg) (lane : Fin 256) (s : State) : Answer :=
  issue (.vext c gd vs lane) c s fun v s =>
    let u := vectorUpset c v.pc [0] [lane.val] s
    let s := u.2
    if v.lanePoison vs lane.val || u.1.isSome then
      .trap (vectorTrap causePoison 0) (s.setCore c.val ((s.core c.val).sawPoison true))
    else .done (s.setCore c.val ((s.core c.val).gwrite gd ((v.lane vs lane.val).setWidth 64)))

/-! ## Predicates (R118, R124) -/

/-- A comparison of FP32 values: NaN satisfies not-equal alone (R124). -/
def fpRelation (rel : Rel) (a b : FVal) : Bool :=
  if a.isNan || b.isNan then rel == .ne
  else
    let o := a.compare b
    match rel with
    | .eq => o == 0 | .ne => o != 0 | .lt => o < 0 | .le => o ≤ 0 | .gt => o > 0 | .ge => o ≥ 0

/-- A comparison of integers. -/
def intRelation (rel : Rel) (a b : Int) : Bool :=
  match rel with
  | .eq => a == b | .ne => a != b | .lt => a < b | .le => a ≤ b | .gt => a > b | .ge => a ≥ b

/-- The relation of a VCMP in one lane. -/
def cmpLane (rel : Rel) (ty : CmpType) (a b : Word32) : Bool :=
  match ty with
  | .fp32 => fpRelation rel (val32 a) (val32 b)
  | .signed => intRelation rel a.toInt b.toInt
  | .unsigned => intRelation rel a.toNat b.toNat

/-- The predicate with the bit of each listed lane set to what `f` says. -/
def setPredicate (p : BitVec 256) (lanes : List Nat) (f : Nat → Bool) : BitVec 256 :=
  lanes.foldl (fun p l => if f l then p ||| (1 : BitVec 256) <<< l else p &&& ~~~((1 : BitVec 256) <<< l)) p

/-- The trap of an instruction that names p0 as its destination (R118). -/
def predicateTrap : Trap := { cause := causeIllegalOperand, detail := 0x05 }

/-- VCMP; a poisoned active source faults before pd is written (R143). -/
def vcmpBody (c : CoreId) (pd : PReg) (vs vt : VReg) (rel : Rel) (ty : CmpType) (pk : PReg) (v : CoreSt) (s : State) :
    Effect :=
  if pd = 0 then .trap predicateTrap s
  else
    let act := v.active pk
    let u := vectorUpset c v.pc [0, 2] act s
    let s := u.2
    if u.1.isSome || act.any fun l => v.lanePoison vs l || v.lanePoison vt l then
      .trap (vectorTrap causePoison 0) (s.setCore c.val ((s.core c.val).sawPoison true))
    else .done (s.setCore c.val ((s.core c.val).pwrite pd
      (setPredicate (v.pread pd) act fun l => cmpLane rel ty (v.lane vs l) (v.lane vt l))))

/-- VCMP: the FP32 comparison lies on a tested path. -/
def execVcmp (c : CoreId) (pd : PReg) (vs vt : VReg) (rel : Rel) (ty : CmpType) (pk : PReg) (s : State) : Answer :=
  if ty = .fp32 then issueTested (.vcmp c pd vs vt rel ty pk) c s (vcmpBody c pd vs vt rel ty pk)
  else issue (.vcmp c pd vs vt rel ty pk) c s (vcmpBody c pd vs vt rel ty pk)

/-- A predicate-logic instruction over all 256 bits. A predicate bit carries no poison mark, so where the duplicated logic
disagrees the instruction faults as VCMP does, and pd is unchanged (R142, R143, 15 R424; DESIGN CHOICE, log entry 151). -/
def predOp (i : Instr) (c : CoreId) (pd : PReg) (f : CoreSt → BitVec 256) (s : State) : Answer :=
  issue i c s fun v s =>
    if pd = 0 then .trap predicateTrap s
    else
      let u := vectorUpset c v.pc [2] (List.range 256) s
      if u.1.isSome then .trap (vectorTrap causePoison 0) u.2
      else .done (u.2.setCore c.val ((u.2.core c.val).pwrite pd (f v)))

/-- PAND. -/
def execPand (c : CoreId) (pd ps pt : PReg) (s : State) : Answer :=
  predOp (.pand c pd ps pt) c pd (fun v => v.pread ps &&& v.pread pt) s
/-- POR. -/
def execPor (c : CoreId) (pd ps pt : PReg) (s : State) : Answer :=
  predOp (.por c pd ps pt) c pd (fun v => v.pread ps ||| v.pread pt) s
/-- PXOR. -/
def execPxor (c : CoreId) (pd ps pt : PReg) (s : State) : Answer :=
  predOp (.pxor c pd ps pt) c pd (fun v => v.pread ps ^^^ v.pread pt) s
/-- PNOT. -/
def execPnot (c : CoreId) (pd ps : PReg) (s : State) : Answer :=
  predOp (.pnot c pd ps) c pd (fun v => ~~~v.pread ps) s

/-! ## Reductions (R127, R128) -/

/-- One level of the tree: neighbours combined, an empty node passing the other. -/
def treeLevel {α : Type} (op : α → α → α) : List (Option α) → List (Option α)
  | l :: r :: rest => (match l, r with
      | none, r => r
      | l, none => l
      | some a, some b => some (op a b)) :: treeLevel op rest
  | l => l

/-- Eight levels over the 256 lanes (R127). -/
def reduceTree {α : Type} (op : α → α → α) : Nat → List (Option α) → Option α
  | 0, l => (l.head?).join
  | n + 1, l => reduceTree op n (treeLevel op l)

/-- The leaves of a reduction: active lanes hold values, others are empty. -/
def leaves {α : Type} (v : CoreSt) (pk : PReg) (f : Nat → α) : List (Option α) :=
  (List.range 256).map fun l => if (v.pread pk).getLsbD l then some (f l) else none

/-- A reduction's result in lane 0, poisoned if an active lane was. -/
def reduceBody (c : CoreId) (vd vs : VReg) (pk : PReg) (f : CoreSt → Conv) (v : CoreSt) (s : State) : Effect :=
  let act := v.active pk
  let u := vectorUpset c v.pc [0] act s
  let w := u.2.core c.val
  let bad := u.1.isSome || act.any fun l => v.lanePoison vs l
  .done (u.2.setCore c.val (w.putLanes vd [(0, convOut (f v) bad)]))

/-- VRSUM over values with the flush flags of the tree's roundings (R127, R128). -/
def sumConv (vs : VReg) (pk : PReg) (v : CoreSt) : Conv :=
  let op (a b : FVal × Bool) : FVal × Bool :=
    let r := rn32 (a.1.add b.1)
    (r.1, a.2 || b.2 || r.2)
  match reduceTree op 8 (leaves v pk fun l => (val32 (v.lane vs l), false)) with
  | none => ⟨0, .none⟩
  | some (x, fl) =>
    let r := round32 x
    if fl && x.isFin then ⟨r.code, .flush⟩ else r

/-- VRMAX and VRMIN (R127). -/
def pickConv (larger : Bool) (vs : VReg) (pk : PReg) (v : CoreSt) : Conv :=
  let op (a b : FVal) : FVal := ffp32.decode (fpPick larger a b).code
  round32 ((reduceTree op 8 (leaves v pk fun l => val32 (v.lane vs l))).getD (.inf larger))

/-- VRSUM. -/
def execVrsum (c : CoreId) (vd vs : VReg) (pk : PReg) (s : State) : Answer :=
  issueTested (.vrsum c vd vs pk) c s (reduceBody c vd vs pk (sumConv vs pk))
/-- VRMAX. -/
def execVrmax (c : CoreId) (vd vs : VReg) (pk : PReg) (s : State) : Answer :=
  issueTested (.vrmax c vd vs pk) c s (reduceBody c vd vs pk (pickConv true vs pk))
/-- VRMIN. -/
def execVrmin (c : CoreId) (vd vs : VReg) (pk : PReg) (s : State) : Answer :=
  issueTested (.vrmin c vd vs pk) c s (reduceBody c vd vs pk (pickConv false vs pk))
/-- VRSUM.I: wraps modulo 2^32 (R128). -/
def execVrsumI (c : CoreId) (vd vs : VReg) (pk : PReg) (s : State) : Answer :=
  issueTested (.vrsumI c vd vs pk) c s (reduceBody c vd vs pk fun v =>
    ⟨((v.active pk).map fun l => (v.lane vs l).toNat).sum % 2 ^ 32, .none⟩)

/-! ## Transcendental functions (R129 to R131) -/

/-- The .A form: bits [10:0] of a finite non-zero result cleared; a subnormal that becomes zero is flushed
(R130). -/
def approx (r : Conv) : Conv :=
  let v := ffp32.decode r.code
  if v.isFin && !v.isZero then
    let code := r.code / 2048 * 2048
    ⟨code, if (ffp32.decode code).isZero then .flush else r.count⟩
  else r

/-- VEXP2. -/
def execVexp2 (c : CoreId) (vd vs : VReg) (pk : PReg) (s : State) : Answer :=
  vecFp (.vexp2 c vd vs pk) c vd pk (fpUnary vs fun a => round32 a.exp2) s
/-- VEXP2.A. -/
def execVexp2A (c : CoreId) (vd vs : VReg) (pk : PReg) (s : State) : Answer :=
  vecFp (.vexp2A c vd vs pk) c vd pk (fpUnary vs fun a => approx (round32 a.exp2)) s
/-- VLOG2. -/
def execVlog2 (c : CoreId) (vd vs : VReg) (pk : PReg) (s : State) : Answer :=
  vecFp (.vlog2 c vd vs pk) c vd pk (fpUnary vs fun a => round32 a.log2) s
/-- VLOG2.A. -/
def execVlog2A (c : CoreId) (vd vs : VReg) (pk : PReg) (s : State) : Answer :=
  vecFp (.vlog2A c vd vs pk) c vd pk (fpUnary vs fun a => approx (round32 a.log2)) s
/-- 1 / x with the special inputs of R131. A finite result that overflows is +∞, of a negative subnormal too: R131 says so of
every result that overflows, and R129 with 03 R70 would give −∞ (DEDUCED, log entry 152). -/
def recip (a : FVal) : Conv :=
  let r := (FVal.fin false 1 0).div a
  if a.isFin && !a.isZero && (rn32 r).1.isInf then round32 (.inf false) else round32 r
/-- VRCP. -/
def execVrcp (c : CoreId) (vd vs : VReg) (pk : PReg) (s : State) : Answer :=
  vecFp (.vrcp c vd vs pk) c vd pk (fpUnary vs recip) s
/-- VRCP.A. -/
def execVrcpA (c : CoreId) (vd vs : VReg) (pk : PReg) (s : State) : Answer :=
  vecFp (.vrcpA c vd vs pk) c vd pk (fpUnary vs fun a => approx (recip a)) s
/-- VRSQRT. -/
def execVrsqrt (c : CoreId) (vd vs : VReg) (pk : PReg) (s : State) : Answer :=
  vecFp (.vrsqrt c vd vs pk) c vd pk (fpUnary vs fun a => round32 a.rsqrt) s
/-- VRSQRT.A. -/
def execVrsqrtA (c : CoreId) (vd vs : VReg) (pk : PReg) (s : State) : Answer :=
  vecFp (.vrsqrtA c vd vs pk) c vd pk (fpUnary vs fun a => approx (round32 a.rsqrt)) s
/-- VSINPI. -/
def execVsinpi (c : CoreId) (vd vs : VReg) (pk : PReg) (s : State) : Answer :=
  vecFp (.vsinpi c vd vs pk) c vd pk (fpUnary vs fun a => round32 a.sinPi) s
/-- VCOSPI. -/
def execVcospi (c : CoreId) (vd vs : VReg) (pk : PReg) (s : State) : Answer :=
  vecFp (.vcospi c vd vs pk) c vd pk (fpUnary vs fun a => round32 a.cosPi) s

/-! ## Draws (R135, R139) -/

/-- Draws of the listed lanes, ascending: each lane's draw and the core after them (02 R45). -/
def drawLanes (v : CoreSt) (lanes : List Nat) : List (Nat × Word32) × CoreSt :=
  lanes.foldl (fun acc l =>
    let d := acc.2.draw l
    (acc.1 ++ [(l, d.1)], d.2)) ([], v)

/-- VRAND: one draw in each active lane; the unit faults while the core is not seeded. -/
def execVrand (c : CoreId) (vd : VReg) (pk : PReg) (s : State) : Answer :=
  issue (.vrand c vd pk) c s fun v s =>
    if !v.seeded then .trap (vectorTrap causeIllegalState 0x01) s
    else
      let act := v.active pk
      let u := stippleUpset c v.pc act s
      let d := drawLanes (u.2.core c.val) act
      .done (u.2.setCore c.val (d.2.putLanes vd (d.1.map fun p => (p.1, ⟨p.2, .none, u.1 == some p.1⟩))))

/-! ## Local-store access (R120, R121) -/

/-- The offset of VLD and VST in the own local store, checked at issue (R120, 06 R562). -/
def vectorOffset (base : Word) (off : BitVec 24) : Except Trap Nat :=
  let a := (base + off.signExtend 64).toNat
  if a % 64 ≠ 0 then .error { cause := causeAddress, detail := 0x01, addr := a }
  else if a + 1024 > localSize then .error { cause := causeAddress, detail := 0x02, addr := a }
  else .ok a

/-- VLD: 1,024 bytes; a poisoned word poisons its lanes. -/
def execVld (c : CoreId) (vd : VReg) (gs : GReg) (off : BitVec 24) (s : State) : Answer :=
  issue (.vld c vd gs off) c s fun v s =>
    match vectorOffset (v.gread gs) off with
    | .error t => .trap t s
    | .ok o =>
      let a := localAddr c o
      let s := s.touch a 1024
      .done (s.setCore c.val ((s.core c.val).putLanes vd ((List.range 256).map fun l =>
        (l, ⟨BitVec.ofNat 32 (leNat (s.bytes (a + 4 * l) 4)), .none, s.wordPoisoned ((a + 4 * l) / 8)⟩))))

/-- VST: 1,024 bytes; a word with a poisoned lane, or with a lane whose source word fails its parity check, is written
poisoned (R121, R143). -/
def execVst (c : CoreId) (vs : VReg) (gs : GReg) (off : BitVec 24) (s : State) : Answer :=
  issue (.vst c vs gs off) c s fun v s =>
    match vectorOffset (v.gread gs) off with
    | .error t => .trap t s
    | .ok o =>
      let a := localAddr c o
      let u := vectorUpset c v.pc [0] (List.range 256) s
      let bad (l : Nat) : Bool := v.lanePoison vs l || u.1 == some l
      let s := coreWrite c a ((List.range 256).flatMap fun l => leBytes 4 (v.lane vs l).toNat)
        (fun w => bad ((8 * w - a) / 4) || bad ((8 * w - a) / 4 + 1)) u.2
      .done (s.setCore c.val ((s.core c.val).sawPoison ((List.range 256).any (v.lanePoison vs))))

/-- The per-lane offset of VLDX and VSTX: gs plus the unsigned lane word, modulo 2^64 (07 R184; DESIGN CHOICE, log entry 50, on
the sum that wraps). -/
def laneOffset (base : Word) (o : Word32) : Nat := (base + o.setWidth 64).toNat

/-- The first active lane, with an offset that is not poisoned, that is misaligned or beyond the store (R120). -/
def offsetFault (v : CoreSt) (gs : GReg) (vt : VReg) (act : List Nat) : Option Trap :=
  match (act.filter fun l => !v.lanePoison vt l).find? (fun l =>
      laneOffset (v.gread gs) (v.lane vt l) % 4 != 0 || decide (laneOffset (v.gread gs) (v.lane vt l) + 4 > localSize)) with
  | none => none
  | some l =>
    let o := laneOffset (v.gread gs) (v.lane vt l)
    some { vectorTrap causeAddress (if o % 4 ≠ 0 then 0x01 else 0x02) with lane := l, addr := o }

/-- VLDX: a poisoned offset makes no access and poisons its lane (R120). A lane whose address-generation check fails still
makes its access, and its lane is poisoned (R142, R143; DESIGN CHOICE, log entry 153). -/
def execVldx (c : CoreId) (vd : VReg) (gs : GReg) (vt : VReg) (pk : PReg) (s : State) : Answer :=
  issue (.vldx c vd gs vt pk) c s fun v s =>
    let act := v.active pk
    match offsetFault v gs vt act with
    | some t => .trap t s
    | none =>
      let u := vectorUpset c v.pc [0, 1] act s
      let addr (l : Nat) : Nat := localAddr c (laneOffset (v.gread gs) (v.lane vt l))
      let s := (act.filter fun l => !v.lanePoison vt l).foldl (fun s l => s.touch (addr l) 4) u.2
      let out (l : Nat) : LaneOut :=
        if v.lanePoison vt l then ⟨v.lane vd l, .none, true⟩
        else ⟨BitVec.ofNat 32 (leNat (s.bytes (addr l) 4)), .none, s.wordPoisoned (addr l / 8)⟩
      .done (s.setCore c.val ((s.core c.val).putLanes vd (act.map fun l => (l, poisonLane u.1 l (out l)))))

/-- The lanes whose word no higher active lane names (R121). -/
def lastWriters (key : Nat → Nat) : List Nat → List Nat
  | [] => []
  | l :: rest => if rest.any (fun m => key m == key l) then lastWriters key rest else l :: lastWriters key rest

/-- The words that a slot of 64 lanes writes in one access: each 8-byte word with the words of the lanes that name its halves
(08 R205). -/
def slotWords (key : Nat → Nat) (ls : List Nat) : List (List Nat) :=
  (ls.filter fun l => key l % 8 = 0 || !ls.any fun m => key m + 4 == key l).map fun l =>
    l :: ls.filter fun m => key l % 8 == 0 && key m == key l + 4

/-- VSTX: a poisoned active offset faults before any lane stores (R120); the highest lane wins a word (R121). Lanes of one
slot that fill both halves of an 8-byte word write it in one access (08 R205). A lane whose address-generation check fails
still stores, and its word is written poisoned (R142, R143; DESIGN CHOICE, log entry 153). -/
def execVstx (c : CoreId) (vs : VReg) (gs : GReg) (vt : VReg) (pk : PReg) (s : State) : Answer :=
  issue (.vstx c vs gs vt pk) c s fun v s =>
    let act := v.active pk
    match offsetFault v gs vt act with
    | some t => .trap t s
    | none =>
      match act.find? (v.lanePoison vt) with
      | some l => .trap { vectorTrap causePoison 0 with lane := l } (s.setCore c.val ((s.core c.val).sawPoison true))
      | none =>
        let u := vectorUpset c v.pc [0, 1] act s
        let off (l : Nat) : Nat := laneOffset (v.gread gs) (v.lane vt l)
        let bad (l : Nat) : Bool := v.lanePoison vs l || u.1 == some l
        let slots := (List.range 4).map fun k => (lastWriters off act).filter fun l => l / 64 = k
        let s := (slots.flatMap (slotWords off)).foldl (fun s ls =>
          coreWrite c (localAddr c (off (ls.headD 0))) (ls.flatMap fun l => leBytes 4 (v.lane vs l).toNat)
            (fun _ => ls.any bad) s) u.2
        .done (s.setCore c.val ((s.core c.val).sawPoison (act.any (v.lanePoison vs))))

end Sys2Proof.Machine
end

