-- ==== Sys2Proof/Machine/XConvert.lean ====
section
/-! DEFINITION. X class: XCVT (02 R42 to R53, 05 R132 to R134, R563, 06 R562, 07 R187, R188). -/

namespace Sys2Proof.Machine

/-- The modifiers that a pairing allows: sr, sat, tz (07 R187). -/
def modifiersAllowed (dst src : Fmt) (sr sat tz : Bool) : Bool :=
  (!sr || dst != .fp32 || src == .int32) && (!sat || dst.is16) && (!tz || dst == .int32)

/-- The checks of XCVT at issue, in the order of R562; the answer is the pre-scale exponent. -/
def xcvtChecks (v : CoreSt) (dst src : Fmt) (vd : VReg) (gk : GReg) (vx : VReg) (pk : PReg) (sr sat tz : Bool) :
    Except Trap Int :=
  if !modifiersAllowed dst src sr sat tz then .error { cause := causeIllegalOperand, detail := 0x0A }
  else if (dst.isBlock || src.isBlock) && (pk != 0 || (dst.isBlock && vd == vx)) then
    .error { cause := causeIllegalOperand, detail := 0x05 }
  else if src ≠ .fp32 then .ok 0
  else match preScale (v.gread gk) with
    | some k => .ok k
    | none => .error { cause := causeIllegalOperand, detail := 0x04 }

/-- The rounding of a lane: its draw under .SR, else toward zero or to nearest. -/
def laneRounding (sr tz : Bool) (draws : List (Nat × Word32)) (l : Nat) : Rounding :=
  if sr then drawRounding (((draws.find? fun p => p.1 == l).map (·.2)).getD 0)
  else if tz then .towardZero else .nearest

/-- A lane's source value: FP16 and BF16 lie in bits [15:0] (R563). -/
def sourceValue (src : Fmt) (w : Word32) : FVal :=
  if src.is16 then fmtValue src (w.toNat % 65536) else fmtValue src w.toNat

/-- A conversion lane by lane. -/
def xcvtPlain (dst src : Fmt) (vs : VReg) (k : Int) (sat : Bool) (rnd : Nat → Rounding) (v : CoreSt) (l : Nat) : LaneOut :=
  convOut (convertPlain dst (rnd l) sat ((sourceValue src (v.lane vs l)).scale k)) (v.lanePoison vs l)

/-- The 1,024-byte image of a vector register (R117). -/
def CoreSt.image (v : CoreSt) (r : VReg) : Bytes := (List.range 256).flatMap fun l => leBytes 4 (v.lane r l).toNat

/-- Lane `32 j + i` of a conversion from a block format (R133): exact, but for overflow to infinity. -/
def xcvtFromBlock (src : Fmt) (vs vx : VReg) (img scales : Bytes) (v : CoreSt) (l : Nat) : LaneOut :=
  let code := elemCode src img l
  let bit := l % 32 * elemBits src
  let start := l / 32 * blockBytes src
  let lanes := [(start + bit / 8) / 4, (start + (bit + elemBits src - 1) / 8) / 4]
  convOut (round32 (blockValueOf src (byteAt scales (l / 32)).toNat code))
    (lanes.any (v.lanePoison vs) || v.lanePoison vx (l / 32 / 4))

/-- Word `l` of a 1,024-byte image. -/
def imageWord (img : Bytes) (l : Nat) : Word32 := BitVec.ofNat 32 (leAt img (4 * l) 4)

/-- A conversion into a block format (R133): the two destination images, the counts and the poisoned blocks. -/
def xcvtToBlock (dst : Fmt) (vs : VReg) (k : Int) (rnd : Nat → Rounding) (up : Option Nat) (v : CoreSt) :
    Bytes × Bytes × List Count × List Nat :=
  let block (j : Nat) : Block :=
    let ls := List.range' (32 * j) 32
    convertBlock dst (ls.map rnd) (ls.map fun l => (val32 (v.lane vs l)).scale k)
  let bs := (List.range 8).map block
  let bad := (List.range 8).filter fun j => (List.range' (32 * j) 32).any fun l => v.lanePoison vs l || up == some l
  (fitTo 1024 (packCodes dst (bs.flatMap (·.codes))), fitTo 1024 (bs.map fun b => BitVec.ofNat 8 b.scale),
   (bs.zipIdx.filter fun p => !bad.contains p.2).flatMap (fun p => p.1.counts), bad)

/-- Both destinations of a conversion into a block format, written. -/
def CoreSt.putBlocks (v : CoreSt) (dst : Fmt) (vd vx : VReg) (r : Bytes × Bytes × List Count × List Nat) : CoreSt :=
  let elems := (List.range 256).map fun l =>
    (l, (⟨imageWord r.1 l, .none, r.2.2.2.contains (4 * l / blockBytes dst)⟩ : LaneOut))
  let scales := (List.range 256).map fun l =>
    (l, (⟨imageWord r.2.1 l, .none, r.2.2.2.any fun j => j / 4 == l⟩ : LaneOut))
  ((v.putLanes vd elems).putLanes vx scales).tally (Tally.sum r.2.2.1)

/-- XCVT. -/
def execXcvt (c : CoreId) (dst src : Fmt) (vd vs : VReg) (gk : GReg) (vx : VReg) (pk : PReg) (sr sat tz : Bool)
    (s : State) : Answer :=
  issueTested (.xcvt c dst src vd vs gk vx pk sr sat tz) c s fun v s =>
    match xcvtChecks v dst src vd gk vx pk sr sat tz with
    | .error t => .trap t s
    | .ok k =>
      if sr && !v.seeded then .trap (vectorTrap causeIllegalState 0x01) s
      else
        let act := v.active pk
        let su := if sr then stippleUpset c v.pc act s else (none, s)
        let vu := vectorUpset c v.pc [0] act su.2
        let up := if su.1.isSome then su.1 else vu.1
        let w := vu.2.core c.val
        let d := if sr then drawLanes w act else ([], w)
        let rnd := laneRounding sr tz d.1
        let out :=
          if dst.isBlock then d.2.putBlocks dst vd vx (xcvtToBlock dst vs k rnd up v)
          else if src.isBlock then
            let img := v.image vs
            let sc := v.image vx
            d.2.putLanes vd (act.map fun l => (l, poisonLane up l (xcvtFromBlock src vs vx img sc v l)))
          else d.2.putLanes vd (act.map fun l => (l, poisonLane up l (xcvtPlain dst src vs k sat rnd v l)))
        .done (vu.2.setCore c.val out)

end Sys2Proof.Machine
end

