-- ==== Sys2Proof/Machine/Integrity.lean ====
section
/-! DEFINITION. The background checks: the self-test rotor, the security core's comparison, coalescing windows, hawk
queues, the patrol and the sweep (15 R423, R431 to R439, R445, 08 R208, R214, R216). -/

namespace Sys2Proof.Machine

/-! ## The rotor (15 R436 to R439) -/

/-- INT_CTL.bst_dis. -/
def State.testsOff (s : State) : Bool := bitAt s.bst.intCtl 3

/-- The visits of one round of each kind. -/
abbrev engVisits : Nat := 1024
/-- Of vector units. -/
abbrev vecVisits : Nat := 256
/-- Of stack controllers. -/
abbrev stkVisits : Nat := 16

/-- INT_STAT.hw_ok (15 R439). -/
def hwOk (s : State) : Bool :=
  bitsAt s.bst.intCtl 0 4 == 0 && !s.bst.late && decide (engVisits ≤ s.bst.passedEng)
    && decide (vecVisits ≤ s.bst.passedVec) && decide (stkVisits ≤ s.bst.passedStk)

/-- A breach: the rounds begin again (15 R439). -/
def Bst.breach (b : Bst) : Bst := { b with passedEng := 0, passedVec := 0, passedStk := 0 }

/-- A visit on time, or what takes its place, counts toward its round. -/
def Bst.count (b : Bst) (u : BstUnit) : Bst :=
  match u with
  | .engine _ _ => { b with passedEng := satTo engVisits (b.passedEng + 1) }
  | .vector _ => { b with passedVec := satTo vecVisits (b.passedVec + 1) }
  | .keccak _ => { b with passedStk := satTo stkVisits (b.passedStk + 1) }

/-- The rotor's next unit of the kind of `u`, with the clock at which its visit falls due. -/
def Bst.nextOf (b : Bst) (u : BstUnit) : BstUnit × Nat :=
  match u with
  | .engine _ _ => (.engine (Fin.ofNat 256 (b.engNext / 4)) (Fin.ofNat 4 b.engNext), b.engDue)
  | .vector _ => (.vector (Fin.ofNat 256 b.vecNext), b.vecDue)
  | .keccak _ => (.keccak (Fin.ofNat 16 b.stkNext), b.stkDue)

/-- The intervals (15 R436). -/
abbrev engInterval : Nat := 614400
/-- Of vector units. -/
abbrev vecInterval : Nat := 2457600
/-- Of stack controllers. -/
abbrev stkInterval : Nat := 38400000

/-- The rotor moves on to the next unit of the kind of `u`. -/
def Bst.advance (b : Bst) (u : BstUnit) : Bst :=
  match u with
  | .engine _ _ => { b with engNext := (b.engNext + 1) % engVisits, engDue := b.engDue + engInterval }
  | .vector _ => { b with vecNext := (b.vecNext + 1) % vecVisits, vecDue := b.vecDue + vecInterval }
  | .keccak _ => { b with stkNext := (b.stkNext + 1) % stkVisits, stkDue := b.stkDue + stkInterval }

/-- A core is in a reset (15 R437). -/
def coreInReset (s : State) (c : CoreId) : Bool :=
  allCtxs.any fun k => match (s.ctx k.val).resetRun with
    | some r => match r.rung with
      | .context => false
      | .core => r.cores.contains c
      | .partition => (s.ctx k.val).hasCore c.val
    | none => false

/-- The unit's core is in a reset. -/
def unitInReset (s : State) : BstUnit → Bool
  | .engine c _ => coreInReset s c
  | .vector c => coreInReset s c
  | .keccak _ => false

/-- BST_DUE: the interval expires, and a visit to the next unit falls due; a core in a reset is skipped. -/
def execBstDue (u : BstUnit) (s : State) : Answer :=
  let n := s.bst.nextOf u
  if s.testsOff || !s.boot.done || n.1 != u || decide (s.clk < n.2) then .next s
  else
    let b := s.bst.advance u
    .next { s with bst := if unitInReset s u then b.count u else { b with due := b.due ++ [(u, s.clk, false)] } }

/-- Two units share the limit of one visit at a time (15 R436). -/
def sameLimit : BstUnit → BstUnit → Bool
  | .engine _ _, .engine _ _ => true
  | .vector _, .vector _ => true
  | .keccak a, .keccak b => a == b
  | _, _ => false

/-- The location of a unit's record. -/
def unitRecord (s : State) (u : BstUnit) (r : ErrRec) : ErrRec :=
  match u with
  | .engine c e => atEngine s c e r
  | .vector c => atCore s 0x03 c r
  | .keccak k => atPlace 0x07 k.val r

/-- STP_STAT.bst_busy of a visited vector unit (05 R141). -/
def noteVisit (u : BstUnit) (on : Bool) (s : State) : State :=
  match u with
  | .vector c => s.setCore c.val { s.core c.val with stpBusy := on }
  | _ => s

/-- A visit could not start within 100 ms of falling due: bst_late is set, hw_ok falls, and a record is written (15 R437,
R439). -/
def visitLate (u : BstUnit) (s : State) : State :=
  logError (unitRecord s u { cause := 0x0C, sev := sevEvent, info1 := 1 }) { s with bst := { s.bst.breach with late := true } }

/-- The instruction that a core's unit held for a visit, which has its effect now: the drains and the instructions on the tested
paths (04 R108, 05 R144). -/
def performHeld (i : Instr) (s : State) : Answer :=
  match i with
  | .mdrain c e ai r0 tD gk gl fmt sr sat => execMdrain c e ai r0 tD gk gl fmt sr sat s
  | .mdrainF32x2 c e ai r0 tD gk gl => execMdrainF32x2 c e ai r0 tD gk gl s
  | .vadd c vd vs vt pk => execVadd c vd vs vt pk s
  | .vsub c vd vs vt pk => execVsub c vd vs vt pk s
  | .vmul c vd vs vt pk => execVmul c vd vs vt pk s
  | .vfma c vd vs vt vu pk => execVfma c vd vs vt vu pk s
  | .vdiv c vd vs vt pk => execVdiv c vd vs vt pk s
  | .vsqrt c vd vs pk => execVsqrt c vd vs pk s
  | .vmin c vd vs vt pk => execVmin c vd vs vt pk s
  | .vmax c vd vs vt pk => execVmax c vd vs vt pk s
  | .vabs c vd vs pk => execVabs c vd vs pk s
  | .vneg c vd vs pk => execVneg c vd vs pk s
  | .vcmp c pd vs vt rel ty pk => execVcmp c pd vs vt rel ty pk s
  | .vrsum c vd vs pk => execVrsum c vd vs pk s
  | .vrmax c vd vs pk => execVrmax c vd vs pk s
  | .vrmin c vd vs pk => execVrmin c vd vs pk s
  | .vrsumI c vd vs pk => execVrsumI c vd vs pk s
  | .vexp2 c vd vs pk => execVexp2 c vd vs pk s
  | .vexp2A c vd vs pk => execVexp2A c vd vs pk s
  | .vlog2 c vd vs pk => execVlog2 c vd vs pk s
  | .vlog2A c vd vs pk => execVlog2A c vd vs pk s
  | .vrcp c vd vs pk => execVrcp c vd vs pk s
  | .vrcpA c vd vs pk => execVrcpA c vd vs pk s
  | .vrsqrt c vd vs pk => execVrsqrt c vd vs pk s
  | .vrsqrtA c vd vs pk => execVrsqrtA c vd vs pk s
  | .vsinpi c vd vs pk => execVsinpi c vd vs pk s
  | .vcospi c vd vs pk => execVcospi c vd vs pk s
  | .xcvt c dst src vd vs gk vx pk sr sat tz => execXcvt c dst src vd vs gk vx pk sr sat tz s
  | _ => .next s

/-- The core whose unit a visit occupies. -/
def visitCore : BstUnit → Option CoreId
  | .engine c _ => some c
  | .vector c => some c
  | .keccak _ => none

/-- After a visit: an instruction that its unit held goes on, unless another unit's visit holds it. -/
def releaseHeld (u : BstUnit) (s : State) : Answer :=
  match visitCore u with
  | none => .next s
  | some c => match (s.core c.val).hold with
    | .visit i => performHeld i s
    | _ => .next s

/-- BST_VISIT_START: what was in flight has finished, and the visit starts; one that starts more than 100 ms after it fell due is
late, whether or not that has been seen before (15 R437). -/
def execBstVisitStart (u : BstUnit) (s : State) : Answer :=
  match s.bst.due.find? fun d => d.1 == u with
  | none => .next s
  | some d =>
    let b := { s.bst with due := s.bst.due.erase d }
    if unitInReset s u then releaseHeld u { s with bst := b.count u }
    else if b.visiting.any fun v => sameLimit v.1 u then .next s
    else
      let tardy := decide (d.2.1 + 100 * msEdges < s.clk)
      let s := noteVisit u true { s with bst := { b with visiting := b.visiting ++ [(u, d.2.2 || tardy)] } }
      .next (if tardy && !d.2.2 then visitLate u s else s)

/-- The contexts that ran on a unit since its previous passing visit. -/
def ranOnUnit (s : State) : BstUnit → List CtxId
  | .engine c e => s.bst.ranEng.get [] (4 * c.val + e.val)
  | .vector c => s.bst.ranVec.get [] c.val
  | .keccak k => s.bst.ranStk.get [] k.val

/-- After a passing visit: who runs on the unit now. -/
def Bst.passed (b : Bst) (u : BstUnit) (now : List CtxId) : Bst :=
  match u with
  | .engine c e => { b with ranEng := b.ranEng.set [] (4 * c.val + e.val) now }
  | .vector c => { b with ranVec := b.ranVec.set [] c.val now }
  | .keccak k => { b with ranStk := b.ranStk.set [] k.val [] }

/-- The context whose work a unit's core runs. -/
def runsOnUnit (s : State) (u : BstUnit) : List CtxId :=
  let of (c : CoreId) : List CtxId := if (s.core c.val).seqState == .running then [(s.core c.val).context] else []
  match u with
  | .engine c _ => of c
  | .vector c => of c
  | .keccak _ => []

/-- The end of a visit, with its outcome: a failure is recorded and taints (15 R438). -/
def endVisit (u : BstUnit) (v : BstUnit × Bool) (pass : Bool) (path : Nat) (s : State) : State :=
  let b := { s.bst with visiting := s.bst.visiting.erase v }
  let b := if v.2 then b else b.count u
  if pass then noteVisit u false { s with bst := b.passed u (runsOnUnit s u) }
  else
    let r : ErrRec := { unitRecord s u { cause := 0x0C, sev := sevUncontained, info0 := path } with
      taints := some (ranOnUnit s u) }
    noteVisit u false (logError r { s with bst := { b with fails := satTo 0xFFFE (b.fails + 1) } })

/-- BST_VISIT_END: the visit ends, and what it held goes on (15 R437, R438). -/
def execBstVisitEnd (u : BstUnit) (pass : Bool) (path : Nat) (s : State) : Answer :=
  match s.bst.visiting.find? fun v => v.1 == u with
  | none => .next s
  | some v => releaseHeld u (endVisit u v pass path s)

/-- BST_LATE: a visit has not started within 100 ms of falling due (15 R437). -/
def execBstLate (u : BstUnit) (s : State) : Answer :=
  match s.bst.due.find? fun d => d.1 == u && !d.2.2 && decide (d.2.1 + 100 * msEdges < s.clk) with
  | none => .next s
  | some d =>
    let due := s.bst.due.map fun e => if e == d then (e.1, e.2.1, true) else e
    .next (visitLate u { s with bst := { s.bst with due := due } })

/-- INT_STAT (15 R448). -/
def intStatWord (s : State) : Word :=
  flagAt 0 (hwOk s) ||| flagAt 1 s.bst.late ||| putAt 2 s.bst.engNext ||| putAt 12 s.bst.vecNext ||| putAt 20 s.bst.fails

/-- Some context has a core assigned (15 R448, 10 R262). -/
def someCoreAssigned (s : State) : Bool := allCtxs.any (contextBusy s)

/-- A write of INT_CTL: none while any context has a core assigned; a change of a dis bit is a breach (15 R439, R448). -/
def writeIntCtl (v : Word) (s : State) : Option State :=
  if someCoreAssigned s then none
  else
    let b := { s.bst with intCtl := v &&& 0x70F }
    let b := if bitsAt v 0 4 = bitsAt s.bst.intCtl 0 4 then b else b.breach
    some { s with bst := if bitAt v 3 then { b with due := [] } else b }

/-! ## The security core's comparison (15 R423) -/

/-- PROTECTION_COMPARE: an entry that differs from the locked copy is recorded and rewritten. -/
def execProtectionCompare (s : State) : Answer :=
  match s.sec.ownUpset with
  | some page =>
    if s.sec.locked && !(s.proc 0).down then
      .next (logError (atPlace 0x00 0 { cause := 0x1A, sev := sevUncontained, addr := 0x0C00000 + 4 * page })
        { s with sec := { s.sec with ownUpset := none } })
    else .next s
  | none => .next s

/-! ## Coalescing windows (15 R445) -/

/-- COALESCE_WINDOW_END: a window's millisecond is over. -/
def execCoalesceWindowEnd (index : Nat) (s : State) : Answer :=
  match s.err.windows[index]? with
  | some w =>
    if w.over s.clk then
      .next (closeWindow w { s with err := { s.err with windows := s.err.windows.filter fun x => x != w } })
    else .next s
  | none => .next s

/-! ## Hawk queues (15 R431 to R435) -/

/-- A record of a queue. -/
def hawkRecord (q sev kind : Nat) : ErrRec :=
  { atPlace 0x00 0 { cause := 0x0E, sev := sev, info0 := q, info1 := kind } with sub := (Config.hawkGroup q).val }

/-- Cycles after a reset before the queue accepts words again (15 R434). -/
abbrev hawkPause : Nat := 4

/-- A queue reset: both banks empty, pointers and lap bits zero (15 R434). -/
def Hawk.emptied (h : Hawk) (clk : Nat) : Hawk :=
  { Hawk.reset with depth := h.depth, dual := h.dual, delivered := h.delivered, openAt := clk + hawkPause }

/-- A queue replaced. -/
def State.setHawk (s : State) (q : Nat) (h : Hawk) : State := { s with hawks := s.hawks.set .reset q h }

/-- The queue that has been reset broadcasts its identity: requests outstanding through it end, reads with poison and writes as
writes of poison. Which of a context's data-mover operations have one is left open: by choice, each (15 R434; DESIGN CHOICE, log
entry 161). -/
def endRequests (ks : List CtxId) (s : State) : State :=
  let hurt (p : List MoverOp × State) (o : MoverOp) : List MoverOp × State :=
    let q := p.2.choose
    (p.1 ++ [{ o with hurt := o.hurt || q.1 }], q.2)
  (s.cores.rows.filter fun r => ks.contains r.2.context && !r.2.mover.isEmpty).foldl (fun s r =>
    let p := (s.core r.1).mover.foldl hurt ([], s)
    p.2.setCore r.1 { p.2.core r.1 with mover := p.1 }) s

/-- A queue is reset (15 R434). -/
def resetHawk (q : Nat) (h : Hawk) (s : State) : State := endRequests h.ctxs (s.setHawk q (h.emptied s.clk))

/-- The mode that INT_CTL selects for a group; a pass-through queue is native (15 R435). Which queue is of which group is an opaque
function (DESIGN CHOICE, log entry 169). -/
def hawkMode (s : State) (q : Nat) : Bool :=
  let g := (Config.hawkGroup q).val
  decide (g < 3) && bitAt s.bst.intCtl (8 + g)

/-- The parity bit of a word at a slot of a bank, over its data, the slot index and the lap bit (15 R431), even parity of them
(DESIGN CHOICE, log entry 146). -/
def hawkParity (data : Word) (slot : Nat) (lap : Bool) : Bool :=
  (((List.range 64).filter data.getLsbD).length + ((List.range 8).filter slot.testBit).length + lap.toNat) % 2 == 1

/-- The two copies of a pointer differ (15 R433). -/
def Hawk.pointerBad (h : Hawk) : Bool := h.dual && (h.writePtr != h.writeCopy || h.readPtr != h.readCopy)

/-- The consumer has read its bank to the end. -/
def Hawk.drainedOut (h : Hawk) : Bool := decide (h.drain.length ≤ h.readPtr)

/-- The consumer takes the word at its read pointer: one whose parity fails for the slot that is due is delivered with a poison
tag (15 R432). -/
def Hawk.take (h : Hawk) : Hawk × Bool :=
  match h.drain[h.readPtr]? with
  | none => (h, false)
  | some w =>
    let bad := hawkParity w.data h.drained h.drainLap != w.parity
    ({ h with delivered := h.delivered ++ [(w.data, bad)], drained := h.drained + 1,
              readPtr := h.readPtr + 1, readCopy := h.readCopy + 1 }, bad)

/-- One cycle of a consumer; in dual-pointer mode the copies are compared before a pointer is used (15 R432, R433). -/
def drainHawk (s : State) (q : Nat) : State :=
  let h := s.hawks.get .reset q
  if h.drainedOut then s
  else if h.pointerBad then logError (hawkRecord q sevPoisoned 2) (resetHawk q h s)
  else
    let p := h.take
    let s := s.setHawk q p.1
    if p.2 then logError (hawkRecord q sevPoisoned 0) s else s

/-- One cycle of every consumer. -/
def drainHawks (s : State) : State := s.hawks.rows.foldl (fun s r => drainHawk s r.1) s

/-- The banks change places (15 R431): the lap bit inverts at every second toggle, and a mode change takes effect. -/
def Hawk.toggled (h : Hawk) (dual : Bool) : Hawk :=
  { h with
    fill := []
    drain := h.fill
    ended := false
    recorded := h.fill.length
    drained := 0
    lap := if h.toggles % 2 = 1 then !h.lap else h.lap
    drainLap := h.lap
    toggles := h.toggles + 1
    dual := dual
    writePtr := 0
    writeCopy := 0
    readPtr := 0
    readCopy := 0 }

/-- A HAWK record for each context whose requests passed through the bank (15 R432). -/
def recordCount (q : Nat) (ks : List CtxId) (s : State) : State :=
  if ks.isEmpty then logError (hawkRecord q sevUncontained 1) s
  else ks.foldl (fun s k => logError { hawkRecord q sevUncontained 1 with names := some k } s) s

/-- HAWK_TOGGLE: the consumer's bank is empty, and the producer's bank is full or its transaction has ended; the counts are
compared, then the banks change places (15 R431 to R433). -/
def execHawkToggle (q : Nat) (s : State) : Answer :=
  let h := s.hawks.get .reset q
  if h.pointerBad then .next (logError (hawkRecord q sevPoisoned 2) (resetHawk q h s))
  else if !h.drainedOut || (h.fill.length < h.depth && !h.ended) then .next s
  else if h.drained ≠ h.recorded then .next (recordCount q h.ctxs (resetHawk q h s))
  else .next (s.setHawk q (h.toggled (hawkMode s q)))

/-! ## Patrol and sweep (08 R208, R214, R216) -/

/-- Lines of a stack. -/
abbrev stackLines : Nat := 0x60000000
/-- 24 h. -/
abbrev dayEdges : Nat := 86400000 * msEdges

/-- The physical address of line `i` of a stack (08 R210). -/
def lineOf (k i : Nat) : Nat :=
  let l := 64 * i
  let high := l / 512
  high * 8192 + Nat.xor k (high % 16) * 512 + l % 512

/-- The patrol moves on; at the end of a pass the rows that it corrected are those of the last pass. -/
def Stack.patrolled (x : Stack) (clk : Nat) : Stack :=
  let late := decide (x.passStart + dayEdges < clk)
  let x := { x with stat := x.stat ||| flagAt 56 late }
  if x.patrolLine + 1 < stackLines then { x with patrolLine := x.patrolLine + 1 }
  else { x with patrolLine := 0, passStart := clk, rowPass := x.rowPassNow, rowPassNow := [] }

/-- A read of a line would correct an error in it (08 R211, R212). -/
def correctsLine (s : State) (line : Nat) : Bool :=
  match s.latent.get noLatent (line / 8) with
  | .correctable sym =>
    ((s.stack (stackOf line)).failedGroups.filter fun f => f.1 == channelOf line).all fun f => f.2 == sym
  | _ => false

/-- PATROL_SCRUB_READ: the next line is read and corrected; a row corrected on two passes in a row is spared. -/
def execPatrolScrubRead (stack : Fin 16) (s : State) : Answer :=
  if !portsRun s then .next s
  else
    let k := stack.val
    let line := lineOf k (s.stack k).patrolLine
    let row := Config.dramRow line
    let fixed := correctsLine s line
    let s := s.touch line 64
    let s := if fixed && (s.stack k).rowPass.contains row then spareRow k row line s else s
    let x := s.stack k
    let x := if fixed && !x.rowPassNow.contains row then { x with rowPassNow := row :: x.rowPassNow } else x
    .next (s.setStack k (x.patrolled s.clk))

/-- STORE_SWEEP_READ: one word of a store is read, corrected or poisoned. -/
def execStoreSweepRead (addr : Nat) (s : State) : Answer :=
  match placeOf addr with
  | .clusterStore _ => .next (if powered s then s.touch (addr / 8 * 8) 8 else s)
  | .localStore _ => .next (if powered s then s.touch (addr / 8 * 8) 8 else s)
  | _ => .next s

end Sys2Proof.Machine
end

