-- ==== Sys2Proof/Machine/RegMap.lean ====
section
/-! DEFINITION. The map of control space: which register an offset holds, and who owns each page at boot (21 R547, R548,
R550, R554, R560). -/

namespace Sys2Proof.Machine

/-! ## Registers and windows, by the 8 bytes they fill (R560) -/

/-- What stands at an 8-byte offset. A window is taken by its words. -/
inductive Reg where
  | empty
  | rfl | ckg | plbNow | plbStat | plbSync | fth | prt
  | rstChip | rstStat | peerDn (i : Fin 64)
  | intCtl | intStat | errHead | errStat | errLost
  | thm | fwp | boot
  | pwl | dlkStat | orphStat | hifStat | evVec
  | fusId | fusApb (p : PortId) | fusCore (k : ClusterId) | fusRow (p : Nat) | fusVln (p : Nat)
  | errLog (w : Nat) | snapshot (w : Nat) | orphan (w : Nat)
  | vfMap (v : CtxId) | cqMap (m : CqId)
  | ethCtl (p : Fin 2) | ethStat (p : Fin 2) | ethFm | ethFma0 | ethFma1
  | qpDoorbell (q : Fin 1024) | qpWord (q : Fin 1024) (w : Nat)
  | flashCtl (i : Fin 4) | flashAddr (i : Fin 4) | flashOff (i : Fin 4) | flashSem (i : Fin 4)
  | frames (w : Nat) | invalidate | stkStat (k : Fin 16) | owners (w : Nat)
  | apbCtl (p : PortId) | apbStat (p : PortId) | apbPeer (p : PortId) | apbPeerV (p : PortId) | apbLane (p : PortId)
  | apbFec (p : PortId) | apbLlr (p : PortId)
  | topg | topm | fabCtl | fabStat | fabPort (p : PortId) | fabJob0 (j : Fin 64) | fabJob1 (j : Fin 64)
  | fabExc (i : Fin 256)
  | mailReq (m : Fin 19) (w : Nat) | mailRsp (m : Fin 19) (w : Nat) | mailDb (m : Fin 19) | mailStat (m : Fin 19)
  | kick (m : Fin 19)
  | gfeCtx (k : CtxId) | atuPtb (k : CtxId)
  | gfeBdt (k : CtxId) | semAllot (k : CtxId) | rstCtx (k : CtxId) | atuFlt (k : CtxId)
  | jnlCtl (k : CtxId) | jnlBase (k : CtxId) | jnlHead (k : CtxId) | jnlStat (k : CtxId)
  | sqDoorbell (q : SqId) | sqBase (q : SqId) | sqCtl (q : SqId) | sqStat (q : SqId) | sqAct (q : SqId)
  | cqBase (m : CqId) | cqCtl (m : CqId) | cqHead (m : CqId) | cqStat (m : CqId)
  | sem (n : SemId) | dlkCtl (k : ClusterId)
  | ntm (c : CoreId) (i : Fin 4) | ntmCtl (c : CoreId) | ntmStat (c : CoreId)
  | stbCtl (c : CoreId) | stpStat (c : CoreId) | seqStat (c : CoreId) | seqFlt (c : CoreId) (i : Fin 4)
  | stbCap (c : CoreId) (i : Nat) | lanes (c : CoreId) (i : Nat)
  | bank (c : CoreId) (shadow : Bool) (w : Nat) | acc (c : CoreId) (w : Nat)
  deriving DecidableEq, Repr

/-- The `i`-th of a row of registers. -/
def Reg.nth (rs : List Reg) (i : Nat) : Reg := rs.getD i .empty

/-- Pages 0x000 to 0x00B; `i` counts words in the page. -/
def dieReg (page i : Nat) : Reg :=
  match page with
  | 0x0 => .nth [.rfl] i
  | 0x1 => .nth [.ckg] i
  | 0x2 => .nth [.plbNow, .plbStat, .plbSync] i
  | 0x3 => .nth [.fth] i
  | 0x4 => .nth [.prt] i
  | 0x5 => if 32 ≤ i && i < 96 then .peerDn (Fin.ofNat 64 (i - 32)) else .nth [.rstChip, .rstStat] i
  | 0x6 => .nth [.intCtl, .intStat, .errHead, .errStat, .errLost] i
  | 0x7 => .nth [.thm, .fwp, .boot] i
  | 0x8 => .nth [.pwl, .dlkStat, .orphStat, .hifStat, .evVec] i
  | 0x9 =>
    if i = 0 then .fusId
    else if 32 ≤ i && i < 48 then .fusApb (Fin.ofNat 16 (i - 32))
    else if 64 ≤ i && i < 80 then .fusCore (Fin.ofNat 16 (i - 64))
    else .empty
  | 0xA => if i < 272 then .fusRow i else .empty
  | 0xB => if i < 272 then .fusVln i else .empty
  | _ => .empty

/-- Offsets 0x01_0000 to 0x07_2FFF. -/
def unitReg (off : Nat) : Reg :=
  let i := off / 8 % 512
  if off < 0x20000 then .errLog ((off - 0x10000) / 8)
  else if off < 0x30000 then .snapshot ((off - 0x20000) / 8)
  else if off < 0x31000 then .orphan i
  else if off < 0x32000 then (if i < 63 then .vfMap (Fin.ofNat 64 (i + 1)) else .empty)
  else if off < 0x33000 then (if i < 256 then .cqMap (Fin.ofNat 256 i) else .empty)
  else if off < 0x34000 then .empty
  else if off < 0x35000 then .nth [.ethCtl 0, .ethStat 0, .ethCtl 1, .ethStat 1] i
  else if off < 0x36000 then .nth [.ethFm, .ethFma0, .ethFma1] i
  else if off < 0x38000 then .qpDoorbell (Fin.ofNat 1024 ((off - 0x36000) / 8))
  else if off < 0x39000 then
    (if i < 16 then
      let slot := Fin.ofNat 4 (i / 4)
      .nth [.flashCtl slot, .flashAddr slot, .flashOff slot, .flashSem slot] (i % 4)
    else .empty)
  else if off < 0x40000 then .empty
  else if off < 0x50000 then .qpWord (Fin.ofNat 1024 ((off - 0x40000) / 64)) (i % 8)
  else if off < 0x70000 then .empty
  else if off < 0x71000 then (if i < 192 then .frames i else .empty)
  else if off < 0x72000 then .nth [.invalidate] i
  else (if i < 16 then .stkStat (Fin.ofNat 16 i) else .empty)

/-- A queue register at offset `o` of a context page or of the global queue area (R547). -/
def queueReg (o : Nat) : Reg :=
  if o < 0x2000 then .empty
  else if o < 0x4000 then .sqDoorbell (Fin.ofNat 1024 ((o - 0x2000) / 8))
  else if o < 0xC000 then
    let q := Fin.ofNat 1024 ((o - 0x4000) / 32)
    .nth [.sqBase q, .sqCtl q, .sqStat q, .sqAct q] (o / 8 % 4)
  else if o < 0xE000 then
    let m := Fin.ofNat 256 ((o - 0xC000) / 32)
    .nth [.cqBase m, .cqCtl m, .cqHead m, .cqStat m] (o / 8 % 4)
  else .empty

/-- A register at offset `o` of the page of context `k`. -/
def contextReg (k : CtxId) (o : Nat) : Reg :=
  if o < 0x1000 then .nth [.gfeCtx k, .atuPtb k] (o / 8)
  else if o < 0x2000 then
    .nth [.gfeBdt k, .semAllot k, .rstCtx k, .atuFlt k, .jnlCtl k, .jnlBase k, .jnlHead k, .jnlStat k] (o / 8 - 512)
  else queueReg o

/-- A register of a core block, at offset `o`. -/
def coreReg (c : CoreId) (o : Nat) : Reg :=
  let i := o / 8
  if o < 0x1000 then
    .nth [.ntm c 0, .ntm c 1, .ntm c 2, .ntm c 3, .ntmCtl c, .ntmStat c, .empty, .empty, .stbCtl c, .stpStat c, .empty,
      .empty, .seqStat c, .seqFlt c 0, .seqFlt c 1, .seqFlt c 2, .seqFlt c 3] i
  else if o < 0x2000 then (if i - 512 < 64 then .stbCap c (i - 512) else .empty)
  else if o < 0x3000 then (if i - 1024 < 256 then .lanes c (i - 1024) else .empty)
  else if o < 0x38000 then .empty
  else if o < 0x3C000 then (if o - 0x38000 < 8768 then .bank c false ((o - 0x38000) / 8) else .empty)
  else if o < 0x40000 then (if o - 0x3C000 < 8768 then .bank c true ((o - 0x3C000) / 8) else .empty)
  else .acc c ((o - 0x40000) / 8)

/-- A register of an Apbor port. -/
def apbReg (p : PortId) (i : Nat) : Reg :=
  .nth [.apbCtl p, .apbStat p, .apbPeer p, .apbPeerV p, .apbLane p, .apbFec p, .apbLlr p] i

/-- A register of the fabric page. -/
def fabReg (i : Nat) : Reg :=
  if i < 4 then .nth [.topg, .topm, .fabCtl, .fabStat] i
  else if 32 ≤ i && i < 48 then .fabPort (Fin.ofNat 16 (i - 32))
  else if 64 ≤ i && i < 192 then
    (if i % 2 = 0 then .fabJob0 (Fin.ofNat 64 ((i - 64) / 2)) else .fabJob1 (Fin.ofNat 64 ((i - 64) / 2)))
  else if 256 ≤ i then .fabExc (Fin.ofNat 256 (i - 256))
  else .empty

/-- A word of a mailbox page. -/
def mailReg (m : Fin 19) (i : Nat) : Reg :=
  if i < 8 then .mailReq m i
  else if i < 16 then .mailRsp m (i - 8)
  else .nth [.mailDb m, .mailStat m] (i - 16)

/-- What stands at an offset of control space. -/
def regAt (off : Nat) : Reg :=
  let i := off / 8 % 512
  if off < 0xC000 then dieReg (off / 4096) i
  else if off < 0x10000 then .empty
  else if off < 0x73000 then unitReg off
  else if off < 0x80000 then .empty
  else if off < 0x8E000 then queueReg (off - 0x80000)
  else if off < 0xC0000 then .empty
  else if off < 0xE0000 then .sem (.die (Fin.ofNat 16384 ((off - 0xC0000) / 8)))
  else if off < 0x100000 then .empty
  else if off < 0x110000 then apbReg (Fin.ofNat 16 (off / 4096)) i
  else if off < 0x111000 then fabReg i
  else if off < 0x200000 then .empty
  else if off < 0x213000 then mailReg (Fin.ofNat 19 (off / 4096 - 0x200)) i
  else if off < 0x220000 then .empty
  else if off < 0x233000 then (if i = 0 then .kick (Fin.ofNat 19 (off / 4096 - 0x220)) else .empty)
  else if off < 0x400000 then .empty
  else if off < 0x800000 then contextReg (Fin.ofNat 64 ((off - 0x400000) / 0x10000)) (off % 0x10000)
  else if off < 0xC00000 then .empty
  else if off < 0xC40000 then .owners ((off - 0xC00000) / 8)
  else if off < 0x1000000 then .empty
  else if off < 0x1100000 then
    let k := Fin.ofNat 16 ((off - 0x1000000) / 0x10000)
    let o := off % 0x10000
    if o = 0 then .dlkCtl k
    else if 0x8000 ≤ o then .sem (.cluster k (Fin.ofNat 4096 ((o - 0x8000) / 8)))
    else .empty
  else if off < 0x8000000 then .empty
  else if off < 0x10000000 then coreReg (Fin.ofNat 256 ((off - 0x8000000) / 0x80000)) (off % 0x80000)
  else .empty

/-! ## Initiators (R550) -/

/-- The code of an initiator. -/
def iniCode : Initiator → Nat
  | .power => 0x01
  | .security => 0x02
  | .scheduler => 0x03
  | .clusterCtl k => 0x10 + k.val
  | .host => 0x20
  | .hostTee _ => 0x21
  | .fabricManager => 0x30
  | .debug => 0x40

/-- Its qualifier. -/
def iniQual : Initiator → Nat
  | .hostTee vf => vf.val
  | _ => 0

/-- Its class in the firewall matrix (R551). -/
def iniClass : Initiator → Nat
  | .power => 0
  | .security => 1
  | .scheduler => 2
  | .clusterCtl _ => 3
  | .host => 4
  | .hostTee _ => 5
  | .fabricManager => 6
  | .debug => 7

/-- The initiator of a code and qualifier; none for a code that is never used. -/
def initiatorOf (code qual : Nat) : Option Initiator :=
  match code with
  | 0x01 => some .power
  | 0x02 => some .security
  | 0x03 => some .scheduler
  | 0x20 => some .host
  | 0x21 => some (.hostTee (Fin.ofNat 64 qual))
  | 0x30 => some .fabricManager
  | 0x40 => some .debug
  | n => if 0x10 ≤ n && n < 0x20 then some (.clusterCtl (Fin.ofNat 16 (n - 0x10))) else none

/-- The initiator that a firmware processor is (17). -/
def processorInitiator (m : Fin 19) : Initiator :=
  match m.val with
  | 0 => .security
  | 1 => .power
  | 2 => .scheduler
  | n => .clusterCtl (Fin.ofNat 16 (n - 3))

/-! ## Boot owners (R548, R560) -/

/-- The code of no owner. -/
abbrev ownerNone : Nat := 0x00
/-- The code of a derived owner. -/
abbrev ownerDerived : Nat := 0xFF

/-- Runs of pages below the context pages, with the code of their boot owner. -/
def diePages : List (Nat × Nat × Nat) :=
  [(0x000, 0x000, 0x20), (0x001, 0x001, 0x01), (0x002, 0x002, 0x20), (0x003, 0x003, 0x01), (0x004, 0x004, 0x02),
   (0x005, 0x006, 0x20), (0x007, 0x007, ownerNone), (0x008, 0x008, 0x20), (0x009, 0x00B, ownerNone),
   (0x010, 0x032, 0x20), (0x034, 0x034, 0x20), (0x035, 0x035, 0x02), (0x036, 0x037, ownerDerived),
   (0x038, 0x038, 0x20), (0x040, 0x04F, ownerDerived), (0x070, 0x070, 0x02), (0x071, 0x071, ownerDerived),
   (0x072, 0x072, ownerNone), (0x080, 0x08D, ownerDerived), (0x0C0, 0x0DF, 0x20), (0x100, 0x110, 0x30),
   (0x200, 0x212, 0x20), (0xC00, 0xC3F, 0x02)]

/-- The boot owner's code of a page; none where the index lists no such page. -/
def bootOwner (page : Nat) : Option Nat :=
  if 0x220 ≤ page && page < 0x233 then some (iniCode (processorInitiator (Fin.ofNat 19 (page - 0x220))))
  else if 0x400 ≤ page && page < 0x800 then (if page % 16 < 14 then some ownerDerived else none)
  else if 0x1000 ≤ page && page < 0x1100 then (if page % 16 = 0 || 8 ≤ page % 16 then some 0x20 else none)
  else if 0x8000 ≤ page && page < 0x10000 then
    let p := page % 128
    if p < 3 || (0x38 ≤ p && p < 0x3B) || (0x3C ≤ p && p < 0x3F) || 0x40 ≤ p then some ownerDerived else none
  else (diePages.find? fun r => r.1 ≤ page && page ≤ r.2.1).map fun r => r.2.2

/-- The matrix of a page after phase 0x7 (R554): classes 0 to 6 read, the debug port reads where dbg_en is set, and the boot
owner's class may own, or the three classes that a derivation can give. -/
def bootMatrix (dbg : Bool) (owner : Nat) : Nat :=
  let reads := 0x1555 + (if dbg then 0x4000 else 0)
  if owner = ownerDerived then reads + 2 ^ 3 + 2 ^ 9 + 2 ^ 11
  else match initiatorOf owner 0 with
    | some i => reads + 2 ^ (1 + 2 * iniClass i)
    | none => reads

end Sys2Proof.Machine
end

