-- ==== Sys2Proof/Machine/Roce.lean ====
section
/-! DEFINITION. RoCE v2 queue pairs: their contexts, their rings and the work requests (13 R382, R383, R386, 16 R462,
R463). -/

namespace Sys2Proof.Machine

/-! ## Queue-pair contexts (R462) -/

/-- A queue pair. -/
def State.qp (s : State) (q : Nat) : Qp := s.qps.get .reset q
/-- The state with a queue pair replaced. -/
def State.setQp (s : State) (q : Nat) (x : Qp) : State := { s with qps := s.qps.set .reset q x }

/-- `n` bytes of a context from byte `lo`, as a number. -/
def Qp.field (x : Qp) (lo n : Nat) : Nat := leNat ((List.range n).map fun i => x.bytes.get 0 (lo + i))

/-- The queue pair is valid. -/
def Qp.valid (x : Qp) : Bool := (x.field 0 1).testBit 0
/-- err, which the device sets. -/
def Qp.err (x : Qp) : Bool := (x.field 0 1).testBit 2
/-- Its context. -/
def Qp.ctx (x : Qp) : CtxId := Fin.ofNat 64 (x.field 1 1)
/-- Its Ethernet port. -/
def Qp.port (x : Qp) : Nat := x.field 2 1 % 2
/-- It uses the upper sub-port. -/
def Qp.upper (x : Qp) : Bool := (x.field 2 1).testBit 1
/-- Its MTU in bytes. -/
def Qp.mtu (x : Qp) : Nat := 512 * 2 ^ x.field 3 1
/-- Entries of its ring. -/
def Qp.size (x : Qp) : Nat := 2 ^ x.field 48 1
/-- Context address of entry `i`. -/
def Qp.entryAt (x : Qp) (i : Nat) : Nat := x.field 40 8 + 64 * i

/-- The bits of each 8-byte word that the format defines. -/
def qpWordMask (w : Nat) : Word :=
  match w with
  | 0 => 0x00FFFFFF_FF03FF03
  | 1 => 0x00FFFFFF
  | 2 => BitVec.allOnes 64
  | 3 => BitVec.allOnes 64
  | 4 => maskAt 0 48
  | 5 => BitVec.allOnes 64
  | 6 => 0xFF
  | _ => BitVec.allOnes 64

/-- A word of a context as it reads. -/
def Qp.word (x : Qp) (w : Nat) : Word := BitVec.ofNat 64 (x.field (8 * w) 8)

/-- A value that a word rejects: mtu, the ring's base and its size. -/
def qpRejects (w : Nat) (v : Word) : Bool :=
  match w with
  | 0 => !([1, 2, 3].contains (bitsAt v 24 8)) || decide (bitsAt v 8 8 > 63)
  | 5 => bitsAt v 0 6 != 0
  | 6 => decide (bitsAt v 0 8 < 4) || decide (bitsAt v 0 8 > 16)
  | _ => false

/-- A context's word replaced. -/
def Qp.setWord (x : Qp) (w : Nat) (v : Word) : Qp :=
  { x with bytes := x.bytes.setAll 0 (List.range' (8 * w) 8) fun i => BitVec.ofNat 8 (v.toNat / 256 ^ (i % 8)) }

/-- A write of word `w`, whose low half it may leave as it is (`low` false): none where it is refused. A valid context takes
only a write that clears v; a context that becomes valid starts with an empty ring and no error. -/
def writeQpWord (q w : Nat) (low : Bool) (v : Word) (s : State) : Option State :=
  let x := s.qp q
  let old := x.word w
  let v := v &&& qpWordMask w
  let clears := w == 0 && v == (old &&& qpWordMask 0) &&& ~~~(1 : Word)
  if x.valid then
    if clears then some (s.setQp q { x.setWord 0 (old &&& ~~~(1 : Word)) with posted := [], ended := [], flight := none }) else none
  else if low && qpRejects w v then none
  else if w = 0 && bitAt v 0 then
    some (s.setQp q { x.setWord 0 v with
      head := 0, tail := 0, posted := [], ended := [], flight := none, psn := BitVec.ofNat 24 (x.field 8 3)
      rate := Qp.reset.rate, sendAt := s.clk, cnpClk := none })
  else some (s.setQp q (x.setWord w (if w = 0 then v ||| (old &&& flagAt 2 true) else v)))

/-- A write of ETH_QPDB: the new tail; none at or above the ring's size. -/
def writeQpDoorbell (q : Nat) (v : Word) (s : State) : Option State :=
  let x := s.qp q
  if bitsAt v 0 16 ≥ x.size then none else some (s.setQp q { x with tail := bitsAt v 0 16 })

/-! ## The ring (R462, R463) -/

/-- A work request, and its translation. -/
structure WorkReq where
  op : Nat
  sig : Bool
  laddr : Nat
  len : Nat
  rest : Bytes
  bad : Bool
  deriving DecidableEq, Repr

/-- The physical page of an entry; the device reads it and writes its status. -/
def entryMap (s : State) (x : Qp) (i : Nat) : Option (Table Nat) :=
  match mapExtent s x.ctx (x.entryAt i) 64 { r := true, w := true } true .empty with
  | .ok t => some t
  | .error _ => none

/-- A work request of the ring. -/
def workReq (s : State) (x : Qp) (i : Nat) : Option WorkReq :=
  (entryMap s x i).map fun t =>
    let b := s.bytesVia t (x.entryAt i) 64
    { op := (byteAt b 0).toNat, sig := (byteAt b 1).getLsbD 0, laddr := leAt b 8 8, len := leAt b 16 8,
      rest := (b.drop 16).take 20, bad := s.poisonedVia t (x.entryAt i) 64 }

/-- Codes of requests. -/
abbrev opSend : Nat := 0
/-- Code. -/
abbrev opRdmaWrite : Nat := 1
/-- Code. -/
abbrev opRdmaRead : Nat := 2
/-- Code. -/
abbrev opRecv : Nat := 3

/-- Statuses of work requests. -/
abbrev wrSuccess : BitVec 8 := 1
/-- Status. -/
abbrev wrLocal : BitVec 8 := 4
/-- Status. -/
abbrev wrFlushed : BitVec 8 := 5

/-- The length of no request. -/
abbrev lenReserved : Nat := 0xFFFFFFFFFFFFFFFF

/-- The queue pair's port has its link, and its class is not paused (13 R382). -/
def qpCanSend (s : State) (x : Qp) : Bool :=
  let e := s.ethPort x.port
  (if x.upper then e.up1 else e.up0) && !e.paused.getLsbD tagStore.prio

/-! ## Congestion control (13 R383; DESIGN CHOICE, log entry 96) -/

/-- The rate of a port's link in Mbit/s (13 R381). -/
def lineRate (s : State) (x : Qp) : Nat := if (s.ethPort x.port).brk then 400000 else 800000

/-- Edges that a message of `n` bytes takes at a rate in Mbit/s. -/
def sendEdges (rate n : Nat) : Nat := (8 * n * usEdges + rate - 1) / rate

/-- The reaction point recovers towards the link's rate, by as much as DCQCN says: free. -/
def recoverRate (q : Nat) (s : State) : State :=
  let x := s.qp q
  let line := lineRate s x
  if line ≤ x.rate then s
  else
    let d := s.draw
    d.2.setQp q { x with rate := x.rate + d.1.toNat % (line - x.rate + 1) }

/-- The notification point: a packet that came marked is answered with a notification, unless one went out shortly before. -/
def notifyMark (q : Nat) (marked : Bool) (s : State) : State :=
  let x := s.qp q
  let recent := match x.cnpClk with
    | some t => decide (s.clk < t + Config.cnpGap)
    | none => false
  if !marked || recent then s
  else sendFrame x.port tagNotify (.congestion q) (s.setQp q { x with cnpClk := some s.clk })

/-- Packets that `n` bytes take. -/
def Qp.packets (x : Qp) (n : Nat) : Nat := (n + x.mtu - 1) / x.mtu

/-- The packets of a message, no longer than the MTU; the first holds the remote address and key where the request has them. -/
def Qp.cut (x : Qp) (op : Nat) (remote data : Bytes) : List RocePkt :=
  let n := x.packets data.length
  (List.range n).map fun i =>
    { op := op, psn := x.psn + BitVec.ofNat 24 i, first := i == 0, last := i + 1 == n,
      data := (if i = 0 then remote else []) ++ (data.drop (x.mtu * i)).take x.mtu }

/-- A message leaves packet by packet; the rate says from when the next one may. -/
def sendMessage (q op : Nat) (remote data : Bytes) (s : State) : State :=
  let s := recoverRate q s
  let x := s.qp q
  let rate := min x.rate (lineRate s x)
  let ks := x.cut op remote data
  ks.foldl (fun (s : State) (k : RocePkt) => sendFrame x.port tagStore (.roce q k) s)
    (s.setQp q { x with psn := x.psn + BitVec.ofNat 24 ks.length, sendAt := s.clk + sendEdges rate data.length })

/-- The entry at the head, while the queue pair works through its ring: its code is `op`. -/
def headReq (s : State) (q op : Nat) : Option WorkReq :=
  let x := s.qp q
  if !x.valid || x.err || x.head = x.tail || x.flight.isSome || s.ctxFenced x.ctx.val then none
  else match workReq s x x.head with
    | some r => if r.op = op && !r.bad then some r else none
    | none => none

/-- The next place of the ring. -/
def Qp.next (x : Qp) (i : Nat) : Nat := (i + 1) % x.size

/-- The entry at the head has ended with a status, which its completion will write. -/
def endHead (q : Nat) (status : BitVec 8) (s : State) : State :=
  let x := s.qp q
  s.setQp q { x with head := x.next x.head, ended := x.ended ++ [(x.head, status)] }

/-- Local data of a request, translated. -/
def localPages (s : State) (k : CtxId) (r : WorkReq) (n : Nat) (need : Need) : Option (Table Nat) :=
  match mapExtent s k r.laddr n need true .empty with
  | .ok t => some t
  | .error _ => none

/-- A SEND or RDMA WRITE: local data leave, or the request ends here (R462, 13 R383; DEDUCED, log entry 40). -/
def sendRequest (q : Fin 1024) (op : Nat) (s : State) : Answer :=
  match headReq s q.val op with
  | none => .next s
  | some r =>
    let x := s.qp q.val
    if r.len = lenReserved then .next (endHead q.val wrLocal s)
    else if r.len = 0 then .next (endHead q.val wrSuccess s)
    else if !qpCanSend s x || decide (s.clk < x.sendAt) then .next s
    else match localPages s x.ctx r r.len { r := true } with
      | none => .next (endHead q.val wrLocal s)
      | some t =>
        let s := s.touchVia t r.laddr r.len
        if s.poisonedVia t r.laddr r.len then .next (endHead q.val wrLocal s)
        else
          .next (sendMessage q.val op (if op = opRdmaWrite then r.rest else []) (s.bytesVia t r.laddr r.len)
            (s.setQp q.val { x with head := x.next x.head, flight := some x.head }))

/-- SEND. -/
def execRoceSend (qp : Fin 1024) (s : State) : Answer := sendRequest qp opSend s

/-- RDMA_WRITE. -/
def execRdmaWrite (qp : Fin 1024) (s : State) : Answer := sendRequest qp opRdmaWrite s

/-- Received bytes are written to context DRAM and recorded (13 R386, 16 R463, R466). -/
def deliver (q : Nat) (k : CtxId) (a : Nat) (t : Table Nat) (data : Bytes) (s : State) : State :=
  journalBytes k { kind := 0x07, src := q, addr := a } data (s.writeVia t a data fun _ => false)

/-- RDMA_READ: the request goes out and its data come back, in as many packets as the MTU asks. -/
def execRdmaRead (qp : Fin 1024) (d : MarkedData) (s : State) : Answer :=
  match headReq s qp.val opRdmaRead with
  | none => .next s
  | some r =>
    let x := s.qp qp.val
    if r.len = lenReserved then .next (endHead qp.val wrLocal s)
    else if r.len = 0 then .next (endHead qp.val wrSuccess s)
    else match localPages s x.ctx r r.len { w := true } with
      | none => .next (endHead qp.val wrLocal s)
      | some t =>
        if d.data.length ≠ r.len || !qpCanSend s x then .next s
        else
          let s := s.setQp qp.val { x with psn := x.psn + BitVec.ofNat 24 (x.packets r.len) }
          let s := sendFrame x.port tagStore (.roce qp.val ⟨opRdmaRead, x.psn, true, true, r.rest⟩) s
          .next (endHead qp.val wrSuccess (deliver qp.val x.ctx r.laddr t d.data (notifyMark qp.val d.marked s)))

/-- RECV: a buffer is posted. -/
def execRecv (qp : Fin 1024) (s : State) : Answer :=
  match headReq s qp.val opRecv with
  | none => .next s
  | some r =>
    let x := s.qp qp.val
    if r.len = lenReserved then .next (endHead qp.val wrLocal s)
    else if r.len = 0 then .next (endHead qp.val wrSuccess s)
    else .next (s.setQp qp.val { x with head := x.next x.head, posted := x.posted ++ [x.head] })

/-- A queue pair takes a frame of the class that its DSCP says, over its own port's link (13 R382; DEDUCED, log entry 171). -/
def qpTakes (s : State) (x : Qp) (tag : FrameTag) (dscp : BitVec 6) : Bool :=
  x.valid && dscp.toNat == tag.dscp && (if x.upper then (s.ethPort x.port).up1 else (s.ethPort x.port).up0)

/-- INBOUND_SEND: the oldest posted RECV is filled; a mark is answered (13 R383). -/
def execInboundSend (a : QpArrival) (d : MarkedData) (s : State) : Answer :=
  let x := s.qp a.qp.val
  match x.posted with
  | [] => .next s
  | i :: rest =>
    if !qpTakes s x tagStore a.dscp || x.err || s.ctxFenced x.ctx.val then .next s
    else
      let s := notifyMark a.qp.val d.marked s
      let finish (st : BitVec 8) (s : State) : State :=
        s.setQp a.qp.val { s.qp a.qp.val with posted := rest, ended := (s.qp a.qp.val).ended ++ [(i, st)] }
      match workReq s x i with
      | none => .next (finish wrLocal s)
      | some r =>
        if r.bad || decide (r.len < d.data.length) then .next (finish wrLocal s)
        else match localPages s x.ctx r d.data.length { w := true } with
          | none => .next (finish wrLocal s)
          | some t => .next (finish wrSuccess (deliver a.qp.val x.ctx r.laddr t d.data s))

/-- The syndrome of a remote-access-error NAK. -/
abbrev nakRemoteAccess : Nat := 0x62

/-- INBOUND_RDMA_REQUEST: a remote peer never addresses device memory (13 R383). -/
def execInboundRdmaRequest (a : QpArrival) (_isWrite : Bool) (s : State) : Answer :=
  let x := s.qp a.qp.val
  .next (if qpTakes s x tagStore a.dscp then sendFrame x.port tagStore (.roceReply a.qp.val nakRemoteAccess) s else s)

/-! ## Completion (R463) -/

/-- The status of an entry is written, its semaphore is signalled if it asks, and any status but success sets err. -/
def completeEntry (q i : Nat) (status : BitVec 8) (s : State) : State :=
  let x := s.qp q
  let s := if status = wrSuccess then s else s.setQp q (x.setWord 0 (x.word 0 ||| flagAt 2 true))
  match entryMap s x i, workReq s x i with
  | some t, some r =>
    let s := s.writeVia t (x.entryAt i + 2) [status] fun _ => false
    if r.sig then
      match outerSem s x.ctx (x.word 7) with
      | .ok n => signalOuter x.ctx n s
      | .error _ => s
    else s
  | _, _ => s

/-- The entry whose completion is next, what its status is (none: what the far end answers), and the queue pair without
it. -/
def nextEnded (s : State) (x : Qp) : Option (Nat × Option (BitVec 8) × Qp) :=
  let status (st : BitVec 8) : BitVec 8 := if x.err then wrFlushed else st
  match x.ended, x.flight, x.posted with
  | (i, st) :: rest, _, _ => some (i, some (status st), { x with ended := rest })
  | [], some i, _ => some (i, if x.err then some wrFlushed else none, { x with flight := none })
  | [], none, posted =>
    match posted with
    | i :: rest =>
      if x.err then some (i, some wrFlushed, { x with posted := rest }) else headEnded s x
    | [] => headEnded s x
where
  /-- The entry at the head ends without being carried out: it is flushed, or it cannot be read, or its code is not one, or
  the far end refuses a read. -/
  headEnded (s : State) (x : Qp) : Option (Nat × Option (BitVec 8) × Qp) :=
    if x.head = x.tail then none
    else
      let y := { x with head := x.next x.head }
      if x.err then some (x.head, some wrFlushed, y)
      else match workReq s x x.head with
        | none => some (x.head, some wrLocal, y)
        | some r =>
          if r.bad || decide (r.op > opRecv) then some (x.head, some wrLocal, y)
          else if r.op = opRdmaRead then some (x.head, none, y)
          else none

/-- WORK_REQUEST_COMPLETE: `outcome` is what the far end has answered to a request that was carried out: 0x01 success, 0x02
remote error or 0x03 retries exhausted; a read succeeds only by its data. -/
def execWorkRequestComplete (qp : Fin 1024) (outcome : BitVec 8) (s : State) : Answer :=
  let x := s.qp qp.val
  if !x.valid || s.ctxFenced x.ctx.val then .next s
  else match nextEnded s x with
    | none => .next s
    | some (i, some st, y) => .next (completeEntry qp.val i st (s.setQp qp.val y))
    | some (i, none, y) =>
      let far := (outcome == 1 && x.flight.isSome) || outcome == 2 || outcome == 3
      .next (if far then completeEntry qp.val i outcome (s.setQp qp.val y) else s)

/-- CONGESTION_NOTIFICATION_PACKET: the reaction point lowers the rate; DCQCN, which the manual names and does not restate,
gives by how much: free (13 R383). -/
def execCongestionNotificationPacket (a : QpArrival) (s : State) : Answer :=
  let x := s.qp a.qp.val
  if !qpTakes s x tagNotify a.dscp then .next s
  else
    let d := s.draw
    .next (d.2.setQp a.qp.val { x with rate := max 1 (d.1.toNat % x.rate) })

end Sys2Proof.Machine
end

