-- ==== Sys2Proof/Machine/Messages.lean ====
section
/-! DEFINITION. Messages between chips: the packets of an operation at its source and at its destination, the rate
limiters, the end-to-end timers (12 R342 to R348, 09 R255, R256, 14 R400, 15 R428, 19 R516). -/

namespace Sys2Proof.Machine

/-- A packet of type `t` that this chip delivers; one whose end-to-end CRC fails has no effect (12 R332, R337). -/
def delivered (s : State) (t : Fin 16) (k : Pkt) : Bool := k.ptype == t && (firstAxis s k.dstChip).isNone

/-- A packet with a wrong CRC is discarded at the port by which it came; any other does what `f` says (12 R332, R340; DEDUCED, log
entry 31). -/
def checkedPkt (t : Fin 16) (inPort : PortId) (k : Pkt) (s : State) (f : State → State) : Answer :=
  if !delivered s t k then .next s
  else if k.crc != k.crcOf then .next (discard (some inPort) k s)
  else .next (f s)

/-- A reply to a packet (12 R329, R330): the request's job, gen and tag. -/
def replyPkt (t : Fin 16) (k : Pkt) : Pkt :=
  { Pkt.blank with ptype := t, dstChip := k.srcChip, job := k.job, gen := k.gen, msgId := k.msgId }

/-- A record of an end-to-end event (15 R447). -/
def e2eRecord (ctx : Option CtxId) (sev addr : Nat) (chip msg : BitVec 16) (s : State) : State :=
  logError { atPlace 0x09 0 { cause := 0x11, sev := sev, addr := addr, info0 := chip.toNat, info1 := msg.toNat } with
    names := ctx } s

/-! ## Rate limiters (12 R348) -/

/-- Entries of the limiter table. -/
abbrev limiterSlots : Nat := 4096
/-- The highest level. -/
abbrev limiterTop : Nat := 64

/-- The least recently used entry leaves. -/
def evictLimiter (ls : List Limiter) : List Limiter :=
  match ls.foldl (fun (best : Option Limiter) l => match best with
    | some b => if l.used < b.used then some l else some b
    | none => some l) none with
  | some b => ls.erase b
  | none => ls

/-- The limiter of a chip, entered at the top level where it is missing, then changed by `f`. -/
def changeLimiter (chip : BitVec 16) (f : Limiter → Limiter) (s : State) : State :=
  let b := s.fab
  let ls := if b.limiters.any fun l => l.chip == chip then b.limiters
    else (if b.limiters.length ≥ limiterSlots then evictLimiter b.limiters else b.limiters)
      ++ [⟨chip, limiterTop, s.clk, b.uses⟩]
  { s with fab := { b with
      limiters := ls.map fun l => if l.chip = chip then { f l with used := b.uses } else l
      uses := b.uses + 1 } }

/-- An echo lowers the level (12 R348). -/
def echoed (chip : BitVec 16) (s : State) : State :=
  changeLimiter chip (fun l => { l with q := max 1 (l.q - (l.q + 3) / 4), lastClk := s.clk }) s

/-- ECHO. -/
def execEcho (a : Arrival) (s : State) : Answer := checkedPkt ptEcho a.port a.pkt s (echoed a.pkt.srcChip)

/-- LIMITER_STEP: inc_us without an echo raises the level by one (12 R348). -/
def execLimiterStep (chip : BitVec 16) (s : State) : Answer :=
  let step := bitsAt s.fab.ctl 48 8 * usEdges
  let raise (l : Limiter) : Limiter :=
    if l.chip = chip && decide (l.q < limiterTop) && decide (l.lastClk + step ≤ s.clk) then
      { l with q := l.q + 1, lastClk := s.clk } else l
  .next { s with fab := { s.fab with limiters := s.fab.limiters.map raise } }

/-! ## At the source (12 R342 to R346, 14 R400) -/

/-- The operation that a reply answers (14 R400): one that its data mover has discarded is outstanding no more (06 R168). -/
def replyOp (s : State) (k : Pkt) : Option RemoteOp :=
  match s.fab.active.entryOfJob k.job with
  | none => none
  | some j =>
    let c := s.fab.active.jobCtx j
    if (s.ctx c.val).gen != k.gen then none
    else s.fab.ops.find? fun o => o.ctx == c && o.dst == k.srcChip && o.msgId == k.msgId && o.phase != .held
      && !o.discarded s

/-- Where RST_CTX.late stops. -/
abbrev lateTop : Nat := 0xFFFE

/-- A reply dropped: late of its context counts it (14 R400, R414). -/
def lateReply (k : Pkt) (s : State) : State :=
  match s.fab.active.entryOfJob k.job with
  | none => s
  | some j =>
    let c := s.fab.active.jobCtx j
    s.setCtx c.val { s.ctx c.val with late := satTo lateTop ((s.ctx c.val).late + 1) }

/-- A reply does what `f` says of its operation, or is dropped. -/
def replied (t : Fin 16) (inPort : PortId) (k : Pkt) (s : State) (f : RemoteOp → State → State) : Answer :=
  checkedPkt t inPort k s fun s => match replyOp s k with
    | some o => f o s
    | none => lateReply k s

/-- The executor that a remote operation's fault names. -/
def RemoteOp.unit (o : RemoteOp) : Nat := match o.kind with | .semAdd _ _ => unitSemPort | _ => unitMover

/-- An operation fails: its core takes the fault, and an operation that waited for its place is sent (06 R161). -/
def failOp (cause detail : Nat) (o : RemoteOp) (s : State) : State :=
  sendHeld (takeFault o.core (peerTrap cause detail o.unit o.dst) o.pc o.insn (dropOp o.msgId s))

/-- The DATA packet of a run: its source bytes, read now; a run with a poisoned word goes out with its CRC inverted (12
R331, R343, 15 R428). -/
def dataPacket (s : State) (o : RemoteOp) (handle : BitVec 16) (i : Nat) : Option Pkt :=
  match (o.src.messageRuns.zip o.dstDesc.messageRuns)[i]? with
  | none => none
  | some (a, d) =>
    let n := o.dstDesc.messageRuns.length
    let k : Pkt := { Pkt.blank with
      ptype := ptData, dstChip := o.dst, srcChip := ownChip s, last := decide (i + 1 = n),
      dir := dirTo s (s.fab.active.entryOfJob o.job) o.dst, job := o.job, gen := o.gen, msgId := o.msgId, handle := handle,
      pktIndex := BitVec.ofNat 24 i, pktTotal := BitVec.ofNat 24 n, dstAddr := BitVec.ofNat 48 d.1,
      payload := s.bytesVia o.pages a.1 a.2 }
    some { k with crc := if s.poisonedVia o.pages a.1 a.2 then ~~~k.crcOf else k.crcOf }

/-- One DATA packet is read and sent. -/
def sendData (o : RemoteOp) (handle : BitVec 16) (s : State) (i : Nat) : State :=
  match o.src.messageRuns[i]? with
  | none => s
  | some a =>
    let s := s.touchVia o.pages a.1 a.2
    let s := if s.poisonedVia o.pages a.1 a.2 then s.setCore o.core.val ((s.core o.core.val).sawPoison true) else s
    match dataPacket s o handle i with
    | some k => forward none k s
    | none => s

/-- GRANT: the DATA packets leave (12 R343). -/
def execGrant (a : Arrival) (s : State) : Answer :=
  replied ptGrant a.port a.pkt s fun o s =>
    match o.phase, o.kind with
    | .granted _, _ => s
    | _, .semAdd _ _ => s
    | _, _ =>
      let s := changeOp o.msgId (fun o => { o with phase := .granted a.pkt.handle }) s
      (List.range o.dstDesc.messageRuns.length).foldl (sendData o a.pkt.handle) (changeLimiter o.dst id s)

/-- A refusal that asks the source to come back (12 R344). -/
abbrev reasonBusy : Nat := 0x09

/-- REFUSE: TRANSFER with the reason as its detail, or a retry (12 R344). -/
def execRefuse (a : Arrival) (s : State) : Answer :=
  replied ptRefuse a.port a.pkt s fun o s =>
    if a.pkt.aux.toNat = reasonBusy then changeOp o.msgId (fun o => { o with phase := .busy, openClk := s.clk }) s
    else failOp causeTransfer (a.pkt.aux.toNat % 256) o s

/-- OPEN_RETRY: every 2 µs after a busy refusal, which stands as the last answer until another comes (12 R344). -/
def execOpenRetry (msgId : BitVec 16) (s : State) : Answer :=
  match s.fab.ops.find? fun o => o.msgId == msgId && o.phase == .busy && !o.discarded s with
  | some o =>
    if o.openClk + 2 * usEdges ≤ s.clk then
      .next (sendPkt (openPkt o) (changeOp msgId (fun o => { o with openClk := s.clk }) s))
    else .next s
  | none => .next s

/-- The times that a packet is sent again (12 R343). -/
abbrev resendLimit : Nat := 3

/-- RESEND (12 R343). -/
def execResend (a : Arrival) (s : State) : Answer :=
  replied ptResend a.port a.pkt s fun o s =>
    match o.phase with
    | .granted h =>
      let i := a.pkt.pktIndex.toNat
      if o.resends.get 0 i ≥ resendLimit then s
      else sendData o h (changeOp o.msgId (fun o => { o with resends := o.resends.update 0 i fun n => n + 1 }) s) i
    | _ => s

/-- ACK: the operation is complete; the source adds 1 to gsem (12 R345, R347, 06 R161, 09 R256). -/
def execAck (a : Arrival) (s : State) : Answer :=
  replied ptAck a.port a.pkt s fun o s =>
    let s := dropOp o.msgId s
    let s := if a.pkt.aux.getLsbD 1 then echoed a.pkt.srcChip s else s
    let s := if a.pkt.aux.getLsbD 0 then s.setCore o.core.val ((s.core o.core.val).sawPoison true) else s
    sendHeld (signal o.core o.ctx o.gsem s)

/-- E2E_TIMEOUT: the end-to-end timer ends before the ACK (12 R344, R346). -/
def execE2eTimeout (msgId : BitVec 16) (s : State) : Answer :=
  match s.fab.ops.find? fun o => o.msgId == msgId && o.phase != .held && !o.discarded s with
  | none => .next s
  | some o =>
    if s.clk < o.startClk + e2eEdges s then .next s
    else if o.phase == .busy then .next (failOp causeTransfer reasonBusy o s)
    else .next (failOp causePeerLost 0 o s)

/-! ## At the destination (12 R343 to R345, R353) -/

/-- A context is closed to other chips: it is fenced, or a reset of it is in progress (12 R353, 14 R397). -/
def shutToChips (s : State) (c : CtxId) : Bool := s.ctxFenced c.val || (s.ctx c.val).resetRun.isSome

/-- The context of a request, or the first reason to refuse it (12 R344, 19 R516; DESIGN CHOICE, log entry 13). -/
def admission (s : State) (p : PortId) (k : Pkt) : Except Nat CtxId :=
  match s.fab.active.entryOfJob k.job with
  | none => .error 0x04
  | some j =>
    let c := s.fab.active.jobCtx j
    if shutToChips s c then .error 0x08
    else if (s.ctx c.val).conf && !(s.port p.val).sealed then .error 0x0A
    else .ok c

/-- The chip lies outside the box of the job (16 R466). -/
def outsideBox (s : State) (job chip : BitVec 16) : Bool :=
  match s.fab.active.entryOfJob job with
  | some j => !s.fab.active.inBox j chip
  | none => true

/-- Message entries (12 R343). -/
abbrev entrySlots : Nat := 16384

/-- The first number from `n` on that no row holds; the rows rise. -/
def firstFree : Nat → List Nat → Nat
  | n, [] => n
  | n, r :: rest => if r = n then firstFree (n + 1) rest else n

/-- A step of the checks of an OPEN with its reason. -/
def refuseAs {α : Type} (why : Nat) (x : Except Trap α) : Except Nat α :=
  match x with
  | .ok a => .ok a
  | .error _ => .error why

/-- The gdsem of an OPEN: none, or a semaphore of the context (09 R255; DESIGN CHOICE, log entry 21). -/
def openSem (s : State) (c : CtxId) (name : Word) : Except Nat (Option SemId) :=
  if name = noSemName then .ok none
  else match frontSem s c name with
    | some n => .ok (some n)
    | none => .error 0x07

/-- The checks of an OPEN and the entry it asks for (12 R343). -/
def openChecks (s : State) (p : PortId) (k : Pkt) : Except Nat MsgEntry := do
  let c ← admission s p k
  let red := k.aux.getLsbD 0
  if k.payload.length ≠ 64 then .error 0x05
  let d ← match parseTile (leAt k.payload 0 32) with
    | .ok d => .ok d
    | .error _ => .error 0x05
  refuseAs 0x05 (tileInView s c d)
  if red then refuseAs 0x05 (reduceChecks d.fmt d)
  let pages ← refuseAs 0x06 (mapTile s c d { r := red, w := true } .empty)
  let name := BitVec.ofNat 64 (leAt k.payload 32 8)
  let n ← openSem s c name
  if s.fab.entries.rows.length ≥ entrySlots then .error reasonBusy
  .ok { srcChip := k.srcChip, gen := k.gen, msgId := k.msgId, job := k.job, ctx := c, reduce := red, desc := d,
        pages := pages, gdsem := n, gdsemName := name, total := k.pktTotal.toNat, accepted := [], crcFails := .empty,
        poisoned := false, echo := false, outside := outsideBox s k.job k.srcChip, bytes := [], lastClk := s.clk }

/-- A refusal sent (12 R344). -/
def refusal (k : Pkt) (why : Nat) (s : State) : State :=
  sendPkt { replyPkt ptRefuse k with aux := BitVec.ofNat 16 why } s

/-- An entry written. -/
def setEntry (h : BitVec 16) (e : Option MsgEntry) (s : State) : State :=
  { s with fab := { s.fab with entries := s.fab.entries.set none h.toNat e } }

/-- OPEN (12 R343, R344). -/
def execOpenMsg (inPort : PortId) (k : Pkt) (s : State) : Answer :=
  checkedPkt ptOpen inPort k s fun s =>
    match openChecks s inPort k with
    | .error why => refusal k why s
    | .ok e =>
      let h := BitVec.ofNat 16 (firstFree 0 (s.fab.entries.rows.map fun r => r.1))
      sendPkt { replyPkt ptGrant k with handle := h } (setEntry h (some e) s)

/-- A marked packet: the entry's echo, and an ECHO at most once per source chip in 1 µs (12 R347, R330). -/
def markSeen (k : Pkt) (s : State) : State :=
  let seen := s.fab.echoes.get none k.srcChip.toNat
  let n := (match seen with | some x => x.2 | none => 0) + 1
  let quiet := match seen with | some x => decide (s.clk < x.1 + usEdges) | none => false
  let put (x : Nat × Nat) : State :=
    { s with fab := { s.fab with echoes := s.fab.echoes.set none k.srcChip.toNat (some x) } }
  if quiet then put ((match seen with | some x => x.1 | none => 0), n)
  else sendPkt { replyPkt ptEcho k with msgId := 0, aux := BitVec.ofNat 16 (satTo 0xFFFF n) } (put (s.clk, 0))

/-- A DATA packet's run lies inside the validated extent, and its index in the message (12 R343, R330). -/
def runInside (e : MsgEntry) (k : Pkt) : Bool :=
  let a := k.dstAddr.toNat
  let n := k.payload.length
  decide (0 < n) && decide (n ≤ runBytes) && decide (k.pktIndex.toNat < e.total)
    && e.desc.runs.any fun r => decide (r.1 ≤ a) && decide (a + n ≤ r.1 + r.2)

/-- A packet matches its entry (12 R343). -/
def matchesEntry (e : MsgEntry) (k : Pkt) : Bool :=
  e.srcChip == k.srcChip && e.gen == k.gen && e.msgId == k.msgId && e.total == k.pktTotal.toNat

/-- The bytes of an accepted packet: written, added, or their range poisoned (12 R343, 06 R162). -/
def applyData (e : MsgEntry) (k : Pkt) (bad : Bool) (s : State) : State :=
  let a := k.dstAddr.toNat
  if bad then s.writeVia e.pages a (s.bytesVia e.pages a k.payload.length) fun _ => true
  else if e.reduce then reduceBytes e.desc.fmt e.pages a k.payload (fun _ => false) s
  else s.writeVia e.pages a k.payload fun _ => false

/-- An accepted packet (12 R343, R345, R347). -/
def acceptData (h : BitVec 16) (e : MsgEntry) (k : Pkt) (bad : Bool) (s : State) : State :=
  let bytes := if e.outside then e.bytes ++ k.payload else e.bytes
  let e := { e with accepted := e.accepted ++ [k.pktIndex.toNat], poisoned := e.poisoned || bad, echo := e.echo || k.ce,
                    bytes := bytes, lastClk := s.clk }
  let s := setEntry h (some e) (applyData e k bad s)
  if k.ce then markSeen k s else s

/-- DATA (12 R343, R353). -/
def execDataPkt (a : Arrival) (s : State) : Answer :=
  if !delivered s ptData a.pkt then .next s
  else match s.fab.entries.get none a.pkt.handle.toNat with
    | none => .next (discard (some a.port) a.pkt s)
    | some e =>
      let i := a.pkt.pktIndex.toNat
      if shutToChips s e.ctx then .next (discard (some a.port) a.pkt (setEntry a.pkt.handle none s))
      else if !matchesEntry e a.pkt || !runInside e a.pkt || e.accepted.contains i then .next (discard (some a.port) a.pkt s)
      else if a.pkt.crc = a.pkt.crcOf then .next (acceptData a.pkt.handle e a.pkt false s)
      else if e.crcFails.get 0 i < resendLimit then
        let s := setEntry a.pkt.handle (some { e with crcFails := e.crcFails.update 0 i fun n => n + 1 }) s
        .next (sendPkt { replyPkt ptResend a.pkt with handle := a.pkt.handle, pktIndex := a.pkt.pktIndex } s)
      else
        .next (e2eRecord (some e.ctx) sevPoisoned a.pkt.dstAddr.toNat a.pkt.srcChip a.pkt.msgId (acceptData a.pkt.handle e a.pkt true s))

/-- An add from another chip is applied (09 R246, R247, R256; DEDUCED, log entry 32). -/
def remoteAddHere (n : SemId) (die : Nat) (c : CtxId) (name value : Word) (s : State) : State :=
  updateSem n (arrive n (.add (farRank n die) c name value) (breakBlocked c s))

/-- MESSAGE_COMPLETE: every DATA packet has been accepted (12 R345, 16 R467). -/
def execMessageComplete (handle : BitVec 16) (s : State) : Answer :=
  match s.fab.entries.get none handle.toNat with
  | none => .next s
  | some e =>
    if shutToChips s e.ctx then .next (setEntry handle none s)
    else if e.accepted.length ≠ e.total then .next s
    else
      let s := if e.outside then
          journalBytes e.ctx { kind := 0x06, src := e.srcChip.toNat, addr := e.desc.base.toNat, poisoned := e.poisoned }
            e.bytes s
        else s
      let s := match e.gdsem with
        | some n => remoteAddHere n rankPorts e.ctx e.gdsemName 1 s
        | none => s
      let ack : Pkt := { Pkt.blank with
        ptype := ptAck, dstChip := e.srcChip, job := e.job, gen := e.gen, msgId := e.msgId, handle := handle,
        aux := BitVec.ofNat 16 (e.poisoned.toNat + 2 * e.echo.toNat) }
      .next (setEntry handle none (sendPkt ack s))

/-- SEMADD: applied once and acknowledged, or refused (09 R255, R256, 12 R344, 16 R467). -/
def execSemadd (inPort : PortId) (k : Pkt) (s : State) : Answer :=
  checkedPkt ptSemadd inPort k s fun s =>
    match admission s inPort k with
    | .error why => refusal k why s
    | .ok c =>
      let name := BitVec.ofNat 64 (leAt k.payload 0 8)
      let value := BitVec.ofNat 64 (leAt k.payload 8 8)
      match frontSem s c name with
      | none => refusal k 0x07 s
      | some n =>
        let s := if outsideBox s k.job k.srcChip then
            journalValue c { kind := 0x05, src := k.srcChip.toNat, addr := name.toNat, dig := leBytes 8 value.toNat } s
          else s
        sendPkt (replyPkt ptAck k) (remoteAddHere n (rankPorts + inPort.val) c name value s)

/-- ENTRY_IDLE_TIMEOUT: no accepted packet for the end-to-end time (12 R346). -/
def execEntryIdleTimeout (handle : BitVec 16) (s : State) : Answer :=
  match s.fab.entries.get none handle.toNat with
  | none => .next s
  | some e =>
    if s.clk < e.lastClk + e2eEdges s ∨ e.accepted.length = e.total then .next s
    else .next (e2eRecord (some e.ctx) sevEvent e.desc.base.toNat e.srcChip e.msgId (setEntry handle none s))

end Sys2Proof.Machine
end

