-- ==== Sys2Proof/Machine/PlumbTime.lean ====
section
/-! DEFINITION. Plumb time across chips: the parent, the offsets, the slew, loading, loss (12 R354 to R360, 15 R423). -/

namespace Sys2Proof.Machine

/-- The time master that the active table names (12 R326). -/
def masterChip (s : State) : BitVec 16 := BitVec.ofNat 16 (bitsAt s.fab.active.topm 0 16)

/-- This chip is the time master. -/
def isMaster (s : State) : Bool := masterChip s != noChip && masterChip s == ownChip s

/-- The root of the tree: the master while its counter is valid (12 R355, R358). -/
def isRoot (s : State) : Bool := isMaster s && s.plumb.valid

/-- How long a frame makes its sender a candidate parent (12 R355). -/
abbrev parentAge : Nat := 10 * usEdges
/-- How long a chip may be without a parent, and a master waits (12 R357, R358). -/
abbrev plumbWait : Nat := 100 * usEdges

/-- The last frame of a port, if its sender may be the parent (12 R355; DEDUCED, log entry 33). -/
def parentFrame (s : State) (p : PortId) : Option PlumbSeen :=
  let x := s.port p.val
  match x.plumb with
  | some f =>
    if x.state == .active && f.info.valid && f.info.master == masterChip s && decide (f.info.hops.val < 255)
        && decide (s.clk ≤ f.clk + parentAge) then some f else none
  | none => none

/-- The port with the least hops, ties to the lower (12 R355). -/
def bestParent (s : State) : Option (PortId × Nat) :=
  (List.finRange 16).foldl (fun best p =>
    match parentFrame s p, best with
    | some f, some b => if f.info.hops.val < b.2 then some (p, f.info.hops.val) else some b
    | some f, none => some (p, f.info.hops.val)
    | none, _ => best) none

/-- The parent and the distance follow the frames received (12 R355); without a master named synchronisation is off, and the root keeps
its own count (12 R326, R358). -/
def followParent (s : State) : State :=
  let b := s.plumb
  if masterChip s = noChip then
    { s with plumb := { b with parent := none, hops := 255, noParentSince := none, measures := 0, calm := 0, slew := 0 } }
  else if isRoot s then { s with plumb := { b with parent := none, hops := 0, noParentSince := none, slew := 0 } }
  else match bestParent s with
    | some (p, h) => { s with plumb := { b with parent := some p, hops := h + 1, noParentSince := none } }
    | none => { s with plumb := { b with
        parent := none, hops := 255, measures := 0, calm := 0,
        noParentSince := match b.noParentSince with
          | some t => some t
          | none => some s.clk } }

/-- The 32 bytes of a PLUMB frame (12 R354). -/
def plumbPayload (f : PlumbInfo) : Bytes :=
  leBytes 8 f.tTx.toNat ++ leBytes 8 f.tEcho.toNat ++ leBytes 8 f.tHold.toNat ++ leBytes 1 f.hops.val ++ leBytes 1 f.valid.toNat
    ++ leBytes 2 f.master.toNat ++ zeros 4

/-- The frame that a payload holds (12 R354). -/
def plumbOf (d : Bytes) : PlumbInfo where
  tTx := BitVec.ofNat 64 (leAt d 0 8)
  tEcho := BitVec.ofNat 64 (leAt d 8 8)
  tHold := BitVec.ofNat 64 (leAt d 16 8)
  hops := Fin.ofNat 256 (leAt d 24 1)
  valid := (byteAt d 25).getLsbD 0
  master := BitVec.ofNat 16 (leAt d 26 2)

/-- A LINK packet that carries a PLUMB frame, and is whole (12 R330, R332, R354). -/
def isPlumb (k : Pkt) : Bool :=
  k.ptype == ptLink && k.aux == BitVec.ofNat 16 linkPlumb && k.payload.length == 32 && k.crc == k.crcOf

/-- The distance that a frame tells: none from a master that is not valid (12 R358). -/
def hopsTold (s : State) : Nat := if isMaster s && !s.plumb.valid then 255 else s.plumb.hops

/-- PLUMB_FRAME_SEND: an ACTIVE port sends its frame, 1 µs after the one before (12 R354); what it echoes before it has received a
frame is a free value (DESIGN CHOICE, log entry 34). -/
def execPlumbFrameSend (p : PortId) (s : State) : Answer :=
  let x := s.port p.val
  let early := match x.plumbSent with
    | some t => decide (s.clk < t + usEdges)
    | none => false
  if x.state != .active || early then .next s
  else
    let s := s.setPort p.val { x with plumbSent := some s.clk }
    let send (echo hold : Word) (s : State) : State :=
      let f : PlumbInfo := ⟨s.plumb.now, echo, hold, Fin.ofNat 256 (hopsTold s), s.plumb.valid, masterChip s⟩
      putOnPort p 3 (linkPkt s p linkPlumb (plumbPayload f)) s
    match x.plumb with
    | some f => .next (send f.info.tTx (s.plumb.now - f.arrive) s)
    | none =>
      let a := s.draw
      let b := a.2.draw
      .next (send a.1 b.1 b.2)

/-- The offset that a frame gives, in ticks (12 R355). -/
def frameOffset (f : PlumbInfo) (arrive : Word) : Int :=
  let rtt := (arrive - f.tEcho - f.tHold).toInt
  (f.tTx - arrive).toInt + rtt / 2

/-- The offsets that the mean takes (12 R356). -/
def Plumb.window (b : Plumb) : List Int := b.thetas.drop (b.thetas.length - 8)

/-- Twice a mean compared with one tick: the slew in force (12 R356). -/
def slewOf (w : List Int) : Int :=
  let n : Int := w.length
  if 2 * w.sum > n then 1 else if 2 * w.sum < -n then -1 else 0

/-- The mean, rounded to the nearest tick (12 R357, R360). -/
def meanTheta (w : List Int) : Int :=
  if w.isEmpty then 0 else (2 * w.sum + w.length) / (2 * w.length)

/-- The mean |θ| exceeds 60 (12 R357). -/
def strayed (w : List Int) : Bool := decide ((w.map Int.natAbs).sum > 60 * w.length)

/-- Valid falls: lost is set and the loss is noticed (12 R357, 01 R31). -/
def plumbLost (s : State) : State :=
  sendNotice evPlumbLost 0xFF 0 { s with plumb := { s.plumb with valid := false, lost := true, calm := 0 } }

/-- Measurements in a row before a load, and before valid returns (12 R357). -/
abbrev steadyCount : Nat := 16

/-- The counter is loaded once; the offsets already taken are judged against the loaded count (12 R357; DEDUCED, log entry
35). -/
def loadCounter (s : State) : State :=
  let m := meanTheta s.plumb.window
  followParent { s with plumb := { s.plumb with
    now := s.plumb.now + BitVec.ofInt 64 m, loaded := true, valid := true, slew := 0,
    thetas := s.plumb.thetas.map fun t => t - m } }

/-- One measurement from the parent (12 R355 to R357). -/
def measure (theta : Int) (s : State) : State :=
  let b := s.plumb
  let b := { b with
    thetas := b.window.drop (b.window.length - 7) ++ [theta]
    measures := b.measures + 1
    calm := if theta.natAbs ≤ 8 then b.calm + 1 else 0 }
  let b := { b with slew := slewOf b.window }
  let s := { s with plumb := b }
  if b.valid then (if strayed b.window then plumbLost s else s)
  else if !b.loaded then (if b.measures ≥ steadyCount then loadCounter s else s)
  else if b.calm ≥ steadyCount then followParent { s with plumb := { b with valid := true } }
  else s

/-- PLUMB_FRAME: a neighbour's frame arrives, in a LINK packet (12 R354 to R358). -/
def execPlumbFrame (p : PortId) (k : Pkt) (s : State) : Answer :=
  let x := s.port p.val
  if x.state != .active || !isPlumb k then .next s
  else
    let f := plumbOf k.payload
    let s := s.setPort p.val { x with plumb := some ⟨f, s.plumb.now, s.clk⟩ }
    let s := followParent { s with plumb := { s.plumb with heardValid := s.plumb.heardValid || f.valid } }
    if s.plumb.parent = some p then .next (measure (frameOffset f s.plumb.now) s) else .next s

/-- PLUMB_PARENT_LOSS (12 R357). -/
def execPlumbParentLoss (s : State) : Answer :=
  let s := followParent s
  match s.plumb.noParentSince with
  | some t => .next (if s.plumb.valid && decide (t + plumbWait ≤ s.clk) then plumbLost s else s)
  | none => .next s

/-- The master becomes valid by itself (12 R357, R358). -/
def masterValid (s : State) : State :=
  followParent { s with plumb := { s.plumb with valid := true, loaded := true, commitClk := none } }

/-- MASTER_WAIT_EXPIRY: no valid neighbour was heard in the 100 µs after the commit (12 R358). -/
def execMasterWaitExpiry (s : State) : Answer :=
  match s.plumb.commitClk with
  | some t =>
    .next (if isMaster s && !s.plumb.valid && !s.plumb.heardValid && decide (t + plumbWait ≤ s.clk) then masterValid s else s)
  | none => .next s

/-- A committed table names its master (12 R357, R358). -/
def masterNamed (s : State) : State :=
  let s := { s with plumb := { s.plumb with commitClk := if isMaster s then some s.clk else none, heardValid := false } }
  if isMaster s && s.plumb.loaded then masterValid s else followParent s

/-- PLUMB_REPLICA_MISMATCH (15 R423). -/
def execPlumbReplicaMismatch (s : State) : Answer :=
  let b := s.plumb
  let s := { s with plumb := { b with valid := false, lost := b.lost || b.valid, calm := 0 } }
  .next (followParent (logError (atPlace 0x00 0 { cause := 0x1B, sev := sevEvent }) s))

end Sys2Proof.Machine
end

