-- ==== Sys2Proof/Machine/Topology.lean ====
section
/-! DEFINITION. The commit of a topology table and the peer-down list (12 R323 to R325, 14 R412, R417). -/

namespace Sys2Proof.Machine

/-- Valid job entries. -/
def Topo.jobs (t : Topo) : List Nat := (List.range 64).filter t.jobValid

/-- Some two of a list are equal. -/
def repeats {α : Type} [DecidableEq α] (xs : List α) : Bool := decide (xs.dedup.length ≠ xs.length)

/-- The box of a job entry lies in the shape, and no lo is above its hi (condition 3). -/
def Topo.boxFits (t : Topo) (j : Nat) : Bool :=
  (List.range 3).all fun a => decide ((t.jobBox j a).1 ≤ (t.jobBox j a).2) && decide ((t.jobBox j a).2 < t.extent a)

/-- Every wrapped axis is spanned (condition 4). -/
def Topo.wrapFits (t : Topo) (j : Nat) : Bool :=
  (List.range 3).all fun a => !t.jobWrap j a || (t.jobBox j a == (0, t.extent a - 1))

/-- The first condition of R324 that holds of the staged table, or 0. -/
def commitWhy (s : State) : Nat :=
  let t := s.fab.staged
  let own := BitVec.ofNat 16 (bitsAt t.topg 0 16)
  if bitsAt t.topg 32 32 ≤ bitsAt s.fab.active.topg 32 32 then 1
  else if own = noChip || !t.hasChip own then 2
  else if t.jobs.any fun j => !t.boxFits j then 3
  else if t.jobs.any fun j => !t.wrapFits j then 4
  else if repeats (t.jobs.map t.jobId) || repeats (t.jobs.map t.jobCtx)
      || (t.jobs.any fun j => t.jobId j == 0 || t.jobId j == noChip) then 5
  else if (List.range 256).any fun i => bitAt (t.exc.get 0 i) 0 && !bitAt (t.exc.get 0 i) 1 && bitsAt (t.exc.get 0 i) 40 16 == 0
    then 6
  else if ((List.range 6).any fun r => decide (((List.finRange 16).filter fun p => t.role p == r).length > 2))
      || ((List.finRange 16).any fun p => t.role p != 7 && t.peerChip p == noChip) then 7
  else 0

/-- The peer-down list is cleared, and the ports it closed open (14 R412). -/
def clearPeers (s : State) : State :=
  { s with
    fab := { s.fab with peerDown := .empty, peerOrder := [] }
    ports := s.ports.mapAll .reset fun x => { x with closed := false } }

/-- FAB_CTL.commit (12 R323, R324). -/
def commitTable (s : State) : State :=
  let why := commitWhy s
  if why ≠ 0 then { s with fab := { s.fab with commitRej := true, rejWhy := BitVec.ofNat 3 why } }
  else (List.finRange 16).foldl refreshPort (masterNamed (clearPeers { s with fab := { s.fab with active := s.fab.staged } }))

/-- Entries of RST_PEERDN. -/
abbrev peerSlots : Nat := 64

/-- A chip enters the list; a full list gives up its oldest entry with a record (14 R412). -/
def listPeer (chip : BitVec 16) (s : State) : State :=
  if peerListed s chip then s
  else
    let put (i : Nat) (order : List Nat) (s : State) : State :=
      { s with fab := { s.fab with peerDown := s.fab.peerDown.set none i (some chip), peerOrder := order ++ [i] } }
    match (List.range peerSlots).find? (fun i => (s.fab.peerDown.get none i).isNone), s.fab.peerOrder with
    | some i, order => put i order s
    | none, i :: rest =>
      let old := match s.fab.peerDown.get none i with | some c => c.toNat | none => 0
      logError (atPlace 0x09 0 { cause := 0x19, sev := sevEvent, info0 := old }) (put i rest s)
    | none, [] => s

/-- A peer-down notice (14 R412). -/
def peerDown (chip : BitVec 16) (s : State) : State :=
  let s := listPeer chip s
  let s := { s with ports := s.ports.mapAll .reset fun x =>
      if x.haveRecord && bitsAt x.peer 0 16 == chip.toNat then { x with closed := true } else x }
  let s := (s.fab.ops.filter fun (o : RemoteOp) => o.dst == chip).foldl (fun (s : State) (o : RemoteOp) => failOp causePeerLost 0 o s) s
  s.fab.entries.rows.foldl (fun (s : State) (r : Nat × Option MsgEntry) => match r.2 with
    | some e =>
      if e.srcChip = chip then
        e2eRecord (some e.ctx) sevEvent e.desc.base.toNat e.srcChip e.msgId (setEntry (BitVec.ofNat 16 r.1) none s)
      else s
    | none => s) s

/-- The subtype of an MGMT packet (12 R350). -/
abbrev mgmtPeerDown : BitVec 16 := 4

/-- PEER_DOWN_NOTICE (12 R350, 14 R412). -/
def execPeerDownNotice (a : Arrival) (s : State) : Answer :=
  checkedPkt ptMgmt a.port a.pkt s fun s =>
    if a.pkt.aux = mgmtPeerDown then peerDown (BitVec.ofNat 16 (leAt a.pkt.payload 0 2)) s else s

end Sys2Proof.Machine
end

