-- ==== Sys2Proof/Machine/RegRead.lean ====
section
/-! DEFINITION. What every register and window of control space reads, and which reads a chapter refuses (the register
tables of the manual; 04 R115, 05 R141, 19 R515). -/

namespace Sys2Proof.Machine

/-! ## Words -/

/-- Eight bytes of a list, from word `w`. -/
def wordOf (bs : Bytes) (w : Nat) : Word := BitVec.ofNat 64 (leAt bs (8 * w) 8)

/-- PLB_STAT (01 R32). -/
def plbStatWord (s : State) : Word := flagAt 0 s.plumb.valid ||| flagAt 1 s.plumb.lost

/-- The mean θ as PLB_SYNC reports it (12 R360). -/
def thetaField (b : Plumb) : Nat := (BitVec.ofInt 16 (max (-32767) (min 32767 (meanTheta b.window)))).toNat

/-- PLB_SYNC (12 R360). -/
def plbSyncWord (s : State) : Word :=
  putAt 0 (match s.plumb.parent with | some p => p.val | none => 0) ||| flagAt 4 (isMaster s)
    ||| flagAt 5 s.plumb.parent.isSome ||| putAt 8 s.plumb.hops ||| putAt 32 (thetaField s.plumb)

/-- An entry of RST_PEERDN (14 R417). -/
def peerWord (s : State) (i : Nat) : Word :=
  match s.fab.peerDown.get none i with
  | some c => putAt 0 c.toNat ||| flagAt 16 true
  | none => 0

/-- ERR_STAT (15 R449). -/
def errStatWord (s : State) : Word :=
  putAt 0 s.err.tail ||| flagAt 10 s.err.full ||| flagAt 11 s.err.ovf ||| putAt 32 s.err.seq.toNat

/-- ERR_LOST (15 R449). -/
def errLostWord (s : State) : Word :=
  (List.range 5).foldl (fun w i => w ||| putAt (12 * i) (s.err.lost.get 0 i)) 0

/-- GFE_ORPHSTAT (10 R290). -/
def orphWord (s : State) : Word :=
  (List.range orphanSlots).foldl (fun w i => w ||| flagAt i (s.orphans.get none i).isSome) 0

/-- A word of the orphan window (10 R290). -/
def orphanWord (s : State) (w : Nat) : Word :=
  match s.orphans.get none (w / 8) with
  | some (_, bs) => wordOf bs (w % 8)
  | none => 0

/-- HIF_STAT (21 R558). -/
def hifStatWord (s : State) : Word :=
  let h := s.host
  flagAt 0 h.up ||| (if h.up then putAt 1 (if h.x16 then 2 else 1) ||| putAt 3 (if h.fast then 2 else 1) else 0)
    ||| flagAt 5 h.fence ||| flagAt 6 h.ideLink ||| flagAt 7 h.ideCm ||| flagAt 8 h.downEv ||| putAt 16 h.dropped

/-- Eight frames of ATU_FRM (08 R222). -/
def framesWord (s : State) (w : Nat) : Word :=
  BitVec.ofNat 64 (leNat ((List.range 8).map fun i => s.atu.frm.get 0 (8 * w + i)))

/-- ATU_INV (08 R225). -/
def invWord (s : State) : Word :=
  putAt 0 s.atu.invCtx.toNat ||| putAt 6 s.atu.invScope.toNat ||| flagAt 9 s.atu.invBusy ||| putAt 32 s.atu.invVa.toNat

/-- STK_STAT, with its temperature bit (08 R217, R218). -/
def stkWord (s : State) (k : Nat) : Word := (s.stack k).stat ||| flagAt 57 (decide (850 < s.power.memory.get 0 k))

/-- An entry of CSP_OWN (21 R551): what was written, or the boot owner's entry. -/
def ownEntry (s : State) (page : Nat) : BitVec 32 :=
  match s.own.get none page with
  | some e => e
  | none =>
    let o := (bootOwner page).getD ownerNone
    BitVec.ofNat 32 (o + 65536 * bootMatrix s.sec.dbgEn o)

/-- APB_LANE (11 R320). -/
def Port.laneWord (x : Port) : Word :=
  putAt 0 x.rxUsed.toNat ||| putAt 17 x.txUsed.toNat ||| flagAt 34 x.rxHalf ||| flagAt 35 x.txHalf

/-- FAB_STAT (12 R349). -/
def fabStatWord (s : State) : Word :=
  putAt 0 (bitsAt s.fab.active.topg 32 32) ||| flagAt 32 s.fab.commitRej ||| putAt 33 s.fab.rejWhy.toNat ||| putAt 40 s.fab.drops

/-- JNL_STAT (16 R468). -/
def jnlStatWord (c : Ctx) : Word :=
  putAt 0 c.jnlTail ||| flagAt 24 c.jnlFull ||| flagAt 25 c.jnlGap ||| putAt 32 c.jnlLost

/-- The code of a queue's state (10 R266). -/
def SqState.code : SqState → Nat
  | .disabled => 0 | .idle => 1 | .active => 2 | .waiting => 3 | .halted => 4 | .stalledCpl => 5 | .hung => 6

/-- GFE_SQSTAT (10 R266). -/
def Sq.statWord (x : Sq) : Word :=
  putAt 0 x.state.code ||| flagAt 3 x.heldEntry.isSome ||| flagAt 4 x.fetchErr ||| putAt 8 x.head ||| putAt 24 x.tail
    ||| putAt 40 x.lastErr.toNat

/-- GFE_CQSTAT (10 R268). -/
def Cq.statWord (x : Cq) : Word := putAt 0 x.tail ||| flagAt 16 x.phase ||| flagAt 17 x.full

/-- SEQ_STAT.state (06 R170). -/
def SeqState.code : SeqState → Nat
  | .idle => 0 | .running => 1 | .ownFault => 2 | .ctxStopped => 3

/-- SEQ_STAT (06 R170). -/
def CoreSt.seqWord (v : CoreSt) : Word := putAt 0 v.seqState.code ||| putAt 8 v.seqCtx.toNat ||| flagAt 16 v.seqDirect

/-- STP_STAT (05 R141). -/
def CoreSt.stpWord (v : CoreSt) : Word :=
  flagAt 0 v.seeded ||| flagAt 1 v.stpMism ||| putAt 2 v.stpFirstLane.toNat ||| flagAt 10 v.stpBusy

/-- The engine that STB_CTL selects (04 R113). -/
def CoreSt.stbEngine (v : CoreSt) : EngineSt := v.engine (Fin.ofNat 4 (bitsAt v.stbCtl 4 2))

/-- A numeric count of a core (02 R57). -/
def CoreSt.ntmWord (v : CoreSt) (i : Fin 4) : Word :=
  match i with
  | 0 => v.ntmSat | 1 => v.ntmFlush | 2 => v.ntmNan | 3 => v.ntmInf

/-! ## Confidentiality (19 R515) -/

/-- The context whose work a core runs or last ran is confidential. -/
def coreSecret (s : State) (c : CoreId) : Bool := (s.ctx (s.core c.val).context.val).conf

/-- A semaphore of a confidential context. -/
def semSecret (s : State) (n : SemId) : Bool :=
  s.ctxs.rows.any fun r => r.2.conf && match n with
    | .cluster k _ => r.2.hasCluster k.val
    | .die i => r.2.hasDieSem i.val

/-- The snapshot buffer holds a confidential context's snapshot (09 R261). -/
def snapSecret (s : State) : Bool := (byteAt s.dlkSnap 22).getLsbD 1

/-! ## Reads -/

/-- What a register or window reads. -/
def readReg (s : State) : Reg → Word
  | .empty => 0
  | .rfl => s.cspRfl
  | .ckg => ckgWord s
  | .plbNow => s.plumb.now
  | .plbStat => plbStatWord s
  | .plbSync => plbSyncWord s
  | .fth => s.power.fthCtl
  | .prt => prtWord s
  | .rstChip => 0
  | .rstStat => rstStatWord s
  | .peerDn i => peerWord s i.val
  | .intCtl => s.bst.intCtl
  | .intStat => intStatWord s
  | .errHead => putAt 0 s.err.head
  | .errStat => errStatWord s
  | .errLost => errLostWord s
  | .thm => thmWord s
  | .fwp => fwpWord s
  | .boot => bootWord s
  | .pwl => pwlWord s
  | .dlkStat => s.dlkStat
  | .orphStat => orphWord s
  | .hifStat => hifStatWord s
  | .evVec => s.host.evVec
  | .fusId => fusIdWord s
  | .fusApb p => fusApbWord s p.val
  | .fusCore k => fusCoreWord s k.val
  | .fusRow p => fusRowWord s p
  | .fusVln p => fusVlnWord s p
  | .errLog w => wordOf (s.err.ring.get [] (w / 8)) (w % 8)
  | .snapshot w => wordOf s.dlkSnap w
  | .orphan w => orphanWord s w
  | .vfMap v => s.host.vfMap.get 0 v.val
  | .cqMap m => s.host.cqMap.get 0 m.val
  | .ethCtl p => (s.ethPort p.val).ctl
  | .ethStat p => (s.ethPort p.val).statWord
  | .ethFm => flagAt 0 s.ethFm
  | .ethFma0 => s.ethFma0
  | .ethFma1 => s.ethFma1
  | .qpDoorbell q => putAt 0 (s.qp q.val).tail
  | .qpWord q w => (s.qp q.val).word w
  | .flashCtl i => (s.flashSlot i.val).ctlWord
  | .flashAddr i => (s.flashSlot i.val).addr
  | .flashOff i => (s.flashSlot i.val).off
  | .flashSem i => (s.flashSlot i.val).sem
  | .frames w => framesWord s w
  | .invalidate => invWord s
  | .stkStat k => stkWord s k.val
  | .owners w => (ownEntry s (2 * w + 1)).append (ownEntry s (2 * w))
  | .apbCtl p => (s.port p.val).ctl
  | .apbStat p => (s.port p.val).statWord
  | .apbPeer p => (s.port p.val).peer
  | .apbPeerV p => (s.port p.val).peerV
  | .apbLane p => (s.port p.val).laneWord
  | .apbFec p => putAt 0 (s.port p.val).ceSym ||| putAt 40 (s.port p.val).ueCw
  | .apbLlr p => (s.port p.val).llrWord
  | .topg => s.fab.staged.topg
  | .topm => s.fab.staged.topm
  | .fabCtl => s.fab.ctl
  | .fabStat => fabStatWord s
  | .fabPort p => s.fab.staged.port.get Topo.noPort p.val
  | .fabJob0 j => s.fab.staged.job0.get 0 j.val
  | .fabJob1 j => s.fab.staged.job1.get 0 j.val
  | .fabExc i => s.fab.staged.exc.get 0 i.val
  | .mailReq m w => BitVec.ofNat 64 (leNat ((List.range 8).map fun i => (s.proc m.val).req.get 0 (8 * w + i)))
  | .mailRsp m w => BitVec.ofNat 64 (leNat ((List.range 8).map fun i => (s.proc m.val).rsp.get 0 (8 * w + i)))
  | .mailDb _ => 0
  | .mailStat m => fwmWord (s.proc m.val)
  | .kick _ => 0
  | .gfeCtx k => (s.ctx k.val).gfeCtx
  | .atuPtb k => (s.ctx k.val).atuPtb
  | .gfeBdt k => (s.ctx k.val).gfeBdt
  | .semAllot k => (s.ctx k.val).semAllot
  | .rstCtx k => rstCtxWord (s.ctx k.val)
  | .atuFlt k => (s.ctx k.val).atuFlt
  | .jnlCtl k => (s.ctx k.val).jnlCtl
  | .jnlBase k => (s.ctx k.val).jnlBase
  | .jnlHead k => (s.ctx k.val).jnlHead
  | .jnlStat k => jnlStatWord (s.ctx k.val)
  | .sqDoorbell _ => 0
  | .sqBase q => (s.sq q.val).base
  | .sqCtl q => (s.sq q.val).ctl
  | .sqStat q => (s.sq q.val).statWord
  | .sqAct _ => 0
  | .cqBase m => (s.cq m.val).base
  | .cqCtl m => (s.cq m.val).ctl
  | .cqHead m => putAt 0 (s.cq m.val).head
  | .cqStat m => (s.cq m.val).statWord
  | .sem n => (s.sem n).value
  | .dlkCtl k => s.dlkCtl.get dlkReset k.val
  | .ntm c i => (s.core c.val).ntmWord i
  | .ntmCtl _ => 0
  | .ntmStat c => (s.core c.val).ntmStat
  | .stbCtl c => (s.core c.val).stbCtl
  | .stpStat c => (s.core c.val).stpWord
  | .seqStat c => (s.core c.val).seqWord
  | .seqFlt c i => match i with
    | 0 => (s.core c.val).flt0 | 1 => (s.core c.val).flt1 | 2 => (s.core c.val).flt2 | 3 => (s.core c.val).flt3
  | .stbCap c i => (s.core c.val).stbCap.get 0 i
  | .lanes c i => (s.core c.val).stipple.get 0 i
  | .bank c shadow w =>
    let x := (s.core c.val).stbEngine
    wordOf (if shadow then x.shadow else x.active).image w
  | .acc c w => (s.core c.val).stbEngine.acc.get 0 w

/-- A word that reads with the poison response: an accumulator word that fails its parity check, or was found to (04 R115, R95). -/
def poisonRead (s : State) : Reg → Bool
  | .acc c w => let x := (s.core c.val).stbEngine; x.accParityBad.get false w || x.accPoison.get false w
  | _ => false

/-- Counters that a confidential context hides: they read as zero (19 R515; DEDUCED, log entry 44). -/
def hiddenCount (s : State) : Reg → Bool
  | .ntm c _ => coreSecret s c
  | .ntmStat c => coreSecret s c
  | _ => false

/-- What an initiator reads. -/
def seenReg (s : State) (ini : Initiator) (r : Reg) : Word :=
  if ini != .security && hiddenCount s r then 0 else readReg s r

/-- The paths that close to a read (19 R515). -/
def readClosed (s : State) : Reg → Bool
  | .stbCap c _ => coreSecret s c
  | .bank c _ _ => coreSecret s c
  | .acc c _ => coreSecret s c
  | .lanes c _ => coreSecret s c
  | .sem n => semSecret s n
  | .snapshot _ => snapSecret s
  | _ => false

/-- Reads that the register's own chapter refuses (04 R115, 05 R141). -/
def readRefused (s : State) : Reg → Bool
  | .bank c _ _ => coreSecret s c || !bitAt (s.core c.val).stbCtl 0 || (s.core c.val).seqState == .running
  | .acc c _ => coreSecret s c || !bitAt (s.core c.val).stbCtl 0 || (s.core c.val).seqState == .running
  | .lanes c _ => coreSecret s c || (s.core c.val).seqState != .idle
  | _ => false

end Sys2Proof.Machine
end

