-- ==== Sys2Proof/Machine/RegWrite.lean ====
section
/-! DEFINITION. What a write of a register does, once the writer may write it: the checks of the register's own chapter and
its effect (21 R553 condition 4; the register tables of the manual). A write that gives no state is refused. -/

namespace Sys2Proof.Machine

/-! ## Fields (00 R9, R10, 01 R29) -/

/-- The RES0 bits of the registers whose writes are checked (R29); none of a register that ignores them (R10). -/
def res0 : Reg → Word
  | .ckg => maskAt 3 5 ||| maskAt 13 3 ||| maskAt 19 5 ||| maskAt 29 3 ||| maskAt 34 2 ||| maskAt 48 16
  | .fth => maskAt 1 3 ||| maskAt 16 4 ||| maskAt 28 4 ||| maskAt 40 24
  | .prt => maskAt 3 5 ||| maskAt 15 1 ||| maskAt 17 47
  | .rstChip => maskAt 1 7 ||| maskAt 16 48
  | .intCtl => maskAt 4 4 ||| maskAt 11 53
  | .errHead => maskAt 10 54
  | .errStat => maskAt 12 20
  | .vfMap _ => maskAt 7 57
  | .cqMap _ => maskAt 6 58
  | .evVec => maskAt 10 6 ||| maskAt 26 38
  | .ethCtl _ => maskAt 3 5 ||| maskAt 25 39
  | .ethStat _ => maskAt 2 6 ||| maskAt 32 32
  | .ethFm => maskAt 1 63
  | .frames _ => 0x4040404040404040
  | .invalidate => maskAt 10 22 ||| maskAt 56 8
  | .apbCtl _ => maskAt 3 1 ||| maskAt 6 2 ||| maskAt 10 6 ||| maskAt 56 8
  | .topg => maskAt 31 1
  | .topm => maskAt 32 32
  | .fabCtl => maskAt 1 7 ||| maskAt 57 7
  | .fabPort _ => maskAt 24 40
  | .fabJob0 _ => maskAt 7 1 ||| maskAt 39 1 ||| maskAt 43 21
  | .fabJob1 _ => maskAt 30 34
  | .fabExc _ => maskAt 2 6 ||| maskAt 56 8
  | .mailDb _ => maskAt 1 63
  | .mailStat _ => maskAt 3 5 ||| maskAt 32 32
  | .gfeCtx _ => maskAt 2 2 ||| maskAt 12 52
  | .atuPtb _ => maskAt 1 17 ||| maskAt 41 23
  | .gfeBdt _ => maskAt 0 6
  | .semAllot _ => maskAt 1 7 ||| maskAt 25 7 ||| maskAt 33 31
  | .rstCtx _ => maskAt 2 6 ||| maskAt 21 3 ||| maskAt 48 16
  | .jnlCtl _ => maskAt 1 7 ||| maskAt 13 51
  | .jnlBase _ => maskAt 0 12 ||| maskAt 41 23
  | .jnlHead _ => maskAt 24 40
  | .jnlStat _ => maskAt 26 6
  | .sqDoorbell _ => maskAt 16 48
  | .sqBase _ => maskAt 0 12
  | .sqCtl _ => maskAt 3 1 ||| maskAt 15 1 ||| maskAt 29 3 ||| maskAt 54 10
  | .sqStat _ => maskAt 5 3 ||| maskAt 48 16
  | .sqAct _ => maskAt 2 62
  | .cqBase _ => maskAt 0 12
  | .cqCtl _ => maskAt 1 3 ||| maskAt 9 7 ||| maskAt 26 38
  | .cqHead _ => maskAt 16 48
  | .cqStat _ => maskAt 18 46
  | .dlkCtl _ => maskAt 1 7 ||| maskAt 32 32
  | .stbCtl _ => maskAt 1 3 ||| maskAt 6 2 ||| maskAt 13 3 ||| maskAt 23 9 ||| maskAt 50 14
  | .stpStat _ => maskAt 11 53
  | _ => 0

/-- The W1C bits of a register. -/
def w1cBits : Reg → Word
  | .rfl => flagAt 46 true
  | .plbStat => flagAt 1 true
  | .intStat => flagAt 1 true
  | .errStat => flagAt 11 true
  | .pwl => flagAt 4 true
  | .dlkStat => maskAt 0 2
  | .hifStat => flagAt 8 true
  | .apbStat _ => maskAt 12 4
  | .fabStat => flagAt 32 true
  | .mailStat _ => flagAt 1 true
  | .semAllot _ => flagAt 32 true
  | .atuFlt _ => flagAt 45 true
  | .jnlStat _ => flagAt 25 true
  | .ntmStat _ => maskAt 0 4
  | .stbCtl _ => flagAt 49 true
  | .stpStat _ => flagAt 1 true
  | _ => 0

/-- Which halves of its 8 bytes a write covers (21 R561). -/
structure Cover where
  low : Bool
  high : Bool
  deriving DecidableEq, Repr

/-- The value that a write of 4 or 8 bytes is judged by: in a half that it does not cover, what the register holds, with
no W1C bit (21 R561). -/
def mergedValue (s : State) (r : Reg) (cover : Cover) (v : Word) : Word :=
  let rest := readReg s r &&& ~~~w1cBits r
  (if cover.low then v &&& maskAt 0 32 else rest &&& maskAt 0 32)
    ||| (if cover.high then v &&& maskAt 32 32 else rest &&& maskAt 32 32)

/-! ## Contexts (08 R224, 09 R245, 10 R262 to R264, 16 R468) -/

/-- An extent of physical DRAM lies in frames of a context. -/
def framesHold (s : State) (k : CtxId) (a n : Nat) : Bool :=
  decide (a + n ≤ dramEnd)
    && (List.range' (a / 0x40000000) ((a + n - 1) / 0x40000000 - a / 0x40000000 + 1)).all fun f =>
      frameOwned s k (0x40000000 * f)

/-- Another enabled context holds one of these clusters. -/
def clustersTaken (s : State) (k : CtxId) (c : Ctx) : Bool :=
  allCtxs.any fun j => j != k && (List.range 16).any fun i => c.hasCluster i && (s.ctx j.val).hasCluster i

/-- A cluster of the partition is marked in RST_STAT.bad_cl (14 R406). -/
def clustersBad (s : State) (c : Ctx) : Bool := (List.range 16).any fun i => c.hasCluster i && s.rst.badCl.getLsbD i

/-- A write of GFE_CTX (10 R262, R263, 14 R406, 15 R430, 18 R495): one that clears en leaves the other fields as they were, and one
that sets it ends the context's taint. -/
def writeGfeCtx (k : CtxId) (v : Word) (s : State) : Option State :=
  let c := s.ctx k.val
  let new := { c with gfeCtx := setBits v 11 1 c.conf.toNat }
  let size := bitsAt v 8 3
  if !(queuesOf s k).isEmpty then none
  else if size > 4 || (bitAt v 1 && decide (size > 1)) || bitsAt v 4 4 % 2 ^ size ≠ 0 then none
  else if bitAt v 0 then
    if clustersTaken s k new || clustersBad s new || s.boot.result == 2 || s.boot.result == 3 then none
    else
      let fresh (key : Nat) : Bool :=
        (List.range 16).any fun i => new.hasCluster i && !c.hasCluster i && clusterSems i key
      some (zeroSems fresh (s.setCtx k.val { new with tainted := c.en && c.tainted }))
  else if !c.en then some (s.setCtx k.val new)
  else if contextBusy s k then none
  else some (s.setCtx k.val { c with gfeCtx := setBits c.gfeCtx 0 1 0, images := .empty })

/-- A write of GFE_BDT (10 R264). -/
def writeGfeBdt (k : CtxId) (v : Word) (s : State) : Option State :=
  let cnt := bitsAt v 48 16
  if !(queuesOf s k).isEmpty || cnt = 0xFFFF then none
  else if cnt = 0 then some s
  else if !framesHold s k (bitsAt v 6 42 * 64) (32 * cnt) then none
  else some (s.setCtx k.val { s.ctx k.val with gfeBdt := v })

/-- A write of ATU_PTB (08 R224). -/
def writePtb (k : CtxId) (v : Word) (s : State) : Option State :=
  if ptbCheck s k v = .ok then some (setPtb k v s) else none

/-- The allotment of a word overlaps one of another context in force. -/
def allotmentTaken (s : State) (k : CtxId) (w : Word) : Bool :=
  allCtxs.any fun j =>
    let o := (s.ctx j.val).semAllot
    j != k && bitAt o 0 && decide (bitsAt w 8 8 < bitsAt o 8 8 + bitsAt o 16 9)
      && decide (bitsAt o 8 8 < bitsAt w 8 8 + bitsAt w 16 9)

/-- A write of SEM_ALLOT (09 R245). -/
def writeSemAllot (k : CtxId) (v : Word) (s : State) : Option State :=
  let c := s.ctx k.val
  let n := bitsAt v 16 9
  let kept := if n = 0 then setBits (setBits v 8 8 (bitsAt c.semAllot 8 8)) 16 9 (bitsAt c.semAllot 16 9) else v
  let ovf := bitAt c.semAllot 32 && !bitAt v 32
  let new := setBits kept 32 1 ovf.toNat
  if n > 0x100 || (decide (n ≠ 0) && decide (bitsAt v 8 8 + n > 256)) then none
  else if contextBusy s k || allotmentTaken s k new || (bitAt new 0 && bitsAt new 16 9 == 0) then none
  else
    let s' := s.setCtx k.val { c with semAllot := new }
    some (if bitAt new 0 && !bitAt c.semAllot 0 then zeroSems (allottedSems { c with semAllot := new }) s' else s')

/-- A write of JNL_CTL (16 R468): while en = 1 only a write that clears en alone; setting en empties the ring. -/
def writeJnlCtl (k : CtxId) (v : Word) (s : State) : Option State :=
  let c := s.ctx k.val
  let size := bitsAt v 8 5
  if size < 0x0A || size > 0x18 then none
  else if bitAt c.jnlCtl 0 then
    if v = setBits c.jnlCtl 0 1 0 then
      let s := closeRun k s
      some (s.setCtx k.val { s.ctx k.val with jnlCtl := v })
    else none
  else if bitAt v 0 then some (s.setCtx k.val { c with jnlCtl := v, jnlHead := 0, jnlTail := 0 })
  else some (s.setCtx k.val { c with jnlCtl := v })

/-- A write of JNL_BASE (16 R468). -/
def writeJnlBase (k : CtxId) (v : Word) (s : State) : Option State :=
  let c := s.ctx k.val
  if bitAt c.jnlCtl 0 || !framesHold s k (bitsAt v 12 29 * 4096) (64 * c.jnlSize) then none
  else some (s.setCtx k.val { c with jnlBase := v })

/-- A write of JNL_HEAD (16 R468). -/
def writeJnlHead (k : CtxId) (v : Word) (s : State) : Option State :=
  let c := s.ctx k.val
  if bitsAt v 0 24 ≥ c.jnlSize then none else some (s.setCtx k.val { c with jnlHead := v })

/-! ## Queues (10 R266 to R268, R290, R291) -/

/-- A write that sets GFE_SQCTL.en may be performed (10 R266). -/
def queueFits (s : State) (x : Sq) : Bool :=
  let c := s.ctx x.context.val
  c.en && (s.cq x.completion.val).enabled && (!c.direct || decide (x.boundCore < 16 * c.clusters))
    && (!x.inDram || framesHold s x.context (bitsAt x.base 12 52 * 4096) (64 * x.size))

/-- A write of GFE_SQCTL (10 R266). -/
def writeSqCtl (q : SqId) (v : Word) (s : State) : Option State :=
  let x := s.sq q.val
  let t := bitsAt v 32 22
  let v := if t = 0 then setBits v 32 22 (bitsAt x.ctl 32 22) else v
  let size := bitsAt v 10 5
  if t > 0x36EE80 || size < 4 || size > 16 then none
  else if x.enabled then
    if v = setBits x.ctl 0 1 0 && (x.state == .idle || x.state == .halted) && x.cmd.isNone then
      some (s.setSq q.val { x with ctl := v, state := .disabled, fetchErr := false })
    else none
  else
    let y := { x with ctl := v }
    if !bitAt v 0 then some (s.setSq q.val y)
    else if queueFits s y then some (s.setSq q.val { y with state := .idle, head := 0, tail := 0 })
    else none

/-- A write of GFE_SQBASE (10 R266). -/
def writeSqBase (q : SqId) (v : Word) (s : State) : Option State :=
  let x := s.sq q.val
  if x.enabled then none else some (s.setSq q.val { x with base := v })

/-- A doorbell: the journal has it before the tail moves (10 R267, R291, 16 R466, R467). -/
def writeDoorbellSq (q : SqId) (v : Word) (s : State) : Option State :=
  let x := s.sq q.val
  let tail := bitsAt v 0 16
  if tail ≥ x.size || x.state == .disabled || x.state == .hung then none
  else
    let s := journalValue x.context { kind := 0x01, src := q.val, dig := leBytes 8 tail } s
    let y := { x with tail := tail }
    some (s.setSq q.val (if x.state == .idle && !y.isEmpty then { y with state := .active } else y))

/-- A write of GFE_SQACT (10 R290, R291): a core that its self-test keeps stopped counts for the partition that it lies in,
whatever ran on it last (14 R406). -/
def writeSqAct (q : SqId) (v : Word) (s : State) : Option State :=
  let x := s.sq q.val
  let c := s.ctx x.context.val
  let failed (i : Nat) : Bool := s.rst.failedCores.contains (Fin.ofNat 256 i)
  let stopped := (s.cores.rows.any fun r => r.2.isStopped && r.2.context == x.context && !failed r.1)
    || s.rst.failedCores.any fun i => c.hasCore i.val
  if (bitAt v 0 && (x.state != .halted || stopped)) || (bitAt v 1 && x.state != .stalledCpl) then none
  else if bitAt v 0 then some (s.setSq q.val { x with state := x.settled, fetchErr := false })
  else if bitAt v 1 then some (ackQueue q s)
  else some s

/-- A write of GFE_CQBASE (10 R268). -/
def writeCqBase (m : CqId) (v : Word) (s : State) : Option State :=
  let x := s.cq m.val
  if x.enabled then none else some (s.setCq m.val { x with base := v })

/-- A write of GFE_CQCTL (10 R268). -/
def writeCqCtl (m : CqId) (v : Word) (s : State) : Option State :=
  let x := s.cq m.val
  let size := bitsAt v 4 5
  if size < 4 || size > 16 then none
  else if x.enabled then
    let named := s.sqs.rows.any fun r => r.2.enabled && r.2.completion == m
    if !bitAt v 0 && !named then some (s.setCq m.val { x with ctl := v }) else none
  else if bitAt v 0 then some (s.setCq m.val { x with ctl := v, head := 0, tail := 0, phase := true })
  else some (s.setCq m.val { x with ctl := v })

/-- A write of GFE_CQHEAD (10 R268). -/
def writeCqHead (m : CqId) (v : Word) (s : State) : Option State :=
  let x := s.cq m.val
  if bitsAt v 0 16 ≥ x.size then none else some (s.setCq m.val { x with head := bitsAt v 0 16 })

/-! ## The host port, frames, the fabric, mailboxes -/

/-- A write of HIF_VFMAP (13 R367, R380). -/
def writeVfMap (vf : CtxId) (v : Word) (s : State) : Option State :=
  let new : CtxId := Fin.ofNat 64 (bitsAt v 1 6)
  let taken := bitAt v 0 && allCtxs.any fun j => j != vf && boundCtx s j == some new
  let busyOld := match boundCtx s vf with
    | some k => !(queuesOf s k).isEmpty
    | none => false
  let busyNew := bitAt v 0 && !(queuesOf s new).isEmpty
  if vfLocked s vf || taken || busyOld || busyNew then none
  else some { s with host := { s.host with vfMap := s.host.vfMap.set 0 vf.val v } }

/-- The function that a completion queue's interrupts go to. -/
def cqFunction (s : State) (m : CqId) : CtxId := Fin.ofNat 64 (bitsAt (s.host.cqMap.get 0 m.val) 0 6)

/-- A write of HIF_CQMAP (13 R368, R380). -/
def writeCqMap (m : CqId) (v : Word) (s : State) : Option State :=
  let fn : CtxId := Fin.ofNat 64 (bitsAt v 0 6)
  if (s.cq m.val).enabled || vfLocked s (cqFunction s m) || (fn != 0 && (boundCtx s fn).isNone) then none
  else some { s with host := { s.host with cqMap := s.host.cqMap.set 0 m.val v } }

/-- A write of ATU_FRM (08 R222, R223). -/
def writeFramesWord (w : Nat) (v : Word) (s : State) : State :=
  s.setFrames (s.atu.frm.setAll 0 (List.range' (8 * w) 8) fun f => BitVec.ofNat 8 (v.toNat / 256 ^ (f % 8)))
    fun f => f / 8 == w

/-- A write of ATU_INV (08 R225). -/
def writeInv (v : Word) (s : State) : Option State :=
  if s.atu.invBusy || bitsAt v 6 2 = 3 then none
  else
    let a := s.atu
    let a := { a with invCtx := BitVec.ofNat 6 (bitsAt v 0 6), invScope := BitVec.ofNat 2 (bitsAt v 6 2) }
    some { s with atu := { a with invVa := BitVec.ofNat 24 (bitsAt v 32 24), invBusy := bitAt v 8 } }

/-- A write of DLK_CTL (09 R259). -/
def writeDlkCtl (k : ClusterId) (v : Word) (s : State) : Option State :=
  let old := s.dlkCtl.get dlkReset k.val
  if bitsAt v 8 24 > 0x989680 then none
  else some { s with dlkCtl := s.dlkCtl.set dlkReset k.val (keepZero old v 8 24) }

/-- A write of FAB_CTL: its fields, then the commit (12 R323, R349). -/
def writeFabCtl (v : Word) (s : State) : Option State :=
  let e2e := bitsAt v 8 24
  let ecn := bitsAt v 32 16
  if (decide (0 < e2e) && decide (e2e < 0x64)) || decide (e2e > 0x989680) || decide (ecn > 0x7000) || bitsAt v 48 8 == 0xFF
  then none
  else
    let kept := keepZero s.fab.ctl (keepZero s.fab.ctl (keepZero s.fab.ctl v 8 24) 32 16) 48 8
    let s := { s with fab := { s.fab with ctl := setBits kept 0 1 0 } }
    some (if bitAt v 0 then commitTable s else s)

/-- The staged table changed. -/
def stageTable (f : Topo → Topo) (s : State) : State := { s with fab := { s.fab with staged := f s.fab.staged } }

/-- A write of the request window: none while a request is held or in progress (17 R472). -/
def writeMail (m : Fin 19) (w : Nat) (v : Word) (s : State) : Option State :=
  let x := s.proc m.val
  if x.busy then none
  else some (s.setProc m.val { x with
    req := x.req.setAll 0 (List.range' (8 * w) 8) fun i => BitVec.ofNat 8 (v.toNat / 256 ^ (i % 8)) })

/-! ## Cores (02 R57, 04 R113, 05 R141) -/

/-- A write of a numeric count: none while the core executes a context, and none for the reserved value (02 R57). A core that a fault
or its context has stopped neither executes nor is idle; the write is refused there too (DESIGN CHOICE, log entry 165). -/
def writeNtm (c : CoreId) (i : Fin 4) (v : Word) (s : State) : Option State :=
  let x := s.core c.val
  if x.seqState != .idle || v = BitVec.allOnes 64 then none
  else
    let y : CoreSt := match i with
      | 0 => { x with ntmSat := v }
      | 1 => { x with ntmFlush := v }
      | 2 => { x with ntmNan := v }
      | 3 => { x with ntmInf := v }
    some (s.setCore c.val y)

/-- A write of NTM_CTL (02 R57). -/
def writeNtmCtl (c : CoreId) (v : Word) (s : State) : Option State :=
  let x := s.core c.val
  if x.seqState != .idle then none
  else if bitAt v 0 then
    some (s.setCore c.val { x with ntmSat := 0, ntmFlush := 0, ntmNan := 0, ntmInf := 0, ntmStat := 0 })
  else some s

/-- A write of STB_CTL (04 R113): en with a count arms a capture of the engine it names; a count of 0 arms nothing. -/
def writeStbCtl (c : CoreId) (v : Word) (s : State) : Option State :=
  let x := s.core c.val
  let n := bitsAt v 32 16
  if coreSecret s c || bitsAt v 8 5 > 0x0F || n = 0xFFFF then none
  else
    let arms := bitAt v 0 && decide (n ≠ 0)
    let armed := arms || (bitAt v 0 && bitAt x.stbCtl 48)
    let captured := bitAt x.stbCtl 49 && !bitAt v 49
    let w := setBits (setBits (keepZero x.stbCtl v 32 16) 48 1 armed.toNat) 49 1 captured.toNat
    let y := { x with stbCtl := w }
    let e : EngId := Fin.ofNat 4 (bitsAt v 4 2)
    some (s.setCore c.val (if arms then y.setEngine e { y.engine e with stbCount := 0 } else y))

/-! ## Protection (19 R506, R507, 21 R551) -/

/-- A write of PRT_LOCK: dbg_en until the lock, then the lock. -/
def writePrt (v : Word) (s : State) : State :=
  { s with sec := { s.sec with
    dbgEn := if s.sec.locked then s.sec.dbgEn else bitAt v 2
    locked := s.sec.locked || bitAt v 0 } }

/-- An entry that CSP_OWN takes: the derived code only where a derivation is given, else no owner or an initiator whose
class may own the page. -/
def ownLegal (page : Nat) (e : BitVec 32) : Bool :=
  let code := field e.toNat 0 8
  if code = ownerDerived then bootOwner page == some ownerDerived
  else if code = ownerNone then true
  else match initiatorOf code 0 with
    | some i => (field e.toNat 16 16).testBit (1 + 2 * iniClass i)
    | none => false

/-- An entry as it is kept: RES0 bits zero, and the qualifier of code 0x21 alone. -/
def ownKept (e : BitVec 32) : BitVec 32 :=
  if field e.toNat 0 8 = 0x21 then e &&& 0xFFFF3FFF else e &&& 0xFFFF00FF

/-- A write of CSP_OWN: the entries it covers, all or none; after the lock it changes nothing (00 R9). -/
def writeOwners (w : Nat) (cover : Cover) (v : Word) (s : State) : Option State :=
  if s.sec.locked then some s
  else
    let lo : BitVec 32 := v.setWidth 32
    let hi : BitVec 32 := (v >>> 32).setWidth 32
    if (cover.low && !ownLegal (2 * w) lo) || (cover.high && !ownLegal (2 * w + 1) hi) then none
    else
      let t := if cover.low then s.own.set none (2 * w) (some (ownKept lo)) else s.own
      some { s with own := if cover.high then t.set none (2 * w + 1) (some (ownKept hi)) else t }

/-- CSP_RFL.valid cleared, with more and count (21 R556). -/
def clearRefusals (v : Word) (s : State) : State :=
  if bitAt v 46 then { s with cspRfl := s.cspRfl &&& maskAt 0 46 } else s

/-! ## All registers -/

/-- The effect of a write whose RES0 bits are in order, by a writer who may write the register; none where the register's
own rules refuse it. A register not named here is read-only: the write completes without effect (00 R9). -/
def writeField (ini : Initiator) (r : Reg) (cover : Cover) (v : Word) (s : State) : Option State :=
  match r with
  | .rfl => some (clearRefusals v s)
  | .ckg => writeCkg v s
  | .plbStat => some (if bitAt v 1 then { s with plumb := { s.plumb with lost := false } } else s)
  | .fth => writeFth v s
  | .prt => some (writePrt v s)
  | .rstChip => writeRstChip v s
  | .intCtl => writeIntCtl v s
  | .intStat => some (if bitAt v 1 then { s with bst := { s.bst with late := false } } else s)
  | .errHead => some { s with err := { s.err with head := bitsAt v 0 10 } }
  | .errStat => some (if bitAt v 11 then { s with err := { s.err with ovf := false, lost := .empty } } else s)
  | .pwl => some (if bitAt v 4 then { s with power := { s.power with dutyAct := false } } else s)
  | .dlkStat => some { s with dlkStat := s.dlkStat &&& ~~~(v &&& maskAt 0 2) }
  | .hifStat => some (if bitAt v 8 then { s with host := { s.host with downEv := false } } else s)
  | .evVec => some { s with host := { s.host with evVec := v } }
  | .vfMap vf => writeVfMap vf v s
  | .cqMap m => writeCqMap m v s
  | .ethCtl p => writeEthCtl p.val v s
  | .ethFm => some (if s.sec.locked then s else { s with ethFm := bitAt v 0 })
  | .ethFma0 => some (if s.sec.locked then s else { s with ethFma0 := v })
  | .ethFma1 => some (if s.sec.locked then s else { s with ethFma1 := v })
  | .qpDoorbell q => writeQpDoorbell q.val v s
  | .qpWord q w => writeQpWord q.val w cover.low v s
  | .flashCtl i => writeFlashCtl i.val (ini == .security) v s
  | .flashAddr i => some (s.setFlashSlot i.val { s.flashSlot i.val with addr := v &&& maskAt 12 33 })
  | .flashOff i => some (s.setFlashSlot i.val { s.flashSlot i.val with off := v &&& maskAt 0 31 })
  | .flashSem i => some (s.setFlashSlot i.val { s.flashSlot i.val with sem := v })
  | .frames w => some (writeFramesWord w v s)
  | .invalidate => writeInv v s
  | .owners w => writeOwners w cover v s
  | .apbCtl p => writeApbCtl p v s
  | .apbStat p =>
    let x := s.port p.val
    some (s.setPort p.val { x with
      degr := x.degr && !bitAt v 12, qev := x.qev && !bitAt v 13, downEv := x.downEv && !bitAt v 14
      peerReset := x.peerReset && !bitAt v 15 })
  | .topg => if bitsAt v 32 32 = 0xFFFFFFFF then none else some (stageTable (fun t => { t with topg := v }) s)
  | .topm => some (stageTable (fun t => { t with topm := v }) s)
  | .fabCtl => writeFabCtl v s
  | .fabStat => some (if bitAt v 32 then { s with fab := { s.fab with commitRej := false } } else s)
  | .fabPort p => some (stageTable (fun t => { t with port := t.port.set Topo.noPort p.val v }) s)
  | .fabJob0 j => some (stageTable (fun t => { t with job0 := t.job0.set 0 j.val v }) s)
  | .fabJob1 j => some (stageTable (fun t => { t with job1 := t.job1.set 0 j.val v }) s)
  | .fabExc i => some (stageTable (fun t => { t with exc := t.exc.set 0 i.val v }) s)
  | .mailReq m w => writeMail m w v s
  | .mailDb m => writeDoorbell m.val v s
  | .mailStat m => some (if bitAt v 1 then s.setProc m.val { s.proc m.val with rspNew := false } else s)
  | .kick m => some (if bitAt v 0 then s.setProc m.val { s.proc m.val with lastKick := s.clk } else s)
  | .gfeCtx k => writeGfeCtx k v s
  | .atuPtb k => writePtb k v s
  | .gfeBdt k => writeGfeBdt k v s
  | .semAllot k => writeSemAllot k v s
  | .rstCtx k => writeRstCtx k v s
  | .atuFlt k =>
    let c := s.ctx k.val
    some (if bitAt v 45 then s.setCtx k.val { c with atuFlt := setBits c.atuFlt 45 1 0 } else s)
  | .jnlCtl k => writeJnlCtl k v s
  | .jnlBase k => writeJnlBase k v s
  | .jnlHead k => writeJnlHead k v s
  | .jnlStat k => some (if bitAt v 25 then s.setCtx k.val { s.ctx k.val with jnlGap := false } else s)
  | .sqDoorbell q => writeDoorbellSq q v s
  | .sqBase q => writeSqBase q v s
  | .sqCtl q => writeSqCtl q v s
  | .sqAct q => writeSqAct q v s
  | .cqBase m => writeCqBase m v s
  | .cqCtl m => writeCqCtl m v s
  | .cqHead m => writeCqHead m v s
  | .sem _ => none
  | .dlkCtl k => writeDlkCtl k v s
  | .ntm c i => writeNtm c i v s
  | .ntmCtl c => writeNtmCtl c v s
  | .ntmStat c => some (s.setCore c.val { s.core c.val with ntmStat := (s.core c.val).ntmStat &&& ~~~(v &&& maskAt 0 4) })
  | .stbCtl c => writeStbCtl c v s
  | .stpStat c => some (if bitAt v 1 then s.setCore c.val { s.core c.val with stpMism := false } else s)
  | _ => some s

/-- A write as its register's chapter judges it: a checked register refuses a RES0 bit that is set (01 R29). -/
def writeReg (ini : Initiator) (r : Reg) (cover : Cover) (v : Word) (s : State) : Option State :=
  if v &&& res0 r ≠ 0 then none else writeField ini r cover v s

/-- The paths that close to a write (19 R515, 04 R113, 16 R460). -/
def writeClosed (s : State) (r : Reg) (v : Word) : Bool :=
  match r with
  | .stbCtl c => coreSecret s c
  | .flashCtl _ => bitAt v 0 && (s.ctx (bitsAt v 2 6)).conf
  | _ => false

end Sys2Proof.Machine
end

