-- ==== Sys2Proof/Machine/ControlSpace.lean ====
section
/-! DEFINITION. Accesses to control space: who may make them, the refusals and their record, and the commands that are
accesses (21 R549 to R557, R561, 12 R350, 13 R365, R366, R384). -/

namespace Sys2Proof.Machine

/-! ## Initiators at work (R550, 19 R507, R509) -/

/-- Control space answers: the die runs, and its boot has not failed (18 R495). -/
def spaceUp (s : State) : Bool := portsRun s && s.boot.result != 3 && !s.boot.recovery

/-- The debug access port answers (19 R507, R515). -/
def debugUp (s : State) : Bool := s.sec.dbgEn && !allCtxs.any fun k => (s.ctx k.val).conf

/-- A selective IDE stream is active (19 R509). -/
def selectiveIde (s : State) : Bool := s.host.ideSel.rows.any fun r => r.2

/-- Whom an access belongs to: a host request without a selective IDE stream is the host's (19 R509). -/
def actualInitiator (s : State) (ini : Initiator) : Initiator :=
  match ini with
  | .hostTee vf => if selectiveIde s then .hostTee vf else .host
  | i => i

/-- The initiator can reach control space now (DESIGN CHOICE, log entry 12). -/
def iniUp (s : State) (ini : Initiator) : Bool :=
  spaceUp s && match ini with
    | .security => !(s.proc 0).down
    | .power => !(s.proc 1).down
    | .scheduler => !(s.proc 2).down
    | .clusterCtl k => !(s.proc (3 + k.val)).down
    | .host => s.host.up
    | .hostTee _ => s.host.up
    | .fabricManager => true
    | .debug => debugUp s

/-! ## Owners (R549, R551, R552) -/

/-- The owner of page A of a context. -/
def pageAOwner (s : State) (k : CtxId) : Option Initiator := some (if (s.ctx k.val).conf then .security else .host)

/-- The owner of page B of a context: the host, or the host TEE of the bound VF. -/
def pageBOwner (s : State) (k : CtxId) : Option Initiator :=
  if (s.ctx k.val).conf then (vfOf s k).map Initiator.hostTee else some .host

/-- The owner of a completion queue's entries. -/
def cqOwner (s : State) (m : CqId) : Option Initiator :=
  let fn := cqFunction s m
  if fn = 0 then some .host else (boundCtx s fn).bind (pageBOwner s)

/-- The owner of a derived register that an access with value `v` would reach (R552). -/
def derivedOwner (s : State) (off : Nat) (v : Word) : Option Initiator :=
  match regAt off with
  | .sqDoorbell q => pageBOwner s (s.sq q.val).context
  | .sqBase q => pageBOwner s (s.sq q.val).context
  | .sqCtl q => pageBOwner s (s.sq q.val).context
  | .sqStat q => pageBOwner s (s.sq q.val).context
  | .sqAct q => pageBOwner s (s.sq q.val).context
  | .cqBase m => cqOwner s m
  | .cqCtl m => cqOwner s m
  | .cqHead m => cqOwner s m
  | .cqStat m => cqOwner s m
  | .qpDoorbell q => pageBOwner s (s.qp q.val).ctx
  | .qpWord q _ => pageBOwner s (s.qp q.val).ctx
  | .invalidate => pageBOwner s (Fin.ofNat 64 (bitsAt v 0 6))
  | _ =>
    if 0x400000 ≤ off && off < 0x800000 then
      let k : CtxId := Fin.ofNat 64 ((off - 0x400000) / 0x10000)
      if off % 0x10000 < 0x1000 then pageAOwner s k else pageBOwner s k
    else if 0x8000000 ≤ off then pageBOwner s (s.core ((off - 0x8000000) / 0x80000 % 256)).context
    else if off / 4096 = 0x71 then pageBOwner s s.atu.invCtx.toFin
    else none

/-- The owner of what stands at an offset. -/
def ownerAt (s : State) (off : Nat) (v : Word) : Option Initiator :=
  let e := (ownEntry s (off / 4096)).toNat
  if field e 0 8 = ownerDerived then derivedOwner s off v else initiatorOf (field e 0 8) (field e 8 6)

/-- A write that moves an entry to another context must come from its owner under the new value too (R552; of a queue pair's entry
DEDUCED, log entry 172). -/
def newOwner (s : State) (off : Nat) (v : Word) : Option (Option Initiator) :=
  match regAt off with
  | .sqCtl _ => some (pageBOwner s (Fin.ofNat 64 (bitsAt v 4 6)))
  | .qpWord _ 0 => some (pageBOwner s (Fin.ofNat 64 (bitsAt v 8 8)))
  | _ => none

/-- The context page that an offset lies in. -/
def viaPage (off : Nat) : Option CtxId :=
  if 0x400000 ≤ off && off < 0x800000 then some (Fin.ofNat 64 ((off - 0x400000) / 0x10000)) else none

/-- A queue access through a context page reaches the page's own queues alone (R549). -/
def pageAllows (s : State) (off : Nat) (write : Bool) (v : Word) : Bool :=
  match viaPage off with
  | none => true
  | some k =>
    let mine (q : SqId) : Bool := (s.sq q.val).context == k
    let own (m : CqId) : Bool := cqFunction s m != 0 && boundCtx s (cqFunction s m) == some k
    match regAt off with
    | .sqDoorbell q => mine q
    | .sqBase q => mine q
    | .sqCtl q => mine q && (!write || bitsAt v 4 6 == k.val)
    | .sqStat q => mine q
    | .sqAct q => mine q
    | .cqBase m => own m
    | .cqCtl m => own m
    | .cqHead m => own m
    | .cqStat m => own m
    | _ => true

/-- The access is its owner's (R553 condition 2). -/
def owns (s : State) (ini : Initiator) (off : Nat) (write : Bool) (v : Word) : Bool :=
  pageAllows s off write v && ownerAt s off v == some ini
    && (!write || match newOwner s off v with | some o => o == some ini | none => true)

/-! ## Judgement (R548, R553, R556) -/

/-- Why an access is refused (R556). -/
abbrev whyOwner : Nat := 1
/-- Why. -/
abbrev whyMatrix : Nat := 2
/-- Why. -/
abbrev whyRules : Nat := 3
/-- Why. -/
abbrev whyUnmapped : Nat := 4
/-- Why. -/
abbrev whyClosed : Nat := 5

/-- A write: the state after it, or why it is refused. -/
def judgeWrite (ini : Initiator) (off : Nat) (cover : Cover) (v : Word) (s : State) : Except Nat State :=
  let r := regAt off
  let w := mergedValue s r cover v
  if (bootOwner (off / 4096)).isNone then .error whyUnmapped
  else if !owns s ini off true w then .error whyOwner
  else if ini != .security && writeClosed s r w then .error whyClosed
  else match writeReg ini r cover w s with
    | some s' => .ok s'
    | none => .error whyRules

/-- The matrix lets a class read a page; every initiator reads CSP_OWN (R551, R553). -/
def readAllowed (s : State) (ini : Initiator) (off : Nat) : Bool :=
  (0xC00 ≤ off / 4096 && off / 4096 < 0xC40) || (field (ownEntry s (off / 4096)).toNat 16 16).testBit (2 * iniClass ini)

/-- A read of 8 bytes: the value, or why it is refused. -/
def judgeRead (ini : Initiator) (off : Nat) (s : State) : Except Nat Word :=
  let r := regAt off
  if (bootOwner (off / 4096)).isNone then .error whyUnmapped
  else if !pageAllows s off false 0 then .error whyOwner
  else if !owns s ini off false (readReg s r) && !readAllowed s ini off then .error whyMatrix
  else if ini != .security && readClosed s r then .error whyClosed
  else if readRefused s r then .error whyRules
  else .ok (seenReg s ini r)

/-- Where CSP_RFL.count stops. -/
abbrev refusalTop : Nat := 0xFFFE

/-- A refusal enters CSP_RFL (R556). -/
def noteRefusal (ini : Initiator) (off : Nat) (write : Bool) (why : Nat) (s : State) : State :=
  let w := s.cspRfl
  let count := putAt 48 (satTo refusalTop (bitsAt w 48 16 + 1))
  if bitAt w 46 then { s with cspRfl := (w &&& maskAt 0 48) ||| flagAt 47 true ||| count }
  else
    let place := putAt 0 (off % 2 ^ 28) ||| flagAt 28 write ||| putAt 29 why
    let who := putAt 32 (iniCode ini) ||| putAt 40 (iniQual ini)
    { s with cspRfl := place ||| who ||| flagAt 46 true ||| count }

/-- A write performed, or refused and recorded; whether it was performed. -/
def csWrite (ini : Initiator) (off : Nat) (cover : Cover) (v : Word) (s : State) : Bool × State :=
  match judgeWrite ini (off / 8 * 8) cover v s with
  | .ok s' => (true, s')
  | .error why => (false, noteRefusal ini off true why s)

/-- A read performed, or refused and recorded. -/
def csRead (ini : Initiator) (off : Nat) (s : State) : Option Word × State :=
  match judgeRead ini (off / 8 * 8) s with
  | .ok v => (some v, s)
  | .error why => (none, noteRefusal ini off false why s)

/-! ## Accesses of the initiators (R366, R555, R561) -/

/-- An access of 4 or 8 bytes, naturally aligned (13 R366). -/
def sizeLegal (off size : Nat) : Bool := (size == 4 || size == 8) && off % size == 0

/-- The halves that an access covers. -/
def coverOf (off size : Nat) : Cover := if size = 8 then ⟨true, true⟩ else ⟨off % 8 == 0, off % 8 != 0⟩

/-- All of a register. -/
abbrev fullCover : Cover := ⟨true, true⟩

/-- A value as it lies in its 8 bytes. -/
def placedValue (off size : Nat) (v : Word) : Word :=
  if size = 8 then v else if off % 8 = 0 then v &&& maskAt 0 32 else v <<< 32

/-- How a refused write is answered: the firmware processors and the debug port see it; the host's write is discarded; the
fabric manager's reply is a packet of its own (R555). -/
def answerRefusedWrite (ini : Initiator) (s : State) : State :=
  match ini with
  | .host => s
  | .hostTee _ => s
  | .fabricManager => s
  | i => s.emit (.readReply i 0 true)

/-- A write of 4 or 8 bytes by an initiator: the host's with another size or alignment is discarded with a record (13 R366),
any other's is not performed. -/
def writeBy (ini : Initiator) (off size : Nat) (v : Word) (s : State) : State :=
  let i := actualInitiator s ini
  if !iniUp s i then s
  else if !sizeLegal off size then
    match i with
    | .host => hostRecord off hostMmio s
    | .hostTee _ => hostRecord off hostMmio s
    | _ => answerRefusedWrite i s
  else
    let r := csWrite i off (coverOf off size) (placedValue off size v) s
    if r.1 then r.2 else answerRefusedWrite i r.2

/-- A write of a whole register. -/
def writeWhole (ini : Initiator) (off : Nat) (v : Word) (s : State) : Answer := .next (writeBy ini off 8 v s)

/-- The offset of a queue register `o`, through a context page or the global queue area (R547). -/
def queueOff (page : Option CtxId) (o : Nat) : Nat :=
  match page with
  | some k => 0x400000 + 0x10000 * k.val + o
  | none => 0x80000 + o

/-- The offset of a register of a context page. -/
def ctxOff (k : CtxId) (o : Nat) : Nat := 0x400000 + 0x10000 * k.val + o

/-- The offset of a register of a core block. -/
def coreOff (c : CoreId) (o : Nat) : Nat := 0x8000000 + 0x80000 * c.val + o

/-- The offset in control space of a host access to BAR0 of the PF, or of a VF: of the page of the context bound to it, none while it is unbound (13 R365). The other initiators name control space itself. -/
def barOffset (s : State) (ini : Initiator) (a : SpaceAddr) : Option Nat :=
  match a.bar, ini with
  | some vf, .host => (boundCtx s vf).map fun k => ctxOff k (a.off % 0x10000)
  | some vf, .hostTee _ => (boundCtx s vf).map fun k => ctxOff k (a.off % 0x10000)
  | _, _ => some a.off

/-- REGISTER_WRITE (R553, R561, 13 R365, R366). -/
def execRegisterWrite (ini : Initiator) (a : SpaceAddr) (size : Nat) (value : Word) (s : State) : Answer :=
  match barOffset s ini a with
  | some o => .next (writeBy ini o size value s)
  | none => .next (if sizeLegal a.off size then s else writeBy ini a.off size value s)

/-! ## Queues and contexts (chapter 10) -/

/-- DOORBELL: a write of GFE_SQDB (10 R267). -/
def execDoorbell (ini : Initiator) (page : Option CtxId) (sq : SqId) (value : Word) (s : State) : Answer :=
  writeWhole ini (queueOff page (0x2000 + 8 * sq.val)) value s

/-- SQ_ENABLE: a write of GFE_SQCTL (10 R266). -/
def execSqEnable (ini : Initiator) (page : Option CtxId) (sq : SqId) (value : Word) (s : State) : Answer :=
  writeWhole ini (queueOff page (0x4008 + 32 * sq.val)) value s

/-- CQ_ENABLE: a write of GFE_CQCTL (10 R268). -/
def execCqEnable (ini : Initiator) (page : Option CtxId) (cq : CqId) (value : Word) (s : State) : Answer :=
  writeWhole ini (queueOff page (0xC008 + 32 * cq.val)) value s

/-- RESUME: GFE_SQACT.resume (10 R291). -/
def execResume (ini : Initiator) (page : Option CtxId) (sq : SqId) (s : State) : Answer :=
  writeWhole ini (queueOff page (0x4018 + 32 * sq.val)) 1 s

/-- SQ_ACK: GFE_SQACT.ack (10 R290). -/
def execSqAck (ini : Initiator) (page : Option CtxId) (sq : SqId) (s : State) : Answer :=
  writeWhole ini (queueOff page (0x4018 + 32 * sq.val)) 2 s

/-- GFE_CTX_ENABLE: a write of GFE_CTX (10 R262). -/
def execGfeCtxEnable (ini : Initiator) (ctx : CtxId) (value : Word) (s : State) : Answer :=
  writeWhole ini (ctxOff ctx 0) value s

/-- GFE_CTX_DISABLE: a write of GFE_CTX (10 R263). -/
def execGfeCtxDisable (ini : Initiator) (ctx : CtxId) (value : Word) (s : State) : Answer :=
  writeWhole ini (ctxOff ctx 0) value s

/-- SEM_ALLOT_ENABLE: a write of SEM_ALLOT (09 R245). -/
def execSemAllotEnable (ini : Initiator) (ctx : CtxId) (value : Word) (s : State) : Answer :=
  writeWhole ini (ctxOff ctx 0x1008) value s

/-- CONTEXT_RESET: RST_CTX.req 0b01 (14 R397, R414). -/
def execContextReset (ini : Initiator) (ctx : CtxId) (s : State) : Answer := writeWhole ini (ctxOff ctx 0x1010) 1 s

/-- PARTITION_RESET: RST_CTX.req 0b10. -/
def execPartitionReset (ini : Initiator) (ctx : CtxId) (s : State) : Answer := writeWhole ini (ctxOff ctx 0x1010) 2 s

/-- CORE_RESET: RST_CTX.req 0b11 with its core. -/
def execCoreReset (ini : Initiator) (ctx : CtxId) (core : CoreId) (s : State) : Answer :=
  writeWhole ini (ctxOff ctx 0x1010) (putAt 0 3 ||| putAt 8 core.val) s

/-- JOURNAL_ENABLE: a write of JNL_CTL (16 R466, R468). -/
def execJournalEnable (ini : Initiator) (ctx : CtxId) (value : Word) (s : State) : Answer :=
  writeWhole ini (ctxOff ctx 0x1020) value s

/-! ## The die -/

/-- CHIP_RESET: a write of RST_CHIP (14 R415). -/
def execChipReset (ini : Initiator) (value : Word) (s : State) : Answer := writeWhole ini 0x5000 value s

/-- ACLK_REQUEST: a write of CKG_ACLK (01 R29). -/
def execAclkRequest (ini : Initiator) (value : Word) (s : State) : Answer := writeWhole ini 0x1000 value s

/-- STB_ARM: a write of STB_CTL (04 R113). -/
def execStbArm (ini : Initiator) (c : CoreId) (value : Word) (s : State) : Answer :=
  writeWhole ini (coreOff c 0x40) value s

/-- NTM_CLEAR: NTM_CTL.clear (02 R57). -/
def execNtmClear (ini : Initiator) (c : CoreId) (s : State) : Answer := writeWhole ini (coreOff c 0x20) 1 s

/-- The readers' latches with one reader's half replaced or, for none, gone (01 R32). -/
def setLatch (ini : Initiator) (v : Option (BitVec 32)) (s : State) : State :=
  let rest := s.plumb.latches.filter fun r => r.1 != ini
  { s with plumb := { s.plumb with latches := match v with | some h => rest ++ [(ini, h)] | none => rest } }

/-- What a reader of a half of PLB_NOW gets: the low half latches the high half for that reader, whose next read of the high
half returns the latched one (01 R32). -/
def readHalf (ini : Initiator) (high : Bool) (now : Word) (s : State) : Word × State :=
  let hi : BitVec 32 := (now >>> 32).setWidth 32
  if !high then (now &&& maskAt 0 32, setLatch ini (some hi) s)
  else match s.plumb.latches.find? fun r => r.1 == ini with
    | some (_, h) => (h.setWidth 64, setLatch ini none s)
    | none => (hi.setWidth 64, s)

/-- How a read of `size` bytes is answered (R555): a refused one gives the host all ones, the others the refusal. -/
def answerRead (ini : Initiator) (size : Nat) (v : Option Word) (s : State) : State :=
  match v, ini with
  | some v, _ => s.emit (.readReply ini v false)
  | none, .host => s.emit (.readReply ini (maskAt 0 (8 * size)) false)
  | none, .hostTee _ => s.emit (.readReply ini (maskAt 0 (8 * size)) false)
  | none, _ => s.emit (.readReply ini 0 true)

/-- The 4 or 8 bytes at an offset, of the value of the 8 bytes they lie in (R561); of PLB_NOW a half is the reader's (01 R32). -/
def readBytesOf (ini : Initiator) (off size : Nat) (w : Word) (s : State) : Word × State :=
  if size = 8 then (w, s)
  else if regAt (off / 8 * 8) = .plbNow then readHalf ini (off % 8 != 0) w s
  else ((if off % 8 = 0 then w else w >>> 32) &&& maskAt 0 32, s)

/-- A read of 4 or 8 bytes by an initiator: the host's of another size or alignment completes with Unsupported Request (13 R366), any
other's is refused. -/
def readBy (ini : Initiator) (off size : Nat) (s : State) : State :=
  let i := actualInitiator s ini
  if !iniUp s i then s
  else if !sizeLegal off size then
    match i with
    | .host => s.emit (.unsupportedRequest i)
    | .hostTee _ => s.emit (.unsupportedRequest i)
    | _ => s.emit (.readReply i 0 true)
  else
    let r := csRead i off s
    match r.1 with
    | some w =>
      if poisonRead s (regAt (off / 8 * 8)) then r.2.emit (.readPoisoned i)
      else
        let h := readBytesOf i off size w r.2
        answerRead i size (some h.1) h.2
    | none => answerRead i size none r.2

/-- PLB_NOW_READ, at PLB_NOW the read of 01 R32, and the read of any other register (R553, R561); a VF that is unbound reads as all
ones (13 R365). -/
def execPlbNowRead (ini : Initiator) (r : SpaceRead) (s : State) : Answer :=
  match barOffset s ini r.place with
  | some o => .next (readBy ini o r.size s)
  | none =>
    let i := actualInitiator s ini
    .next (if !sizeLegal r.place.off r.size || !iniUp s i then readBy ini r.place.off r.size s else answerRead i r.size none s)

/-- FRAME_WRITE: a write of one byte of ATU_FRM (08 R222, R223, 21 R561). -/
def execFrameWrite (ini : Initiator) (frame : Fin 1536) (value : BitVec 8) (s : State) : Answer :=
  let lo := 8 * (frame.val % 8)
  writeWhole ini (0x70000 + frame.val / 8 * 8) (setBits (framesWord s (frame.val / 8)) lo 8 value.toNat) s

/-- INVALIDATION_START: a write of ATU_INV (08 R225). -/
def execInvalidationStart (ini : Initiator) (value : Word) (s : State) : Answer := writeWhole ini 0x71000 value s

/-- A translation lies in the scope of the invalidation in progress (08 R225). -/
def inInvalidation (s : State) (t : CtxId × Nat × Nat) : Bool :=
  t.1.val == s.atu.invCtx.toNat && match s.atu.invScope.toNat with
    | 0 => true
    | 1 => t.2.1 == s.atu.invVa.toNat
    | _ => t.2.1 / 512 == s.atu.invVa.toNat / 512

/-- INVALIDATION_COMPLETE: busy falls, once every access that uses a translation in the scope has completed (08 R223, R225). -/
def execInvalidationComplete (s : State) : Answer :=
  .next (if s.translationsHeld.any (inInvalidation s) then s else { s with atu := { s.atu with invBusy := false } })

/-- FLASH_SLOT_START: a write of FLS_CTL (16 R460). -/
def execFlashSlotStart (ini : Initiator) (slot : Fin 4) (value : Word) (s : State) : Answer :=
  writeWhole ini (0x38000 + 32 * slot.val) value s

/-- OWNER_WRITE: a write of one entry of CSP_OWN (R551). -/
def execOwnerWrite (ini : Initiator) (page : Fin 65536) (value : BitVec 32) (s : State) : Answer :=
  .next (writeBy ini (0xC00000 + 4 * page.val) 4 (value.setWidth 64) s)

/-- PROTECTION_LOCK: a write of PRT_LOCK (19 R507). -/
def execProtectionLock (ini : Initiator) (value : Word) (s : State) : Answer := writeWhole ini 0x4000 value s

/-- VF_BIND: a write of HIF_VFMAP; VF 0 has none (13 R367). -/
def execVfBind (ini : Initiator) (vf : CtxId) (value : Word) (s : State) : Answer :=
  writeWhole ini (0x31000 + 8 * ((vf.val + 63) % 64)) value s

/-- FWD_KICK: a processor writes its kick register (R559). -/
def execFwdKick (m : Fin 19) (value : Word) (s : State) : Answer :=
  writeWhole (processorInitiator m) (0x220000 + 0x1000 * m.val) value s

/-- PORT_RETRAIN: a write of APB_CTL (11 R317). -/
def execPortRetrain (ini : Initiator) (p : PortId) (value : Word) (s : State) : Answer :=
  writeWhole ini (0x100000 + 0x1000 * p.val) value s

/-- APB_CLR: a write of APB_CTL (11 R317). -/
def execApbClr (ini : Initiator) (p : PortId) (value : Word) (s : State) : Answer :=
  writeWhole ini (0x100000 + 0x1000 * p.val) value s

/-- TABLE_COMMIT: a write of FAB_CTL (12 R323). -/
def execTableCommit (ini : Initiator) (value : Word) (s : State) : Answer := writeWhole ini 0x110010 value s

/-- ROCE_DOORBELL: a write of ETH_QPDB (16 R462). -/
def execRoceDoorbell (ini : Initiator) (qp : Fin 1024) (value : Word) (s : State) : Answer :=
  writeWhole ini (0x36000 + 8 * qp.val) value s

/-! ## The fabric manager's accesses (12 R350, 13 R384, R386) -/

/-- Subtypes of management traffic. -/
abbrev mgmtAccess : BitVec 16 := 2
/-- Subtype. -/
abbrev mgmtReply : Nat := 3

/-- The payload of a reply: the request's, with the status and the value. -/
def accessReply (p : Bytes) (done : Bool) (v : Word) : Bytes :=
  putLe (putLe p 9 1 (if done then 0 else 1)) 16 8 v.toNat

/-- An access of the fabric manager: the reply's payload, whether a write was performed, and the state. An access that is
not of 8 aligned bytes, or whose byte 8 says neither read nor write, is refused; so is the read of a word that has the poison
response, which this reply cannot carry (DESIGN CHOICE, log entry 164). -/
def managerAccess (p : Bytes) (s : State) : Bytes × State :=
  let p := p ++ zeros (24 - p.length)
  let off := leAt p 0 8
  let v := BitVec.ofNat 64 (leAt p 16 8)
  match leAt p 8 1 with
  | 0 =>
    if off % 8 ≠ 0 then (accessReply p false v, s)
    else
      let r := csRead .fabricManager off s
      match r.1 with
      | some x => (accessReply p (!poisonRead s (regAt off)) x, r.2)
      | none => (accessReply p false v, r.2)
  | 1 =>
    if off % 8 ≠ 0 then (accessReply p false v, s)
    else
      let r := csWrite .fabricManager off fullCover v s
      (accessReply p r.1 v, r.2)
  | _ => (accessReply p false v, s)

/-- CONTROL_SPACE_ACCESS: an MGMT packet of subtype 2 (12 R350). -/
def execControlSpaceAccess (a : Arrival) (s : State) : Answer :=
  checkedPkt ptMgmt a.port a.pkt s fun s =>
    if a.pkt.aux != mgmtAccess || !spaceUp s then s
    else
      let r := managerAccess a.pkt.payload s
      sendPkt { replyPkt ptMgmt a.pkt with aux := BitVec.ofNat 16 mgmtReply, payload := r.1 } r.2

/-- A write by datagram enters every enabled journal before it takes effect (13 R386, 16 R466, R467). -/
def journalDatagram (p : Bytes) (s : State) : State :=
  let i : Input := { kind := 0x08, addr := leAt p 0 8, len := 8, dig := leBytes 8 (leAt p 16 8) }
  allCtxs.foldl (fun s k => journalValue k i s) s

/-- The access of a datagram, whose write, if it is performed, the journals have first. -/
def datagramAccess (p : Bytes) (s : State) : Bytes × State :=
  let v := BitVec.ofNat 64 (leAt p 16 8)
  let off := leAt p 0 8
  let writes := leAt p 8 1 == 1 && off % 8 == 0 && (csWrite .fabricManager off fullCover v s).1
  managerAccess p (if writes then journalDatagram p s else s)

/-- MGMT_DATAGRAM: accepted from the fabric manager's address alone, and only while ETH_FM.v is 1; every other is dropped
and counted (13 R384). A frame's DSCP says that it is of the management class (13 R382; DEDUCED, log entry 171). -/
def execMgmtDatagram (at_ : EthArrival) (source : BitVec 128) (subtype : BitVec 16) (payload : Bytes) (s : State) : Answer :=
  let x := s.ethPort at_.port.val
  if !spaceUp s || !(x.up0 || x.up1) || at_.dscp.toNat ≠ tagManagement.dscp then .next s
  else if !s.ethFm || source != fmAddress s then
    .next (s.setEth at_.port.val { x with fmDrop := satTo 0xFFFFFE (x.fmDrop + 1) })
  else if subtype = mgmtAccess then
    let r := datagramAccess payload s
    .next (sendFrame at_.port.val tagManagement (.datagram (portMac s at_.port.val) (fmAddress s) r.1) r.2)
  else if subtype = mgmtPeerDown then .next (peerDown (BitVec.ofNat 16 (leAt payload 0 2)) s)
  else .next s

end Sys2Proof.Machine
end

