-- ==== Sys2Proof/Machine/LoadStore.lean ====
section
/-! DEFINITION. L class: scalar loads and stores, and descriptors (06 R151, R156, R157, 07 R182, R192, R193). -/

namespace Sys2Proof.Machine

/-- The trap of a scalar load or TDLD that reads a poisoned word (06 R157). -/
def poisonTrap (a : Nat) : Trap := { cause := causePoison, addr := a }

/-- A scalar load of `n` bytes, extended by `ext`. -/
def loadOp (i : Instr) (c : CoreId) (gd gs : GReg) (off : BitVec 32) (n : Nat) (ext : Nat → Word) (s : State) : Answer :=
  issue i c s fun v s =>
    let a := displaced (v.gread gs) off
    match scalarReach s v a n { r := true } with
    | .error t => .trap t s
    | .ok pa =>
      let r := scalarRead c pa n s
      if r.1.2 then .trap (poisonTrap a) (r.2.setCore c.val ((r.2.core c.val).sawPoison true))
      else .done (r.2.setCore c.val ((r.2.core c.val).gwrite gd (ext (leNat r.1.1))))

/-- Sign extension from `w` bits. -/
def signExt (w : Nat) (n : Nat) : Word := (BitVec.ofNat w n).signExtend 64
/-- Zero extension. -/
def zeroExt (n : Nat) : Word := BitVec.ofNat 64 n

/-- LD.B. -/
def execLdB (c : CoreId) (gd gs : GReg) (off : BitVec 32) (s : State) : Answer :=
  loadOp (.ldB c gd gs off) c gd gs off 1 (signExt 8) s
/-- LD.BU. -/
def execLdBu (c : CoreId) (gd gs : GReg) (off : BitVec 32) (s : State) : Answer :=
  loadOp (.ldBu c gd gs off) c gd gs off 1 zeroExt s
/-- LD.H. -/
def execLdH (c : CoreId) (gd gs : GReg) (off : BitVec 32) (s : State) : Answer :=
  loadOp (.ldH c gd gs off) c gd gs off 2 (signExt 16) s
/-- LD.HU. -/
def execLdHu (c : CoreId) (gd gs : GReg) (off : BitVec 32) (s : State) : Answer :=
  loadOp (.ldHu c gd gs off) c gd gs off 2 zeroExt s
/-- LD.W. -/
def execLdW (c : CoreId) (gd gs : GReg) (off : BitVec 32) (s : State) : Answer :=
  loadOp (.ldW c gd gs off) c gd gs off 4 (signExt 32) s
/-- LD.WU. -/
def execLdWu (c : CoreId) (gd gs : GReg) (off : BitVec 32) (s : State) : Answer :=
  loadOp (.ldWu c gd gs off) c gd gs off 4 zeroExt s
/-- LD.D. -/
def execLdD (c : CoreId) (gd gs : GReg) (off : BitVec 32) (s : State) : Answer :=
  loadOp (.ldD c gd gs off) c gd gs off 8 zeroExt s

/-- A scalar store of the low `n` bytes of gt. -/
def storeOp (i : Instr) (c : CoreId) (gs gt : GReg) (off : BitVec 32) (n : Nat) (s : State) : Answer :=
  issue i c s fun v s =>
    match scalarReach s v (displaced (v.gread gs) off) n { w := true } with
    | .error t => .trap t s
    | .ok pa => .done (scalarWrite c pa (leBytes n (v.gread gt).toNat) s)

/-- ST.B. -/
def execStB (c : CoreId) (gs gt : GReg) (off : BitVec 32) (s : State) : Answer := storeOp (.stB c gs gt off) c gs gt off 1 s
/-- ST.H. -/
def execStH (c : CoreId) (gs gt : GReg) (off : BitVec 32) (s : State) : Answer := storeOp (.stH c gs gt off) c gs gt off 2 s
/-- ST.W. -/
def execStW (c : CoreId) (gs gt : GReg) (off : BitVec 32) (s : State) : Answer := storeOp (.stW c gs gt off) c gs gt off 4 s
/-- ST.D. -/
def execStD (c : CoreId) (gs gt : GReg) (off : BitVec 32) (s : State) : Answer := storeOp (.stD c gs gt off) c gs gt off 8 s

/-- TDLD: 32 bytes, validated; a failing image leaves the register unchanged (R151, R192). -/
def execTdld (c : CoreId) (tn : TReg) (gs : GReg) (off : BitVec 32) (s : State) : Answer :=
  issue (.tdld c tn gs off) c s fun v s =>
    let a := displaced (v.gread gs) off
    match scalarReach s v a 32 { r := true } with
    | .error t => .trap t s
    | .ok pa =>
      let r := scalarRead c pa 32 s
      if r.1.2 then .trap (poisonTrap a) (r.2.setCore c.val ((r.2.core c.val).sawPoison true))
      else match parseTile (leNat r.1.1) with
        | .error d => .trap { cause := causeIllegalOperand, detail := d } r.2
        | .ok d => .done (r.2.setCore c.val ((r.2.core c.val).twrite tn d))

/-- TDST: an empty register faults and writes nothing (R193; DESIGN CHOICE, log entry 13 on the order of the checks). -/
def execTdst (c : CoreId) (tn : TReg) (gs : GReg) (off : BitVec 32) (s : State) : Answer :=
  issue (.tdst c tn gs off) c s fun v s =>
    match tileOperand v tn with
    | .error t => .trap t s
    | .ok d =>
      match scalarReach s v (displaced (v.gread gs) off) 32 { w := true } with
      | .error t => .trap t s
      | .ok pa => .done (scalarWrite c pa d.image s)

/-- TDADD: the base must stay 64-byte aligned (R151); sums are taken in the 48 bits of the field (DEDUCED, log entry 14). -/
def execTdadd (c : CoreId) (tn : TReg) (gs : GReg) (s : State) : Answer :=
  issue (.tdadd c tn gs) c s fun v s =>
    match tileOperand v tn with
    | .error t => .trap t s
    | .ok d =>
      let b := d.base + (v.gread gs).setWidth 48
      if b.toNat % 64 ≠ 0 then .trap { cause := causeAddress, detail := 0x01, addr := b.toNat } s
      else .done (s.setCore c.val ((s.core c.val).twrite tn { d with base := b }))

/-- TDADD.S: one signed value is added to sbase (R151). -/
def execTdaddS (c : CoreId) (tn : TReg) (gs : GReg) (s : State) : Answer :=
  issue (.tdaddS c tn gs) c s fun v s =>
    match tileOperand v tn with
    | .error t => .trap t s
    | .ok d => .done (s.setCore c.val ((s.core c.val).twrite tn { d with sbase := d.sbase + (v.gread gs).setWidth 48 }))

end Sys2Proof.Machine
end

