-- ==== Sys2Proof/Machine/Scalar.lean ====
section
/-! DEFINITION. G class: scalar integer instructions (06 Scalar integer, 07 R181). None faults on its values. -/

namespace Sys2Proof.Machine

/-- 1 or 0. -/
def boolWord (b : Bool) : Word := if b then 1 else 0

/-- An immediate sign-extended to 64 bits (07 R175). -/
def immWord (imm : BitVec 32) : Word := imm.signExtend 64

/-- gd ← f gs gt. -/
def gRegOp (i : Instr) (c : CoreId) (gd gs gt : GReg) (f : Word → Word → Word) (s : State) : Answer :=
  issueCore i c s fun v => v.gwrite gd (f (v.gread gs) (v.gread gt))

/-- gd ← f gs. -/
def gImmOp (i : Instr) (c : CoreId) (gd gs : GReg) (f : Word → Word) (s : State) : Answer :=
  issueCore i c s fun v => v.gwrite gd (f (v.gread gs))

/-- ADD. -/
def execAdd (c : CoreId) (gd gs gt : GReg) (s : State) : Answer :=
  gRegOp (.add c gd gs gt) c gd gs gt (fun a b => a + b) s
/-- SUB. -/
def execSub (c : CoreId) (gd gs gt : GReg) (s : State) : Answer :=
  gRegOp (.sub c gd gs gt) c gd gs gt (fun a b => a - b) s
/-- MUL. -/
def execMul (c : CoreId) (gd gs gt : GReg) (s : State) : Answer :=
  gRegOp (.mul c gd gs gt) c gd gs gt (fun a b => a * b) s
/-- MULH: the high half of the signed product. -/
def execMulh (c : CoreId) (gd gs gt : GReg) (s : State) : Answer :=
  gRegOp (.mulh c gd gs gt) c gd gs gt (fun a b => BitVec.ofInt 64 (a.toInt * b.toInt / 2 ^ 64)) s
/-- MULHU: the high half of the unsigned product. -/
def execMulhu (c : CoreId) (gd gs gt : GReg) (s : State) : Answer :=
  gRegOp (.mulhu c gd gs gt) c gd gs gt (fun a b => BitVec.ofNat 64 (a.toNat * b.toNat / 2 ^ 64)) s
/-- AND. -/
def execAnd (c : CoreId) (gd gs gt : GReg) (s : State) : Answer :=
  gRegOp (.and c gd gs gt) c gd gs gt (fun a b => a &&& b) s
/-- OR. -/
def execOr (c : CoreId) (gd gs gt : GReg) (s : State) : Answer :=
  gRegOp (.or c gd gs gt) c gd gs gt (fun a b => a ||| b) s
/-- XOR. -/
def execXor (c : CoreId) (gd gs gt : GReg) (s : State) : Answer :=
  gRegOp (.xor c gd gs gt) c gd gs gt (fun a b => a ^^^ b) s
/-- SLL: shift by gt[5:0]. -/
def execSll (c : CoreId) (gd gs gt : GReg) (s : State) : Answer :=
  gRegOp (.sll c gd gs gt) c gd gs gt (fun a b => a <<< (b.toNat % 64)) s
/-- SRL. -/
def execSrl (c : CoreId) (gd gs gt : GReg) (s : State) : Answer :=
  gRegOp (.srl c gd gs gt) c gd gs gt (fun a b => a >>> (b.toNat % 64)) s
/-- SRA. -/
def execSra (c : CoreId) (gd gs gt : GReg) (s : State) : Answer :=
  gRegOp (.sra c gd gs gt) c gd gs gt (fun a b => a.sshiftRight (b.toNat % 64)) s
/-- SLT. -/
def execSlt (c : CoreId) (gd gs gt : GReg) (s : State) : Answer :=
  gRegOp (.slt c gd gs gt) c gd gs gt (fun a b => boolWord (a.slt b)) s
/-- SLTU. -/
def execSltu (c : CoreId) (gd gs gt : GReg) (s : State) : Answer :=
  gRegOp (.sltu c gd gs gt) c gd gs gt (fun a b => boolWord (a.ult b)) s
/-- MIN. -/
def execMin (c : CoreId) (gd gs gt : GReg) (s : State) : Answer :=
  gRegOp (.min c gd gs gt) c gd gs gt (fun a b => if a.sle b then a else b) s
/-- MAX. -/
def execMax (c : CoreId) (gd gs gt : GReg) (s : State) : Answer :=
  gRegOp (.max c gd gs gt) c gd gs gt (fun a b => if a.sle b then b else a) s
/-- MINU. -/
def execMinu (c : CoreId) (gd gs gt : GReg) (s : State) : Answer :=
  gRegOp (.minu c gd gs gt) c gd gs gt (fun a b => if a.ule b then a else b) s
/-- MAXU. -/
def execMaxu (c : CoreId) (gd gs gt : GReg) (s : State) : Answer :=
  gRegOp (.maxu c gd gs gt) c gd gs gt (fun a b => if a.ule b then b else a) s
/-- ADDI. -/
def execAddi (c : CoreId) (gd gs : GReg) (imm : BitVec 32) (s : State) : Answer :=
  gImmOp (.addi c gd gs imm) c gd gs (fun a => a + immWord imm) s
/-- ANDI. -/
def execAndi (c : CoreId) (gd gs : GReg) (imm : BitVec 32) (s : State) : Answer :=
  gImmOp (.andi c gd gs imm) c gd gs (fun a => a &&& immWord imm) s
/-- ORI. -/
def execOri (c : CoreId) (gd gs : GReg) (imm : BitVec 32) (s : State) : Answer :=
  gImmOp (.ori c gd gs imm) c gd gs (fun a => a ||| immWord imm) s
/-- XORI. -/
def execXori (c : CoreId) (gd gs : GReg) (imm : BitVec 32) (s : State) : Answer :=
  gImmOp (.xori c gd gs imm) c gd gs (fun a => a ^^^ immWord imm) s
/-- SLTI. -/
def execSlti (c : CoreId) (gd gs : GReg) (imm : BitVec 32) (s : State) : Answer :=
  gImmOp (.slti c gd gs imm) c gd gs (fun a => boolWord (a.slt (immWord imm))) s
/-- SLLI. -/
def execSlli (c : CoreId) (gd gs : GReg) (sh : BitVec 6) (s : State) : Answer :=
  gImmOp (.slli c gd gs sh) c gd gs (fun a => a <<< sh.toNat) s
/-- SRLI. -/
def execSrli (c : CoreId) (gd gs : GReg) (sh : BitVec 6) (s : State) : Answer :=
  gImmOp (.srli c gd gs sh) c gd gs (fun a => a >>> sh.toNat) s
/-- SRAI. -/
def execSrai (c : CoreId) (gd gs : GReg) (sh : BitVec 6) (s : State) : Answer :=
  gImmOp (.srai c gd gs sh) c gd gs (fun a => a.sshiftRight sh.toNat) s
/-- MOVI. -/
def execMovi (c : CoreId) (gd : GReg) (imm : BitVec 32) (s : State) : Answer :=
  gImmOp (.movi c gd imm) c gd gd (fun _ => immWord imm) s
/-- MOVHI: gd[63:32] is replaced and gd[31:0] kept. -/
def execMovhi (c : CoreId) (gd : GReg) (imm : BitVec 32) (s : State) : Answer :=
  gImmOp (.movhi c gd imm) c gd gd (fun a => (imm ++ a.setWidth 32 : BitVec (32 + 32))) s

end Sys2Proof.Machine
end

