-- ==== Sys2Proof/Machine/Dispatch.lean ====
section
/-! DEFINITION. What each command does: one arm per command, each a direct call of its meaning. -/

namespace Sys2Proof.Machine

/-- The effect of a command on everything but the queue. -/
def exec (i : Instr) (s : State) : Host.Outcome State Fault Refusal :=
  match i with
  | .nop c => Sys2Proof.Machine.execNop c s
  | .j c off => Sys2Proof.Machine.execJ c off s
  | .jal c gd off => Sys2Proof.Machine.execJal c gd off s
  | .jr c gs => Sys2Proof.Machine.execJr c gs s
  | .beq c gs gt off => Sys2Proof.Machine.execBeq c gs gt off s
  | .bne c gs gt off => Sys2Proof.Machine.execBne c gs gt off s
  | .blt c gs gt off => Sys2Proof.Machine.execBlt c gs gt off s
  | .bge c gs gt off => Sys2Proof.Machine.execBge c gs gt off s
  | .bltu c gs gt off => Sys2Proof.Machine.execBltu c gs gt off s
  | .bgeu c gs gt off => Sys2Proof.Machine.execBgeu c gs gt off s
  | .endProg c => Sys2Proof.Machine.execEndProg c s
  | .illegalInstr c w => Sys2Proof.Machine.execIllegalInstr c w s
  | .fetchPoison c => Sys2Proof.Machine.execFetchPoison c s
  | .add c gd gs gt => Sys2Proof.Machine.execAdd c gd gs gt s
  | .sub c gd gs gt => Sys2Proof.Machine.execSub c gd gs gt s
  | .mul c gd gs gt => Sys2Proof.Machine.execMul c gd gs gt s
  | .mulh c gd gs gt => Sys2Proof.Machine.execMulh c gd gs gt s
  | .mulhu c gd gs gt => Sys2Proof.Machine.execMulhu c gd gs gt s
  | .and c gd gs gt => Sys2Proof.Machine.execAnd c gd gs gt s
  | .or c gd gs gt => Sys2Proof.Machine.execOr c gd gs gt s
  | .xor c gd gs gt => Sys2Proof.Machine.execXor c gd gs gt s
  | .sll c gd gs gt => Sys2Proof.Machine.execSll c gd gs gt s
  | .srl c gd gs gt => Sys2Proof.Machine.execSrl c gd gs gt s
  | .sra c gd gs gt => Sys2Proof.Machine.execSra c gd gs gt s
  | .slt c gd gs gt => Sys2Proof.Machine.execSlt c gd gs gt s
  | .sltu c gd gs gt => Sys2Proof.Machine.execSltu c gd gs gt s
  | .min c gd gs gt => Sys2Proof.Machine.execMin c gd gs gt s
  | .max c gd gs gt => Sys2Proof.Machine.execMax c gd gs gt s
  | .minu c gd gs gt => Sys2Proof.Machine.execMinu c gd gs gt s
  | .maxu c gd gs gt => Sys2Proof.Machine.execMaxu c gd gs gt s
  | .addi c gd gs imm => Sys2Proof.Machine.execAddi c gd gs imm s
  | .andi c gd gs imm => Sys2Proof.Machine.execAndi c gd gs imm s
  | .ori c gd gs imm => Sys2Proof.Machine.execOri c gd gs imm s
  | .xori c gd gs imm => Sys2Proof.Machine.execXori c gd gs imm s
  | .slti c gd gs imm => Sys2Proof.Machine.execSlti c gd gs imm s
  | .slli c gd gs sh => Sys2Proof.Machine.execSlli c gd gs sh s
  | .srli c gd gs sh => Sys2Proof.Machine.execSrli c gd gs sh s
  | .srai c gd gs sh => Sys2Proof.Machine.execSrai c gd gs sh s
  | .movi c gd imm => Sys2Proof.Machine.execMovi c gd imm s
  | .movhi c gd imm => Sys2Proof.Machine.execMovhi c gd imm s
  | .ldB c gd gs off => Sys2Proof.Machine.execLdB c gd gs off s
  | .ldBu c gd gs off => Sys2Proof.Machine.execLdBu c gd gs off s
  | .ldH c gd gs off => Sys2Proof.Machine.execLdH c gd gs off s
  | .ldHu c gd gs off => Sys2Proof.Machine.execLdHu c gd gs off s
  | .ldW c gd gs off => Sys2Proof.Machine.execLdW c gd gs off s
  | .ldWu c gd gs off => Sys2Proof.Machine.execLdWu c gd gs off s
  | .ldD c gd gs off => Sys2Proof.Machine.execLdD c gd gs off s
  | .stB c gs gt off => Sys2Proof.Machine.execStB c gs gt off s
  | .stH c gs gt off => Sys2Proof.Machine.execStH c gs gt off s
  | .stW c gs gt off => Sys2Proof.Machine.execStW c gs gt off s
  | .stD c gs gt off => Sys2Proof.Machine.execStD c gs gt off s
  | .tdld c tn gs off => Sys2Proof.Machine.execTdld c tn gs off s
  | .tdst c tn gs off => Sys2Proof.Machine.execTdst c tn gs off s
  | .tdadd c tn gs => Sys2Proof.Machine.execTdadd c tn gs s
  | .tdaddS c tn gs => Sys2Proof.Machine.execTdaddS c tn gs s
  | .mzero c e ai => Sys2Proof.Machine.execMzero c e ai s
  | .mzeroW c e ai => Sys2Proof.Machine.execMzeroW c e ai s
  | .mprime c e tW => Sys2Proof.Machine.execMprime c e tW s
  | .mswap c e => Sys2Proof.Machine.execMswap c e s
  | .mma c e ai r0 tA fmt grp prc => Sys2Proof.Machine.execMma c e ai r0 tA fmt grp prc s
  | .mdrain c e ai r0 tD gk gl fmt sr sat => Sys2Proof.Machine.execMdrain c e ai r0 tD gk gl fmt sr sat s
  | .mdrainF32x2 c e ai r0 tD gk gl => Sys2Proof.Machine.execMdrainF32x2 c e ai r0 tD gk gl s
  | .vadd c vd vs vt pk => Sys2Proof.Machine.execVadd c vd vs vt pk s
  | .vsub c vd vs vt pk => Sys2Proof.Machine.execVsub c vd vs vt pk s
  | .vmul c vd vs vt pk => Sys2Proof.Machine.execVmul c vd vs vt pk s
  | .vfma c vd vs vt vu pk => Sys2Proof.Machine.execVfma c vd vs vt vu pk s
  | .vdiv c vd vs vt pk => Sys2Proof.Machine.execVdiv c vd vs vt pk s
  | .vsqrt c vd vs pk => Sys2Proof.Machine.execVsqrt c vd vs pk s
  | .vmin c vd vs vt pk => Sys2Proof.Machine.execVmin c vd vs vt pk s
  | .vmax c vd vs vt pk => Sys2Proof.Machine.execVmax c vd vs vt pk s
  | .vabs c vd vs pk => Sys2Proof.Machine.execVabs c vd vs pk s
  | .vneg c vd vs pk => Sys2Proof.Machine.execVneg c vd vs pk s
  | .vaddI c vd vs vt pk => Sys2Proof.Machine.execVaddI c vd vs vt pk s
  | .vsubI c vd vs vt pk => Sys2Proof.Machine.execVsubI c vd vs vt pk s
  | .vmulI c vd vs vt pk => Sys2Proof.Machine.execVmulI c vd vs vt pk s
  | .vmulh c vd vs vt pk => Sys2Proof.Machine.execVmulh c vd vs vt pk s
  | .vmulhU c vd vs vt pk => Sys2Proof.Machine.execVmulhU c vd vs vt pk s
  | .vsll c vd vs vt pk => Sys2Proof.Machine.execVsll c vd vs vt pk s
  | .vsrl c vd vs vt pk => Sys2Proof.Machine.execVsrl c vd vs vt pk s
  | .vsra c vd vs vt pk => Sys2Proof.Machine.execVsra c vd vs vt pk s
  | .vand c vd vs vt pk => Sys2Proof.Machine.execVand c vd vs vt pk s
  | .vor c vd vs vt pk => Sys2Proof.Machine.execVor c vd vs vt pk s
  | .vxor c vd vs vt pk => Sys2Proof.Machine.execVxor c vd vs vt pk s
  | .vaddISat c vd vs vt pk => Sys2Proof.Machine.execVaddISat c vd vs vt pk s
  | .vsubISat c vd vs vt pk => Sys2Proof.Machine.execVsubISat c vd vs vt pk s
  | .vperm c vd vs vt pk => Sys2Proof.Machine.execVperm c vd vs vt pk s
  | .vsel c vd vs vt pq pk => Sys2Proof.Machine.execVsel c vd vs vt pq pk s
  | .vbcast c vd gs pk => Sys2Proof.Machine.execVbcast c vd gs pk s
  | .vext c gd vs lane => Sys2Proof.Machine.execVext c gd vs lane s
  | .vcmp c pd vs vt rel ty pk => Sys2Proof.Machine.execVcmp c pd vs vt rel ty pk s
  | .pand c pd ps pt => Sys2Proof.Machine.execPand c pd ps pt s
  | .por c pd ps pt => Sys2Proof.Machine.execPor c pd ps pt s
  | .pxor c pd ps pt => Sys2Proof.Machine.execPxor c pd ps pt s
  | .pnot c pd ps => Sys2Proof.Machine.execPnot c pd ps s
  | .vrsum c vd vs pk => Sys2Proof.Machine.execVrsum c vd vs pk s
  | .vrmax c vd vs pk => Sys2Proof.Machine.execVrmax c vd vs pk s
  | .vrmin c vd vs pk => Sys2Proof.Machine.execVrmin c vd vs pk s
  | .vrsumI c vd vs pk => Sys2Proof.Machine.execVrsumI c vd vs pk s
  | .vexp2 c vd vs pk => Sys2Proof.Machine.execVexp2 c vd vs pk s
  | .vexp2A c vd vs pk => Sys2Proof.Machine.execVexp2A c vd vs pk s
  | .vlog2 c vd vs pk => Sys2Proof.Machine.execVlog2 c vd vs pk s
  | .vlog2A c vd vs pk => Sys2Proof.Machine.execVlog2A c vd vs pk s
  | .vrcp c vd vs pk => Sys2Proof.Machine.execVrcp c vd vs pk s
  | .vrcpA c vd vs pk => Sys2Proof.Machine.execVrcpA c vd vs pk s
  | .vrsqrt c vd vs pk => Sys2Proof.Machine.execVrsqrt c vd vs pk s
  | .vrsqrtA c vd vs pk => Sys2Proof.Machine.execVrsqrtA c vd vs pk s
  | .vsinpi c vd vs pk => Sys2Proof.Machine.execVsinpi c vd vs pk s
  | .vcospi c vd vs pk => Sys2Proof.Machine.execVcospi c vd vs pk s
  | .vrand c vd pk => Sys2Proof.Machine.execVrand c vd pk s
  | .vld c vd gs off => Sys2Proof.Machine.execVld c vd gs off s
  | .vst c vs gs off => Sys2Proof.Machine.execVst c vs gs off s
  | .vldx c vd gs vt pk => Sys2Proof.Machine.execVldx c vd gs vt pk s
  | .vstx c vs gs vt pk => Sys2Proof.Machine.execVstx c vs gs vt pk s
  | .xcvt c dst src vd vs gk vx pk sr sat tz => Sys2Proof.Machine.execXcvt c dst src vd vs gk vx pk sr sat tz s
  | .dcopy c tD tS gsem => Sys2Proof.Machine.execDcopy c tD tS gsem s
  | .dcopyR c tD tS gsem gchip gdsem => Sys2Proof.Machine.execDcopyR c tD tS gsem gchip gdsem s
  | .dcopyRed c tD tS gsem fmt => Sys2Proof.Machine.execDcopyRed c tD tS gsem fmt s
  | .dcopyRedR c tD tS gsem gchip gdsem fmt => Sys2Proof.Machine.execDcopyRedR c tD tS gsem gchip gdsem fmt s
  | .dhash c gd tS gsem => Sys2Proof.Machine.execDhash c gd tS gsem s
  | .semAdd c gs gv => Sys2Proof.Machine.execSemAdd c gs gv s
  | .semAddRel c gs gv => Sys2Proof.Machine.execSemAddRel c gs gv s
  | .semAddR c gs gv gchip => Sys2Proof.Machine.execSemAddR c gs gv gchip s
  | .semAddRRel c gs gv gchip => Sys2Proof.Machine.execSemAddRRel c gs gv gchip s
  | .semWait c gs gn => Sys2Proof.Machine.execSemWait c gs gn s
  | .semWaitAcq c gs gn => Sys2Proof.Machine.execSemWaitAcq c gs gn s
  | .semAcq c gs gn => Sys2Proof.Machine.execSemAcq c gs gn s
  | .semSet c gs gv => Sys2Proof.Machine.execSemSet c gs gv s
  | .fenceCore c => Sys2Proof.Machine.execFenceCore c s
  | .fenceCluster c => Sys2Proof.Machine.execFenceCluster c s
  | .fenceDie c => Sys2Proof.Machine.execFenceDie c s
  | .fenceSys c => Sys2Proof.Machine.execFenceSys c s
  | .nstatSat c gd => Sys2Proof.Machine.execNstatSat c gd s
  | .nstatFlush c gd => Sys2Proof.Machine.execNstatFlush c gd s
  | .nstatNan c gd => Sys2Proof.Machine.execNstatNan c gd s
  | .nstatInf c gd => Sys2Proof.Machine.execNstatInf c gd s
  | .nstatStat c gd => Sys2Proof.Machine.execNstatStat c gd s
  | .ptime c gd => Sys2Proof.Machine.execPtime c gd s
  | .ptimeV c gd => Sys2Proof.Machine.execPtimeV c gd s
  | .lstat c gl => Sys2Proof.Machine.execLstat c gl s
  | .seed c gj gs => Sys2Proof.Machine.execSeed c gj gs s
  | .sget c part ga => Sys2Proof.Machine.execSget c part ga s
  | .sput c part ga => Sys2Proof.Machine.execSput c part ga s
  | .fenceSatisfied c => Sys2Proof.Machine.execFenceSatisfied c s
  | .releaseSatisfied c => Sys2Proof.Machine.execReleaseSatisfied c s
  | .semaphoreUpdate sem => Sys2Proof.Machine.execSemaphoreUpdate sem s
  | .dmoverComplete c op => Sys2Proof.Machine.execDmoverComplete c op s
  | .coreFaultRecord c => Sys2Proof.Machine.execCoreFaultRecord c s
  | .contextFault ctx => Sys2Proof.Machine.execContextFault ctx s
  | .contextStop c => Sys2Proof.Machine.execContextStop c s
  | .doorbell ini page sq value => Sys2Proof.Machine.execDoorbell ini page sq value s
  | .sqEnable ini page sq value => Sys2Proof.Machine.execSqEnable ini page sq value s
  | .cqEnable ini page cq value => Sys2Proof.Machine.execCqEnable ini page cq value s
  | .resume ini page sq => Sys2Proof.Machine.execResume ini page sq s
  | .sqAck ini page sq => Sys2Proof.Machine.execSqAck ini page sq s
  | .gfeCtxEnable ini ctx value => Sys2Proof.Machine.execGfeCtxEnable ini ctx value s
  | .gfeCtxDisable ini ctx value => Sys2Proof.Machine.execGfeCtxDisable ini ctx value s
  | .commandNop sq hostBytes => Sys2Proof.Machine.execCommandNop sq hostBytes s
  | .launch sq hostBytes => Sys2Proof.Machine.execLaunch sq hostBytes s
  | .colaunch sq hostBytes => Sys2Proof.Machine.execColaunch sq hostBytes s
  | .waitCmd sq hostBytes => Sys2Proof.Machine.execWaitCmd sq hostBytes s
  | .signalCmd sq hostBytes => Sys2Proof.Machine.execSignalCmd sq hostBytes s
  | .copyCmd sq hostBytes => Sys2Proof.Machine.execCopyCmd sq hostBytes s
  | .imageLoad sq hostBytes => Sys2Proof.Machine.execImageLoad sq hostBytes s
  | .imagePatch sq hostBytes => Sys2Proof.Machine.execImagePatch sq hostBytes s
  | .imageRetire sq hostBytes => Sys2Proof.Machine.execImageRetire sq hostBytes s
  | .launchCoresAssigned sq => Sys2Proof.Machine.execLaunchCoresAssigned sq s
  | .launchStartAt sq => Sys2Proof.Machine.execLaunchStartAt sq s
  | .branchComplete sq branch => Sys2Proof.Machine.execBranchComplete sq branch s
  | .copyComplete sq => Sys2Proof.Machine.execCopyComplete sq s
  | .completionWrite cq => Sys2Proof.Machine.execCompletionWrite cq s
  | .completionOrphan cq => Sys2Proof.Machine.execCompletionOrphan cq s
  | .cmdFetchFail sq kind => Sys2Proof.Machine.execCmdFetchFail sq kind s
  | .queueTimeout sq => Sys2Proof.Machine.execQueueTimeout sq s
  | .deadlockFire ctx => Sys2Proof.Machine.execDeadlockFire ctx s
  | .semAllotEnable ini ctx value => Sys2Proof.Machine.execSemAllotEnable ini ctx value s
  | .contextReset ini ctx => Sys2Proof.Machine.execContextReset ini ctx s
  | .partitionReset ini ctx => Sys2Proof.Machine.execPartitionReset ini ctx s
  | .coreReset ini ctx core => Sys2Proof.Machine.execCoreReset ini ctx core s
  | .resetComplete ctx failedSelfTest => Sys2Proof.Machine.execResetComplete ctx failedSelfTest s
  | .chipReset ini value => Sys2Proof.Machine.execChipReset ini value s
  | .resetNAssert => Sys2Proof.Machine.execResetNAssert s
  | .resetNDeassert => Sys2Proof.Machine.execResetNDeassert s
  | .pwrEnRise => Sys2Proof.Machine.execPwrEnRise s
  | .pwrEnFall => Sys2Proof.Machine.execPwrEnFall s
  | .pllLock => Sys2Proof.Machine.execPllLock s
  | .bootPhaseDone f => Sys2Proof.Machine.execBootPhaseDone f s
  | .railFault g => Sys2Proof.Machine.execRailFault g s
  | .overcurrentStop g => Sys2Proof.Machine.execOvercurrentStop g s
  | .inputLockout => Sys2Proof.Machine.execInputLockout s
  | .thermalTrip at_ => Sys2Proof.Machine.execThermalTrip at_ s
  | .tripClear => Sys2Proof.Machine.execTripClear s
  | .criticalShutdown at_ => Sys2Proof.Machine.execCriticalShutdown at_ s
  | .aclkRequest ini value => Sys2Proof.Machine.execAclkRequest ini value s
  | .aclkLower => Sys2Proof.Machine.execAclkLower s
  | .aclkRaiseStep => Sys2Proof.Machine.execAclkRaiseStep s
  | .featherGapExpiry c e => Sys2Proof.Machine.execFeatherGapExpiry c e s
  | .featherRampStep c e => Sys2Proof.Machine.execFeatherRampStep c e s
  | .stbArm ini c value => Sys2Proof.Machine.execStbArm ini c value s
  | .ntmClear ini c => Sys2Proof.Machine.execNtmClear ini c s
  | .plbNowRead ini r => Sys2Proof.Machine.execPlbNowRead ini r s
  | .frameWrite ini frame value => Sys2Proof.Machine.execFrameWrite ini frame value s
  | .invalidationStart ini value => Sys2Proof.Machine.execInvalidationStart ini value s
  | .invalidationComplete => Sys2Proof.Machine.execInvalidationComplete s
  | .journalEnable ini ctx value => Sys2Proof.Machine.execJournalEnable ini ctx value s
  | .journalRunEnd ctx => Sys2Proof.Machine.execJournalRunEnd ctx s
  | .flashSlotStart ini slot value => Sys2Proof.Machine.execFlashSlotStart ini slot value s
  | .flashSlotComplete slot unreadable => Sys2Proof.Machine.execFlashSlotComplete slot unreadable s
  | .registerWrite ini a size value => Sys2Proof.Machine.execRegisterWrite ini a size value s
  | .ownerWrite ini page value => Sys2Proof.Machine.execOwnerWrite ini page value s
  | .protectionLock ini value => Sys2Proof.Machine.execProtectionLock ini value s
  | .vfBind ini vf value => Sys2Proof.Machine.execVfBind ini vf value s
  | .msixVectorUnmask fn vec => Sys2Proof.Machine.execMsixVectorUnmask fn vec s
  | .hdmRead tee off => Sys2Proof.Machine.execHdmRead tee off s
  | .hdmWrite tee off data enable => Sys2Proof.Machine.execHdmWrite tee off data enable s
  | .goResponse id ok => Sys2Proof.Machine.execGoResponse id ok s
  | .hostWriteTimeout id => Sys2Proof.Machine.execHostWriteTimeout id s
  | .hostReadData cqid data error poison => Sys2Proof.Machine.execHostReadData cqid data error poison s
  | .hostReadTimeout slot => Sys2Proof.Machine.execHostReadTimeout slot s
  | .h2dSnoop addr => Sys2Proof.Machine.execH2dSnoop addr s
  | .hostLinkDown => Sys2Proof.Machine.execHostLinkDown s
  | .hostLinkUp x16 fast => Sys2Proof.Machine.execHostLinkUp x16 fast s
  | .hostLinkRetry => Sys2Proof.Machine.execHostLinkRetry s
  | .perstNAssert => Sys2Proof.Machine.execPerstNAssert s
  | .perstNDeassert => Sys2Proof.Machine.execPerstNDeassert s
  | .vfFlr vf => Sys2Proof.Machine.execVfFlr vf s
  | .pfFlr => Sys2Proof.Machine.execPfFlr s
  | .ideKm m => Sys2Proof.Machine.execIdeKm m s
  | .lockInterface vf => Sys2Proof.Machine.execLockInterface vf s
  | .getDeviceInterfaceReport vf => Sys2Proof.Machine.execGetDeviceInterfaceReport vf s
  | .startInterface vf => Sys2Proof.Machine.execStartInterface vf s
  | .stopInterface vf => Sys2Proof.Machine.execStopInterface vf s
  | .tdiError vf => Sys2Proof.Machine.execTdiError vf s
  | .getVersion t => Sys2Proof.Machine.execGetVersion t s
  | .getCapabilities t => Sys2Proof.Machine.execGetCapabilities t s
  | .negotiateAlgorithms t sha3 mldsa44 => Sys2Proof.Machine.execNegotiateAlgorithms t sha3 mldsa44 s
  | .getDigests t => Sys2Proof.Machine.execGetDigests t s
  | .getCertificate t slot off len => Sys2Proof.Machine.execGetCertificate t slot off len s
  | .challenge t slot nonce => Sys2Proof.Machine.execChallenge t slot nonce s
  | .getMeasurements t index nonce => Sys2Proof.Machine.execGetMeasurements t index nonce s
  | .keyExchange t peerKey => Sys2Proof.Machine.execKeyExchange t peerKey s
  | .finish session hmacOk => Sys2Proof.Machine.execFinish session hmacOk s
  | .heartbeat session => Sys2Proof.Machine.execHeartbeat session s
  | .heartbeatExpiry session => Sys2Proof.Machine.execHeartbeatExpiry session s
  | .keyUpdate session => Sys2Proof.Machine.execKeyUpdate session s
  | .endSession session => Sys2Proof.Machine.execEndSession session s
  | .chunkGet t handle chunk => Sys2Proof.Machine.execChunkGet t handle chunk s
  | .getRecord vf ctx seq => Sys2Proof.Machine.execGetRecord vf ctx seq s
  | .setPtb vf ctx value => Sys2Proof.Machine.execSetPtb vf ctx value s
  | .unseal vf ctx args => Sys2Proof.Machine.execUnseal vf ctx args s
  | .flash vf ctx args => Sys2Proof.Machine.execFlash vf ctx args s
  | .ping m => Sys2Proof.Machine.execPing m s
  | .frameAssign => Sys2Proof.Machine.execFrameAssign s
  | .frameRelease => Sys2Proof.Machine.execFrameRelease s
  | .fwStage => Sys2Proof.Machine.execFwStage s
  | .fwActivate => Sys2Proof.Machine.execFwActivate s
  | .fwStatus => Sys2Proof.Machine.execFwStatus s
  | .setCap => Sys2Proof.Machine.execSetCap s
  | .getPower => Sys2Proof.Machine.execGetPower s
  | .svnRaise => Sys2Proof.Machine.execSvnRaise s
  | .ownerSet => Sys2Proof.Machine.execOwnerSet s
  | .activateFirmware => Sys2Proof.Machine.execActivateFirmware s
  | .pldmFirmwareUpdate m => Sys2Proof.Machine.execPldmFirmwareUpdate m s
  | .getSensorReading id => Sys2Proof.Machine.execGetSensorReading id s
  | .entdaa addr => Sys2Proof.Machine.execEntdaa addr s
  | .setdasa addr => Sys2Proof.Machine.execSetdasa addr s
  | .fwdKick m value => Sys2Proof.Machine.execFwdKick m value s
  | .watchdogExpiry m => Sys2Proof.Machine.execWatchdogExpiry m s
  | .fwReady m => Sys2Proof.Machine.execFwReady m s
  | .restartFail m => Sys2Proof.Machine.execRestartFail m s
  | .powerLoopTick meanWatts div keep => Sys2Proof.Machine.execPowerLoopTick meanWatts div keep s
  | .thermalLoopTick div keep => Sys2Proof.Machine.execThermalLoopTick div keep s
  | .limiterTick meanWatts => Sys2Proof.Machine.execLimiterTick meanWatts s
  | .emergencyEnd => Sys2Proof.Machine.execEmergencyEnd s
  | .sensorRefresh r => Sys2Proof.Machine.execSensorRefresh r s
  | .bstDue u => Sys2Proof.Machine.execBstDue u s
  | .bstVisitStart u => Sys2Proof.Machine.execBstVisitStart u s
  | .bstVisitEnd u pass path => Sys2Proof.Machine.execBstVisitEnd u pass path s
  | .bstLate u => Sys2Proof.Machine.execBstLate u s
  | .protectionCompare => Sys2Proof.Machine.execProtectionCompare s
  | .coalesceWindowEnd index => Sys2Proof.Machine.execCoalesceWindowEnd index s
  | .hawkToggle q => Sys2Proof.Machine.execHawkToggle q s
  | .patrolScrubRead stack => Sys2Proof.Machine.execPatrolScrubRead stack s
  | .storeSweepRead addr => Sys2Proof.Machine.execStoreSweepRead addr s
  | .flitGroupReceive p g => Sys2Proof.Machine.execFlitGroupReceive p g s
  | .replayTimeout p => Sys2Proof.Machine.execReplayTimeout p s
  | .fastRetrainDone p ok rx tx => Sys2Proof.Machine.execFastRetrainDone p ok rx tx s
  | .detectDone p => Sys2Proof.Machine.execDetectDone p s
  | .equaliseDone p => Sys2Proof.Machine.execEqualiseDone p s
  | .laneMapDone p rx tx => Sys2Proof.Machine.execLaneMapDone p rx tx s
  | .identityRecord p frame verdict => Sys2Proof.Machine.execIdentityRecord p frame verdict s
  | .refreshFrame p frame verdict => Sys2Proof.Machine.execRefreshFrame p frame verdict s
  | .trainingTimeout p => Sys2Proof.Machine.execTrainingTimeout p s
  | .downRetry p => Sys2Proof.Machine.execDownRetry p s
  | .portRetrain ini p value => Sys2Proof.Machine.execPortRetrain ini p value s
  | .apbClr ini p value => Sys2Proof.Machine.execApbClr ini p value s
  | .linkThresholdWindow p w => Sys2Proof.Machine.execLinkThresholdWindow p w s
  | .keySwitch p transmit => Sys2Proof.Machine.execKeySwitch p transmit s
  | .keySwitchRetry p => Sys2Proof.Machine.execKeySwitchRetry p s
  | .keyAgreementM1 m => Sys2Proof.Machine.execKeyAgreementM1 m s
  | .keyAgreementM2 m proof => Sys2Proof.Machine.execKeyAgreementM2 m proof s
  | .keyAgreementM3 m proof => Sys2Proof.Machine.execKeyAgreementM3 m proof s
  | .keyAgreementAbort p => Sys2Proof.Machine.execKeyAgreementAbort p s
  | .packetRoute inPort vc k => Sys2Proof.Machine.execPacketRoute inPort vc k s
  | .openMsg inPort k => Sys2Proof.Machine.execOpenMsg inPort k s
  | .grant a => Sys2Proof.Machine.execGrant a s
  | .refuse a => Sys2Proof.Machine.execRefuse a s
  | .dataPkt a => Sys2Proof.Machine.execDataPkt a s
  | .resend a => Sys2Proof.Machine.execResend a s
  | .ack a => Sys2Proof.Machine.execAck a s
  | .semadd inPort k => Sys2Proof.Machine.execSemadd inPort k s
  | .echo a => Sys2Proof.Machine.execEcho a s
  | .messageComplete handle => Sys2Proof.Machine.execMessageComplete handle s
  | .e2eTimeout msgId => Sys2Proof.Machine.execE2eTimeout msgId s
  | .entryIdleTimeout handle => Sys2Proof.Machine.execEntryIdleTimeout handle s
  | .openRetry msgId => Sys2Proof.Machine.execOpenRetry msgId s
  | .limiterStep chip => Sys2Proof.Machine.execLimiterStep chip s
  | .tableCommit ini value => Sys2Proof.Machine.execTableCommit ini value s
  | .controlSpaceAccess a => Sys2Proof.Machine.execControlSpaceAccess a s
  | .peerDownNotice a => Sys2Proof.Machine.execPeerDownNotice a s
  | .plumbFrameSend p => Sys2Proof.Machine.execPlumbFrameSend p s
  | .plumbFrame p k => Sys2Proof.Machine.execPlumbFrame p k s
  | .plumbParentLoss => Sys2Proof.Machine.execPlumbParentLoss s
  | .masterWaitExpiry => Sys2Proof.Machine.execMasterWaitExpiry s
  | .mgmtDatagram at_ source subtype payload => Sys2Proof.Machine.execMgmtDatagram at_ source subtype payload s
  | .telemetrySend port => Sys2Proof.Machine.execTelemetrySend port s
  | .roceDoorbell ini qp value => Sys2Proof.Machine.execRoceDoorbell ini qp value s
  | .roceSend qp => Sys2Proof.Machine.execRoceSend qp s
  | .rdmaWrite qp => Sys2Proof.Machine.execRdmaWrite qp s
  | .rdmaRead qp d => Sys2Proof.Machine.execRdmaRead qp d s
  | .recv qp => Sys2Proof.Machine.execRecv qp s
  | .inboundSend a d => Sys2Proof.Machine.execInboundSend a d s
  | .inboundRdmaRequest a isWrite => Sys2Proof.Machine.execInboundRdmaRequest a isWrite s
  | .workRequestComplete qp outcome => Sys2Proof.Machine.execWorkRequestComplete qp outcome s
  | .ethLinkUp port upper => Sys2Proof.Machine.execEthLinkUp port upper s
  | .ethLinkDown port upper => Sys2Proof.Machine.execEthLinkDown port upper s
  | .priorityFlowControlFrame port prio pause => Sys2Proof.Machine.execPriorityFlowControlFrame port prio pause s
  | .congestionNotificationPacket a => Sys2Proof.Machine.execCongestionNotificationPacket a s
  | .endpointIdAssignment eid => Sys2Proof.Machine.execEndpointIdAssignment eid s
  | .eventNotice payload => Sys2Proof.Machine.execEventNotice payload s
  | .configurationSpaceWrite w => Sys2Proof.Machine.execConfigurationSpaceWrite w s
  | .plumbReplicaMismatch => Sys2Proof.Machine.execPlumbReplicaMismatch s
  | .resetGenerationAged ctx => Sys2Proof.Machine.execResetGenerationAged ctx s
  | .postResetHoldEnd => Sys2Proof.Machine.execPostResetHoldEnd s

end Sys2Proof.Machine
end

