-- ==== Sys2Proof/Machine/Tick.lean ====
section
/-! DEFINITION. One edge of NCLK: what the block does when no command waits (DESIGN CHOICE, log entry 9). -/

namespace Sys2Proof.Machine

/-- Time passes, and the plumb counter counts while the root PLL is locked (01 R25, R30). -/
def passTime (s : State) : State :=
  { s with clk := s.clk + 1, plumb := if s.boot.pllLocked then s.plumb.tick (s.clk + 1) else s.plumb }

/-- One NCLK edge: launches of this plumb tick have started (10 R279), time passes, the consumers of the hawk queues read (15
R431), checks of state that no command uses find their faults (15 R423), a parent that has fallen silent is given up (12 R355),
and the deadlock detectors look at their partitions (09 R257, R258). -/
def tick (s : State) : State := watchAll (followParent (checkUpsets (drainHawks (passTime (startAllDue s)))))

end Sys2Proof.Machine
end

