-- ==== Sys2Proof/Safety.lean ====
section
/-! DEFINITION. Safe runs: what a claim means by a step that goes on, by a core that is ready to issue, and by an
instruction that retires; and the invariant of the state. -/

namespace Sys2Proof.Machine

/-- A step that answers a next state. -/
def Goes (s : State) : Prop := ∃ t, step s = .next t

/-- The canonical form of the tables of bytes and poison marks (DESIGN CHOICE, log entry 5). -/
def State.canonical (s : State) : Bool :=
  Memory.wf s.mem && Table.wf s.poison false

/-- Core `c` issues its next instruction, and its fetch meets no fault (06 R148). -/
def Ready (s : State) (c : CoreId) : Prop := s.coreIssues c = true ∧ s.fetchFault c = none

/-- The state with core `c` changed by `f`, its pc at the next instruction. -/
def State.retire (s : State) (c : CoreId) (f : CoreSt → CoreSt) : State :=
  s.setCore c.val (f { s.core c.val with pc := (s.core c.val).pc + 8 })

/-- The state with control of core `c` at `target`. -/
def State.goTo (s : State) (c : CoreId) (target : Addr) : State :=
  s.setCore c.val { s.core c.val with pc := target }

/-- Initiator `ini` may write `v` to the register at `off`: it is at work, an owner under the register's value, no
confidential path is closed to it, and no RES0 bit of a checked register is set (21 R553, R555, 01 R29). -/
def Permitted (s : State) (ini : Initiator) (off : Nat) (v : Word) : Prop :=
  actualInitiator s ini = ini ∧ iniUp s ini = true ∧ (bootOwner (off / 4096)).isSome = true ∧ owns s ini off true v = true ∧
    (ini = .security ∨ writeClosed s (regAt off) v = false) ∧ v &&& res0 (regAt off) = 0

/-- A small ready core: running, without a launch to bound its fetch (tests and witnesses use it). -/
def CoreSt.live : CoreSt := { CoreSt.reset with seqState := .running }

end Sys2Proof.Machine
end

