-- ==== Sys2Proof/Certificates/Slice0/Obligations.lean ====
section
/-! DEFINITION. The statements about this model, for the provers. -/

open Sys2Proof Sys2Proof.Machine

/-! ## The queue of commands -/

/-- A step takes the command at the front of the queue and runs it with the rest of the queue. -/
def Obligations.StepRunsFrontCommand : Prop :=
  ∀ (s : State) (i : Instr) (rest : List Instr),
    step { s with pending := i :: rest } = exec i { s with pending := rest }

/-- With no command waiting, a step is one NCLK edge (log entry 9, the model's choice): it answers a next state whose
clock is one higher, and whose plumb counter has advanced while the root PLL is locked. Where no launch's plumb tick
has come, no hawk queue holds words to read and no undetected fault waits in a sequencer or a cluster, no memory,
poison mark, core or semaphore changes. The plumb counter adds 1 at an edge, or 2 or 0 where a slew is in force, and
it is adjusted at most once in any 1,024 edges (01 R30, 12 R356). -/
def Obligations.IdleStepIsOneClockEdge : Prop :=
  (∀ s : State, s.pending = [] → ∃ t, step s = .next t ∧ t.pending = [] ∧ t.clk = s.clk + 1 ∧
    t.plumb.now = (if s.boot.pllLocked then s.plumb.now + s.plumb.increment (s.clk + 1) else s.plumb.now) ∧
    (startAllDue s = s → (∀ q, (s.hawks.get .reset q).drainedOut = true) → (∀ r ∈ s.cores.rows, r.2.seqUpset = none) →
      s.upsets.clusters = [] → t.mem = s.mem ∧ t.poison = s.poison ∧ t.cores = s.cores ∧ t.sems = s.sems)) ∧
  (∀ (p : Plumb) (clk : Nat),
    (p.tick clk).now = p.now + p.increment clk ∧
    (p.increment clk = 1 ∨ (p.increment clk = 2 ∧ 0 < p.slew) ∨ (p.increment clk = 0 ∧ p.slew < 0)) ∧
    (p.increment clk ≠ 1 → ∀ k < 1024, (p.tick clk).increment (clk + k) = 1))

/-! ## FZ instructions: scalar, control, memory -/

/-- Every three-register G instruction of a ready core retires with the result that 06 gives it in gd; where gd is g0
nothing is written (06 Architectural registers). Nothing but gd and the pc of that core changes. Every immediate form
of the G class, likewise: the immediate is sign-extended, a shift amount is 6 bits, and MOVHI keeps the low half. -/
def Obligations.ScalarResults : Prop :=
  (∀ (s : State) (c : CoreId) (gd gs gt : GReg), Ready s c →
    let x := (s.core c.val).gread gs
    let y := (s.core c.val).gread gt
    let n := y.toNat % 64
    let done (r : Word) : Answer :=
      .next (s.retire c fun v => if gd = 0 then v else { v with g := v.g.set 0 gd.val r })
    exec (.add c gd gs gt) s = done (BitVec.ofNat 64 (x.toNat + y.toNat)) ∧
    exec (.sub c gd gs gt) s = done (BitVec.ofInt 64 (x.toNat - y.toNat)) ∧
    exec (.mul c gd gs gt) s = done (BitVec.ofNat 64 (x.toNat * y.toNat)) ∧
    exec (.mulh c gd gs gt) s = done (BitVec.ofInt 64 (x.toInt * y.toInt / 2 ^ 64)) ∧
    exec (.mulhu c gd gs gt) s = done (BitVec.ofNat 64 (x.toNat * y.toNat / 2 ^ 64)) ∧
    exec (.and c gd gs gt) s = done (x &&& y) ∧
    exec (.or c gd gs gt) s = done (x ||| y) ∧
    exec (.xor c gd gs gt) s = done (x ^^^ y) ∧
    exec (.sll c gd gs gt) s = done (BitVec.ofNat 64 (x.toNat * 2 ^ n)) ∧
    exec (.srl c gd gs gt) s = done (BitVec.ofNat 64 (x.toNat / 2 ^ n)) ∧
    exec (.sra c gd gs gt) s = done (BitVec.ofInt 64 (x.toInt / 2 ^ n)) ∧
    exec (.slt c gd gs gt) s = done (if x.toInt < y.toInt then 1 else 0) ∧
    exec (.sltu c gd gs gt) s = done (if x.toNat < y.toNat then 1 else 0) ∧
    exec (.min c gd gs gt) s = done (BitVec.ofInt 64 (min x.toInt y.toInt)) ∧
    exec (.max c gd gs gt) s = done (BitVec.ofInt 64 (max x.toInt y.toInt)) ∧
    exec (.minu c gd gs gt) s = done (BitVec.ofNat 64 (min x.toNat y.toNat)) ∧
    exec (.maxu c gd gs gt) s = done (BitVec.ofNat 64 (max x.toNat y.toNat))) ∧
  (∀ (s : State) (c : CoreId) (gd gs : GReg) (imm : BitVec 32) (sh : BitVec 6), Ready s c →
    let x := (s.core c.val).gread gs
    let k := imm.toInt
    let done (r : Word) : Answer :=
      .next (s.retire c fun v => if gd = 0 then v else { v with g := v.g.set 0 gd.val r })
    exec (.addi c gd gs imm) s = done (BitVec.ofInt 64 (x.toInt + k)) ∧
    exec (.andi c gd gs imm) s = done (x &&& BitVec.ofInt 64 k) ∧
    exec (.ori c gd gs imm) s = done (x ||| BitVec.ofInt 64 k) ∧
    exec (.xori c gd gs imm) s = done (x ^^^ BitVec.ofInt 64 k) ∧
    exec (.slti c gd gs imm) s = done (if x.toInt < k then 1 else 0) ∧
    exec (.slli c gd gs sh) s = done (BitVec.ofNat 64 (x.toNat * 2 ^ sh.toNat)) ∧
    exec (.srli c gd gs sh) s = done (BitVec.ofNat 64 (x.toNat / 2 ^ sh.toNat)) ∧
    exec (.srai c gd gs sh) s = done (BitVec.ofInt 64 (x.toInt / 2 ^ sh.toNat)) ∧
    exec (.movi c gd imm) s = done (BitVec.ofInt 64 k) ∧
    exec (.movhi c gd imm) s =
      done (BitVec.ofNat 64 (imm.toNat * 2 ^ 32 + ((s.core c.val).gread gd).toNat % 2 ^ 32)))

/-- Control instructions of a ready core. A jump or taken branch whose target lies in the 48-bit space goes there; a
branch not taken and NOP retire; JAL writes pc + 8; JR takes an aligned target (06 Control, R148). Nothing else
changes. A jump, JAL, JR or taken branch whose target, an unbounded integer, lies outside the 48-bit space takes a
precise ADDRESS fault with detail 0x06 at its issue: the core has detected that fault, with the pc of the jump and
bits 47:0 of the target, and nothing else has changed (06 R148). -/
def Obligations.ControlResults : Prop :=
  (∀ (s : State) (c : CoreId) (gd gs gt : GReg) (off : BitVec 32), Ready s c →
    let v := s.core c.val
    let x := v.gread gs
    let y := v.gread gt
    let target : Int := v.pc.toNat + 8 * off.toInt
    let taken : Answer := .next (s.goTo c (BitVec.ofInt 48 target))
    let passed : Answer := .next (s.retire c id)
    exec (.nop c) s = passed ∧
    (x.toNat % 8 = 0 → x.toNat < 2 ^ 48 → exec (.jr c gs) s = .next (s.goTo c (BitVec.ofNat 48 x.toNat))) ∧
    (0 ≤ target → target < 2 ^ 48 →
      exec (.j c off) s = taken ∧
      exec (.jal c gd off) s =
        .next (s.setCore c.val ({ v with pc := BitVec.ofInt 48 target }.gwrite gd ((v.pc + 8).setWidth 64))) ∧
      exec (.beq c gs gt off) s = (if x = y then taken else passed) ∧
      exec (.bne c gs gt off) s = (if x = y then passed else taken) ∧
      exec (.blt c gs gt off) s = (if x.toInt < y.toInt then taken else passed) ∧
      exec (.bge c gs gt off) s = (if x.toInt < y.toInt then passed else taken) ∧
      exec (.bltu c gs gt off) s = (if x.toNat < y.toNat then taken else passed) ∧
      exec (.bgeu c gs gt off) s = (if x.toNat < y.toNat then passed else taken))) ∧
  (∀ (s : State) (c : CoreId) (gd gs gt : GReg) (off : BitVec 32) (i : Instr), Ready s c →
    let v := s.core c.val
    let target : Int := match i with
      | .jr _ r => (v.gread r).toNat
      | _ => v.pc.toNat + 8 * off.toInt
    (i = .j c off ∨ i = .jal c gd off ∨ (i = .jr c gs ∧ (v.gread gs).toNat % 8 = 0) ∨
      (i = .beq c gs gt off ∧ v.gread gs = v.gread gt) ∨ (i = .bne c gs gt off ∧ v.gread gs ≠ v.gread gt)) →
    target < 0 ∨ 2 ^ 48 ≤ target →
    exec i s = .next (s.setCore c.val (v.detect
      { cause := 0x04, detail := 0x06, unit := 0, eng := 0, prec := 0, lane := 0, pc := v.pc,
        addr := BitVec.ofInt 48 target, chip := 0, insn := fzWord i, more := false })))

/-- A scalar load of a ready core at an aligned address that its context may read, where no word is poisoned, no error is
latent, the on-die network is sound and no line of the read-combining buffer serves it: gd takes the bytes in memory,
least significant first, sign- or zero-extended; the buffer takes the line (06 R156, 09 R236). Nothing else changes,
and no memory does. A scalar load or TDLD that reads a poisoned word takes a POISON fault: gd and tn keep their
values, the fault is precise, of the sequencer, and names the instruction (06 R157). A scalar access that is not
naturally aligned, or whose address lies in control space, beyond the map or in a store outside the partition, takes a
precise ADDRESS fault with the detail of its reason, and changes nothing else (06 R156, R170). -/
def Obligations.LoadResults : Prop :=
  (∀ (s : State) (c : CoreId) (gd gs : GReg) (off : BitVec 32) (pa : Nat), Ready s c → s.latent = .empty →
    s.upsets.network = none →
    let v := s.core c.val
    let a := displaced (v.gread gs) off
    let reads (n : Nat) : Prop :=
      scalarReach s v a n { r := true } = .ok pa ∧ s.poisonedIn pa n = false ∧ ∀ l ∈ v.readBuf, l.line ≠ pa / 64
    let done (w : Word) : Answer := .next (s.retire c fun v => (v.fill (fillLine s pa)).gwrite gd w)
    let m (n : Nat) : Nat := leNat (s.bytes pa n)
    (reads 1 → exec (.ldB c gd gs off) s = done (BitVec.ofInt 64 (BitVec.ofNat 8 (m 1)).toInt) ∧
      exec (.ldBu c gd gs off) s = done (BitVec.ofNat 64 (m 1))) ∧
    (reads 2 → exec (.ldH c gd gs off) s = done (BitVec.ofInt 64 (BitVec.ofNat 16 (m 2)).toInt) ∧
      exec (.ldHu c gd gs off) s = done (BitVec.ofNat 64 (m 2))) ∧
    (reads 4 → exec (.ldW c gd gs off) s = done (BitVec.ofInt 64 (BitVec.ofNat 32 (m 4)).toInt) ∧
      exec (.ldWu c gd gs off) s = done (BitVec.ofNat 64 (m 4))) ∧
    (reads 8 → exec (.ldD c gd gs off) s = done (BitVec.ofNat 64 (m 8))) ∧
    (reads 32 → ∀ d tn, parseTile (m 32) = .ok d →
      exec (.tdld c tn gs off) s = .next (s.retire c fun v => (v.fill (fillLine s pa)).twrite tn d))) ∧
  (∀ (s : State) (c : CoreId) (gd gs : GReg) (tn : TReg) (off : BitVec 32) (pa n : Nat) (i : Instr), Ready s c →
    s.latent = .empty → s.upsets.network = none →
    let v := s.core c.val
    let a := displaced (v.gread gs) off
    (i = .ldB c gd gs off ∧ n = 1 ∨ i = .ldBu c gd gs off ∧ n = 1 ∨ i = .ldH c gd gs off ∧ n = 2 ∨
      i = .ldHu c gd gs off ∧ n = 2 ∨ i = .ldW c gd gs off ∧ n = 4 ∨ i = .ldWu c gd gs off ∧ n = 4 ∨
      i = .ldD c gd gs off ∧ n = 8 ∨ i = .tdld c tn gs off ∧ n = 32) →
    scalarReach s v a n { r := true } = .ok pa → s.poisonedIn pa n = true → (∀ l ∈ v.readBuf, l.line ≠ pa / 64) →
    ∃ t, exec i s = .next t ∧ t.mem = s.mem ∧ (t.core c.val).g = v.g ∧ (t.core c.val).t = v.t ∧
      (t.core c.val).pc = v.pc ∧
      (bitAt v.flt0 63 = false → (t.core c.val).fault = some
        { cause := 0x06, detail := 0, unit := 0, eng := 0, prec := 0, lane := 0, pc := v.pc,
          addr := BitVec.ofNat 48 a, chip := 0, insn := fzWord i, more := false })) ∧
  (∀ (s : State) (c : CoreId) (gd gs gt : GReg) (off : BitVec 32), Ready s c →
    let v := s.core c.val
    let a := displaced (v.gread gs) off
    let x := s.ctx v.context.val
    let faults (i : Instr) (detail : Nat) : Prop := exec i s = .next (s.setCore c.val (v.detect
      { cause := 0x04, detail := detail, unit := 0, eng := 0, prec := 0, lane := 0, pc := v.pc,
        addr := BitVec.ofNat 48 a, chip := 0, insn := fzWord i, more := false }))
    (a % 8 ≠ 0 → faults (.ldD c gd gs off) 0x01 ∧ faults (.stD c gs gt off) 0x01) ∧
    (a % 8 = 0 →
      (0x300000000000 ≤ a ∧ a < 0x300010000000 → faults (.ldD c gd gs off) 0x05 ∧ faults (.stD c gs gt off) 0x05) ∧
      (0x300010000000 ≤ a → faults (.ldD c gd gs off) 0x02 ∧ faults (.stD c gs gt off) 0x02) ∧
      (∀ k, placeOf a = .localStore k → x.hasCore k = false →
        faults (.ldD c gd gs off) 0x04 ∧ faults (.stD c gs gt off) 0x04) ∧
      (∀ k, placeOf a = .clusterStore k → x.hasCluster k = false →
        faults (.ldD c gd gs off) 0x04 ∧ faults (.stD c gs gt off) 0x04)))

/-- A scalar store or TDST of a ready core at an aligned address that its context may write, over a sound network,
completes: the low bytes of gt, or the descriptor's image, stand at the address, least significant first; EVERY OTHER
BYTE of memory reads as before; of the core only the pc moves and the lines of the buffer that it wrote go; nothing
else of the state changes but the poison marks and the undiscovered errors of the words it wrote. -/
def Obligations.StoreResults : Prop :=
  ∀ (s : State) (c : CoreId) (gs gt : GReg) (tn : TReg) (d : TileDesc) (off : BitVec 32) (pa n : Nat) (i : Instr)
    (image : Bytes), Ready s c → Memory.wf s.mem = true → s.upsets.network = none →
    let v := s.core c.val
    (i = .stB c gs gt off ∧ n = 1 ∧ image = leBytes 1 (v.gread gt).toNat ∨
      i = .stH c gs gt off ∧ n = 2 ∧ image = leBytes 2 (v.gread gt).toNat ∨
      i = .stW c gs gt off ∧ n = 4 ∧ image = leBytes 4 (v.gread gt).toNat ∨
      i = .stD c gs gt off ∧ n = 8 ∧ image = leBytes 8 (v.gread gt).toNat ∨
      i = .tdst c tn gs off ∧ n = 32 ∧ v.tread tn = some d ∧ image = d.image) →
    scalarReach s v (displaced (v.gread gs) off) n { w := true } = .ok pa →
    ∃ t, exec i s = .next t ∧ t.bytes pa n = image ∧
      (∀ b, b < pa ∨ pa + n ≤ b → t.byte b = s.byte b) ∧
      (∀ w, w ∉ wordsOf pa n → t.wordPoisoned w = s.wordPoisoned w ∧ t.latent.get noLatent w = s.latent.get noLatent w) ∧
      t = { s.retire c (fun v => v.dropLines pa n) with mem := t.mem, poison := t.poison, latent := t.latent }

/-- The L-class instructions that only change a descriptor register: TDADD where the new base is 64-byte aligned, and
TDADD.S (06 R151). Every full descriptor register of a core holds what some image that TDLD accepts says: the L-class
instructions keep it so (06 R151, 07 R192, R193). -/
def Obligations.DescriptorAddResults : Prop :=
  (∀ (s : State) (c : CoreId) (tn : TReg) (gs : GReg) (d : TileDesc), Ready s c → (s.core c.val).tread tn = some d →
    let x := ((s.core c.val).gread gs).setWidth 48
    ((d.base + x).toNat % 64 = 0 →
      exec (.tdadd c tn gs) s = .next (s.retire c fun v => v.twrite tn { d with base := d.base + x })) ∧
    exec (.tdaddS c tn gs) s = .next (s.retire c fun v => v.twrite tn { d with sbase := d.sbase + x })) ∧
  (∀ (s t : State) (c : CoreId) (tn : TReg) (gs : GReg) (off : BitVec 32) (i : Instr), Ready s c →
    (i = .tdld c tn gs off ∨ i = .tdst c tn gs off ∨ i = .tdadd c tn gs ∨ i = .tdaddS c tn gs) →
    (∀ r d, (s.core c.val).tread r = some d → ∃ image, parseTile image = .ok d) → exec i s = .next t →
    ∀ r d, (t.core c.val).tread r = some d → ∃ image, parseTile image = .ok d)

/-- TDST writes every RES0 field as zero, and sbase and sstride as the register holds them; the image of a descriptor that
a register can hold passes TDLD and gives that descriptor back; an empty register faults and nothing is written (07
R193). -/
def Obligations.TdstImagePassesTdld : Prop :=
  (∀ (d : TileDesc) (image : Nat), parseTile image = .ok d →
    field (leNat d.image) 52 12 = 0 ∧ field (leNat d.image) 176 16 = 0 ∧ field (leNat d.image) 224 32 = 0 ∧
    field (leNat d.image) 128 48 = d.sbase.toNat ∧ field (leNat d.image) 192 32 = d.sstride ∧
    parseTile (leNat d.image) = .ok d) ∧
  (∀ (s : State) (c : CoreId) (tn : TReg) (gs : GReg) (off : BitVec 32), Ready s c → (s.core c.val).tread tn = none →
    exec (.tdst c tn gs off) s = .next (s.setCore c.val ((s.core c.val).detect
      { cause := 0x03, detail := 0x02, unit := 0, eng := 0, prec := 0, lane := 0, pc := (s.core c.val).pc,
        addr := 0, chip := 0, insn := fzWord (.tdst c tn gs off), more := false })))

/-! ## The matrix engines -/

/-- MZERO, MZERO.W and MSWAP of a ready core. MZERO clears every entry of its tile to +0, sets the tile's mode and clears
its poison marks, and leaves the other tiles and the banks as they are; MSWAP exchanges the banks and touches no
entry. Nothing outside the engine but the pc changes (03 R80, 04 R94, R99, R107). MPRIME of a sound tile that passes
its checks fills the shadow bank: element (k, n) is element k of row n of the tile, the scale of block j of column n
is scale j of its row n, elements outside the extents are 0, and the shape record holds the tile's format and extents.
The active bank and the accumulators stay. A zero extent does nothing (04 R97, R98, 06 R153). -/
def Obligations.TileAndBankResults : Prop :=
  (∀ (s : State) (c : CoreId) (e : EngId) (ai : AReg), Ready s c →
    let x := (s.core c.val).engine e
    let clears (i : Instr) (wide : Bool) : Prop := ∃ x', exec i s = .next (s.retire c fun v => v.setEngine e x') ∧
      x'.isWide ai = wide ∧ x'.isPoisoned ai = false ∧ x'.active = x.active ∧ x'.shadow = x.shadow ∧
      (∀ m n, m < x'.capacity ai → n < 64 → x'.entry ai m n = (0, 0) ∧ x'.entryPoisoned ai m n = false) ∧
      ∀ aj m n, aj ≠ ai → m < x.capacity aj → n < 64 → x'.isWide aj = x.isWide aj ∧
        x'.entry aj m n = x.entry aj m n ∧ x'.entryPoisoned aj m n = x.entryPoisoned aj m n
    clears (.mzero c e ai) false ∧ clears (.mzeroW c e ai) true ∧
    exec (.mswap c e) s =
      .next (s.retire c fun v => v.setEngine e { x with active := x.shadow, shadow := x.active })) ∧
  (∀ (s : State) (c : CoreId) (e : EngId) (tW : TReg) (d : TileDesc), Ready s c → s.latent = .empty →
    let v := s.core c.val
    mprimeChecks c v tW = .ok d →
    (d.isEmpty = true → exec (.mprime c e tW) s = .next (s.retire c id)) ∧
    (d.isEmpty = false → s.tilePoisoned d = false → ∃ b,
      exec (.mprime c e tW) s = .next (s.retire c fun v => v.setEngine e { v.engine e with shadow := b }) ∧
      b.shape = some ⟨d.fmt, d.cols, d.rows⟩ ∧ b.poison = false ∧ b.scaleBad = .empty ∧
      (∀ k n, n < 64 → b.weight d.fmt k n =
        if k < d.cols ∧ n < d.rows then elemCode d.fmt (s.tileRow d n) k else 0) ∧
      ∀ n j, d.fmt.isBlock = true → n < d.rows → j < d.cols / 32 → b.scale n j = (byteAt (s.tileScales d n) j).toNat))

/-- MMA of a tile that passes its checks, on an engine whose comparisons and parity checks find nothing: the entry of each
of its rows and columns is promoted with that column's partial, whose definition is that of 03 (R67, R70 to R82);
every other entry of the engine, and both banks, stay as they were; no memory changes. The accumulator tile is marked
poisoned where the activations or the bank are, and only there (15 R424, R426); where nothing that it reads or writes
is poisoned, no free value is drawn. A zero extent does nothing (06 R152). The checks of an MMA at the engine and what
each failure says: an empty active bank, another format, another contraction extent, and rows beyond the tile's
capacity; the fault is unit-precise and names the engine, and nothing is written (04 R94, R101, 06 R167, R170). -/
def Obligations.MmaPromotesEachEntry : Prop :=
  (∀ (s : State) (c : CoreId) (e : EngId) (ai : AReg) (r0 : Fin 128) (tA : TReg) (fmt : Fmt) (grp : Grp) (prc : Bool)
    (d : TileDesc), Ready s c → s.latent = .empty → (Instr.mma c e ai r0 tA fmt grp prc).wf = true →
    let v := s.core c.val
    let x := v.engine e
    mmaIssueChecks c v tA fmt = .ok d →
    (d.isEmpty = true → exec (.mma c e ai r0 tA fmt grp prc) s = .next (s.retire c id)) ∧
    (∀ sh, d.isEmpty = false → mmaEngineChecks e x ai r0.val d fmt = .ok sh → x.upset = none → bitAt v.stbCtl 48 = false →
      (∀ k, x.accParityBad.get false k = false) → sh.columns ≤ 64 → x.active.scalesFail fmt sh.columns d.cols = false →
      scrimFails s fmt grp x.active sh.columns d none = [] →
      let bad := s.tilePoisoned d || x.active.poison
      let seen := bad || x.isPoisoned ai || (mmaWords x ai r0.val d.rows sh.columns).any (x.accPoison.get false)
      ∃ x' k, exec (.mma c e ai r0 tA fmt grp prc) s =
          .next (State.retire { s with draws := s.draws + seen.toNat } c fun v => ((v.setEngine e x').sawPoison seen).tally k) ∧
        x'.active = x.active ∧ x'.shadow = x.shadow ∧ x'.wide = x.wide ∧
        (∀ aj, x'.isPoisoned aj = (x.isPoisoned aj || (bad && aj == ai))) ∧
        (∀ i n, i < d.rows → n < sh.columns → x'.entry ai (r0.val + i) n =
          (promote (x.isWide ai) (x.entry ai (r0.val + i) n)
            ((columnPartials fmt grp prc x.active (s.tileRow d i) (s.tileScales d i) d.cols n).getLast?.getD
              (.zero, false)).1).1) ∧
        ∀ aj m n, m < x.capacity aj → n < 64 → (aj = ai → m < r0.val ∨ r0.val + d.rows ≤ m ∨ sh.columns ≤ n) →
          x'.entry aj m n = x.entry aj m n)) ∧
  (∀ (s : State) (c : CoreId) (e : EngId) (ai : AReg) (r0 : Fin 128) (tA : TReg) (fmt : Fmt) (grp : Grp) (prc : Bool)
    (d : TileDesc), Ready s c → (Instr.mma c e ai r0 tA fmt grp prc).wf = true →
    let v := s.core c.val
    let x := v.engine e
    mmaIssueChecks c v tA fmt = .ok d → d.isEmpty = false →
    let faults (detail : Nat) : Prop := exec (.mma c e ai r0 tA fmt grp prc) s = .next (s.retire c fun w => w.detect
      { cause := 0x02, detail := detail, unit := 1, eng := e.val, prec := 1, lane := 0, pc := v.pc, addr := 0, chip := 0,
        insn := fzWord (.mma c e ai r0 tA fmt grp prc), more := false })
    (x.active.shape = none → faults 0x07) ∧
    (∀ sh, x.active.shape = some sh →
      (sh.fmt ≠ fmt → faults 0x01) ∧
      (sh.fmt = fmt → sh.contraction ≠ d.cols → faults 0x02) ∧
      (sh.fmt = fmt → sh.contraction = d.cols → x.capacity ai < r0.val + d.rows → faults 0x02)))

/-- MDRAIN of words whose parity holds, over a sound network, that passes its checks: with nearest rounding to a plain
format and no record named, each row holds the entries, scaled and converted, packed in order; in every form, every
byte outside the rows (and scale rows) of tD and outside the amax word of the record that gl names reads as before;
the engine's accumulators, tiles and banks stay; and of the rest of the state only the core's own registers, poison
marks and the counter of free values may change (03 R83, R84, 02 R60). A zero extent does nothing. MDRAIN.F32X2 of a
wide tile whose words' parity holds, over a sound network: every entry is written as its two FP32 halves, lo below hi,
and every byte outside the rows reads as before (03 R85, 07 R194). A zero extent does nothing. -/
def Obligations.DrainResults : Prop :=
  (∀ (s : State) (c : CoreId) (e : EngId) (ai : AReg) (r0 : Fin 128) (tD : TReg) (gk gl : GReg) (fmt : Fmt)
    (sr sat : Bool) (d : TileDesc) (k : Int) (rec_ : Option Nat), Ready s c → s.latent = .empty →
    Memory.wf s.mem = true → (Instr.mdrain c e ai r0 tD gk gl fmt sr sat).wf = true → engineVisited s c e = false →
    let v := s.core c.val
    let x := v.engine e
    drainIssueChecks c v tD gk gl fmt false sat = .ok (d, k, rec_) →
    (d.isEmpty = true → exec (.mdrain c e ai r0 tD gk gl fmt sr sat) s = .next (s.retire c id)) ∧
    (d.isEmpty = false → drainEngineChecks e v ai r0.val d false sr = .ok () → v.stpUpset = none →
      s.upsets.network = none → (∀ k, x.accParityBad.get false k = false) →
      ∃ t, exec (.mdrain c e ai r0 tD gk gl fmt sr sat) s = .next t ∧
        (∀ b, (∀ r ∈ drainRuns false d, b < r.1 ∨ r.1 + r.2 ≤ b) → (∀ a, rec_ = some a → b < a + 64 ∨ a + 68 ≤ b) →
          t.byte b = s.byte b) ∧
        (sr = false → fmt.isBlock = false → rec_ = none → (d.rows ≤ 1 ∨ d.rowBytes ≤ d.rstride) →
          ∀ i < d.rows, t.bytes (d.rowAddr i) d.rowBytes = packCodes fmt ((List.range d.cols).map fun n =>
            (convertPlain fmt .nearest sat ((entryValue (x.isWide ai) (x.entry ai (r0.val + i) n)).scale k)).code)) ∧
        (t.core c.val).pc = v.pc + 8 ∧ (t.core c.val).engines = v.engines ∧ (t.core c.val).g = v.g ∧
        (t.core c.val).v = v.v ∧ (t.core c.val).p = v.p ∧ (t.core c.val).t = v.t ∧
        t = { s with cores := t.cores, mem := t.mem, poison := t.poison, draws := t.draws })) ∧
  (∀ (s : State) (c : CoreId) (e : EngId) (ai : AReg) (r0 : Fin 128) (tD : TReg) (gk gl : GReg) (d : TileDesc),
    Ready s c → Memory.wf s.mem = true → engineVisited s c e = false →
    let v := s.core c.val
    let x := v.engine e
    drainIssueChecks c v tD gk gl .fp32 true false = .ok (d, 0, none) →
    (d.isEmpty = true → exec (.mdrainF32x2 c e ai r0 tD gk gl) s = .next (s.retire c id)) ∧
    (d.isEmpty = false → drainEngineChecks e v ai r0.val d true false = .ok () →
      s.upsets.network = none → (∀ k, x.accParityBad.get false k = false) →
      ∃ t, exec (.mdrainF32x2 c e ai r0 tD gk gl) s = .next t ∧
        (∀ b, (∀ r ∈ drainRuns true d, b < r.1 ∨ r.1 + r.2 ≤ b) → t.byte b = s.byte b) ∧
        (∀ i n, i < d.rows → n < d.cols →
          leNat (t.bytes (d.rowAddr i + 8 * n) 4) = (x.entry ai (r0.val + i) n).2.toNat ∧
          leNat (t.bytes (d.rowAddr i + 8 * n + 4) 4) = (x.entry ai (r0.val + i) n).1.toNat) ∧
        (t.core c.val).pc = v.pc + 8 ∧ (t.core c.val).engines = v.engines ∧
        t = { s with cores := t.cores, mem := t.mem, poison := t.poison, latent := t.latent }))

/-! ## The vector unit -/

/-- The INT32, logic, shift and lane instructions of a ready core whose vector checks find nothing: each active lane of vd
takes the result that R125 gives, poisoned where a word it reads is; nothing else changes but the counts of the
clamped lanes (05 R118, R125, 06 Vector). What a vector result leaves: each lane in the list takes its word and mark;
every other lane of vd, every other v register, every other register, the engines and the pc stay (05 R118). -/
def Obligations.VectorIntegerResults : Prop :=
  (∀ (s : State) (c : CoreId) (vd vs vt : VReg) (gs : GReg) (pq pk : PReg), Ready s c →
    (s.core c.val).vecUpset = none →
    let lanes (f : CoreSt → Nat → LaneOut) : Answer :=
      .next (s.retire c fun v => v.putLanes vd ((v.active pk).map fun l => (l, f v l)))
    let two (f : Word32 → Word32 → Word32) : Answer := lanes fun v l =>
      ⟨f (v.lane vs l) (v.lane vt l), .none, v.lanePoison vs l || v.lanePoison vt l⟩
    let clamp (f : Int → Int → Int) : Answer := lanes fun v l =>
      let r := f (v.lane vs l).toInt (v.lane vt l).toInt
      ⟨BitVec.ofInt 32 (max (-2 ^ 31) (min (2 ^ 31 - 1) r)), if r < -2 ^ 31 ∨ 2 ^ 31 - 1 < r then .sat else .none,
        v.lanePoison vs l || v.lanePoison vt l⟩
    exec (.vaddI c vd vs vt pk) s = two (fun a b => BitVec.ofInt 32 (a.toInt + b.toInt)) ∧
    exec (.vsubI c vd vs vt pk) s = two (fun a b => BitVec.ofInt 32 (a.toInt - b.toInt)) ∧
    exec (.vmulI c vd vs vt pk) s = two (fun a b => BitVec.ofInt 32 (a.toInt * b.toInt)) ∧
    exec (.vmulh c vd vs vt pk) s = two (fun a b => BitVec.ofInt 32 (a.toInt * b.toInt / 2 ^ 32)) ∧
    exec (.vmulhU c vd vs vt pk) s = two (fun a b => BitVec.ofNat 32 (a.toNat * b.toNat / 2 ^ 32)) ∧
    exec (.vsll c vd vs vt pk) s = two (fun a b => if b.toNat < 32 then BitVec.ofNat 32 (a.toNat * 2 ^ b.toNat) else 0) ∧
    exec (.vsrl c vd vs vt pk) s = two (fun a b => if b.toNat < 32 then BitVec.ofNat 32 (a.toNat / 2 ^ b.toNat) else 0) ∧
    exec (.vsra c vd vs vt pk) s = two (fun a b => if b.toNat < 32 then BitVec.ofInt 32 (a.toInt / 2 ^ b.toNat)
      else if a.toInt < 0 then BitVec.allOnes 32 else 0) ∧
    exec (.vand c vd vs vt pk) s = two (fun a b => a &&& b) ∧
    exec (.vor c vd vs vt pk) s = two (fun a b => a ||| b) ∧
    exec (.vxor c vd vs vt pk) s = two (fun a b => a ^^^ b) ∧
    exec (.vaddISat c vd vs vt pk) s = clamp (fun a b => a + b) ∧
    exec (.vsubISat c vd vs vt pk) s = clamp (fun a b => a - b) ∧
    exec (.vperm c vd vs vt pk) s = lanes (fun v l =>
      ⟨v.lane vs ((v.lane vt l).toNat % 256), .none, v.lanePoison vs ((v.lane vt l).toNat % 256) || v.lanePoison vt l⟩) ∧
    exec (.vsel c vd vs vt pq pk) s = lanes (fun v l =>
      if (v.pread pq).getLsbD l then ⟨v.lane vs l, .none, v.lanePoison vs l⟩ else ⟨v.lane vt l, .none, v.lanePoison vt l⟩) ∧
    exec (.vbcast c vd gs pk) s = lanes (fun v _ => ⟨BitVec.ofNat 32 (v.gread gs).toNat, .none, false⟩)) ∧
  (∀ (v : CoreSt) (vd r : VReg) (pk : PReg) (f : Nat → LaneOut) (l : Nat), l < 256 → v.v.wf 0 = true →
    v.vPoison.wf false = true →
    let t := v.putLanes vd ((v.active pk).map fun k => (k, f k))
    (t.lane r l = if r = vd ∧ (v.pread pk).getLsbD l then (f l).word else v.lane r l) ∧
    (t.lanePoison r l = if r = vd ∧ (v.pread pk).getLsbD l then (f l).bad else v.lanePoison r l) ∧
    t.g = v.g ∧ t.p = v.p ∧ t.t = v.t ∧ t.pc = v.pc ∧ t.engines = v.engines ∧ t.stipple = v.stipple ∧
    t.v.wf 0 = true ∧ t.vPoison.wf false = true)

/-- The FP32 and transcendental instructions of a ready core whose vector unit no self-test visit occupies: each active
lane takes its function's exact value rounded once by rn32, with the count of R54; the .A forms clear the low 11 bits
of a finite non-zero result; a reciprocal that overflows is +∞ for either sign (05 R122 to R124, R129 to R131; log
entry 152, read from R131 by inference). Every FP32 code that is no NaN is its value's rounding, with no flush or
saturation: decoding and rounding lose no bit, and every NaN gives the canonical NaN (02 R36, R38, 03 R70). -/
def Obligations.VectorFloatResults : Prop :=
  (∀ (s : State) (c : CoreId) (vd vs vt vu : VReg) (pk : PReg), Ready s c → (s.core c.val).vecUpset = none →
    vectorVisited s c = false →
    let lanes (f : CoreSt → Nat → Conv) (bad : CoreSt → Nat → Bool) : Answer :=
      .next (s.retire c fun v => v.putLanes vd ((v.active pk).map fun l => (l, convOut (f v l) (bad v l))))
    let one (f : FVal → Conv) : Answer := lanes (fun v l => f (val32 (v.lane vs l))) fun v l => v.lanePoison vs l
    let two (f : FVal → FVal → Conv) : Answer := lanes (fun v l => f (val32 (v.lane vs l)) (val32 (v.lane vt l)))
      fun v l => v.lanePoison vs l || v.lanePoison vt l
    let cut (r : Conv) : Conv := approx r
    let rcp (a : FVal) : Conv :=
      let q := (FVal.fin false 1 0).div a
      if a.isFin = true ∧ a.isZero = false ∧ (rn32 q).1.isInf = true then round32 (.inf false) else round32 q
    exec (.vadd c vd vs vt pk) s = two (fun a b => round32 (a.add b)) ∧
    exec (.vsub c vd vs vt pk) s = two (fun a b => round32 (a.sub b)) ∧
    exec (.vmul c vd vs vt pk) s = two (fun a b => round32 (a.mul b)) ∧
    exec (.vfma c vd vs vt vu pk) s = lanes
      (fun v l => round32 (((val32 (v.lane vs l)).mul (val32 (v.lane vt l))).add (val32 (v.lane vu l))))
      (fun v l => v.lanePoison vs l || v.lanePoison vt l || v.lanePoison vu l) ∧
    exec (.vdiv c vd vs vt pk) s = two (fun a b => round32 (a.div b)) ∧
    exec (.vsqrt c vd vs pk) s = one (fun a => round32 a.sqrt) ∧
    exec (.vmin c vd vs vt pk) s = two (fpPick false) ∧
    exec (.vmax c vd vs vt pk) s = two (fpPick true) ∧
    exec (.vabs c vd vs pk) s = one (fun a => round32 a.abs) ∧
    exec (.vneg c vd vs pk) s = one (fun a => round32 a.negate) ∧
    exec (.vexp2 c vd vs pk) s = one (fun a => round32 a.exp2) ∧
    exec (.vexp2A c vd vs pk) s = one (fun a => cut (round32 a.exp2)) ∧
    exec (.vlog2 c vd vs pk) s = one (fun a => round32 a.log2) ∧
    exec (.vlog2A c vd vs pk) s = one (fun a => cut (round32 a.log2)) ∧
    exec (.vrcp c vd vs pk) s = one rcp ∧
    exec (.vrcpA c vd vs pk) s = one (fun a => cut (rcp a)) ∧
    exec (.vrsqrt c vd vs pk) s = one (fun a => round32 a.rsqrt) ∧
    exec (.vrsqrtA c vd vs pk) s = one (fun a => cut (round32 a.rsqrt)) ∧
    exec (.vsinpi c vd vs pk) s = one (fun a => round32 a.sinPi) ∧
    exec (.vcospi c vd vs pk) s = one (fun a => round32 a.cosPi)) ∧
  (∀ w : Word32, round32 (val32 w) =
    if w.toNat % 2 ^ 31 > 0x7F800000 then ⟨0x7FC00000, .nan⟩
    else if w.toNat % 2 ^ 31 = 0x7F800000 then ⟨w.toNat, .inf⟩ else ⟨w.toNat, .none⟩)

/-- Predicate instructions: VCMP writes the relation in every active lane and keeps the other bits, PAND, POR, PXOR and
PNOT act on all 256 bits where the duplicated logic agrees; one that names p0 as its destination faults precisely and
writes nothing (05 R118, R124). VEXT of a sound lane word writes it, zero-extended, whatever the predicates; VEXT of a
poisoned word and VCMP of a poisoned active source take a unit-precise POISON fault of the vector unit and write no
register (05 R143, 06 R157). -/
def Obligations.PredicateAndExtractResults : Prop :=
  (∀ (s : State) (c : CoreId) (pd ps pt pk : PReg) (vs vt : VReg) (rel : Rel) (ty : CmpType), Ready s c →
    let v := s.core c.val
    let faults (i : Instr) : Prop := exec i s = .next (s.setCore c.val (v.detect
      { cause := 0x02, detail := 0x05, unit := 0, eng := 0, prec := 0, lane := 0, pc := v.pc, addr := 0, chip := 0,
        insn := fzWord i, more := false }))
    (pd = 0 → faults (.pand c pd ps pt) ∧ faults (.por c pd ps pt) ∧ faults (.pxor c pd ps pt) ∧ faults (.pnot c pd ps) ∧
      (vectorVisited s c = false → faults (.vcmp c pd vs vt rel ty pk))) ∧
    (pd ≠ 0 → v.vecUpset = none →
      exec (.pand c pd ps pt) s = .next (s.retire c fun v => v.pwrite pd (v.pread ps &&& v.pread pt)) ∧
      exec (.por c pd ps pt) s = .next (s.retire c fun v => v.pwrite pd (v.pread ps ||| v.pread pt)) ∧
      exec (.pxor c pd ps pt) s = .next (s.retire c fun v => v.pwrite pd (v.pread ps ^^^ v.pread pt)) ∧
      exec (.pnot c pd ps) s = .next (s.retire c fun v => v.pwrite pd (~~~v.pread ps)) ∧
      ((ty = .fp32 → vectorVisited s c = false) →
        (∀ l ∈ v.active pk, v.lanePoison vs l = false ∧ v.lanePoison vt l = false) →
        ∃ p : BitVec 256, exec (.vcmp c pd vs vt rel ty pk) s = .next (s.retire c fun v => v.pwrite pd p) ∧
          ∀ l < 256, p.getLsbD l = if (v.pread pk).getLsbD l then cmpLane rel ty (v.lane vs l) (v.lane vt l)
            else (v.pread pd).getLsbD l))) ∧
  (∀ (s : State) (c : CoreId) (gd : GReg) (vs vt : VReg) (lane : Fin 256) (pd pk : PReg) (rel : Rel) (ty : CmpType),
    Ready s c → (s.core c.val).vecUpset = none →
    let v := s.core c.val
    let faults (i : Instr) : Prop := exec i s = .next (s.retire c fun w => ({ w with poisonSeen := true } : CoreSt).detect
      { cause := 0x06, detail := 0, unit := 2, eng := 0, prec := 1, lane := 0, pc := v.pc, addr := 0, chip := 0,
        insn := fzWord i, more := false })
    (v.lanePoison vs lane.val = false → exec (.vext c gd vs lane) s =
      .next (s.retire c fun v => v.gwrite gd (BitVec.ofNat 64 (v.lane vs lane.val).toNat))) ∧
    (v.lanePoison vs lane.val = true → faults (.vext c gd vs lane)) ∧
    (pd ≠ 0 → (ty = .fp32 → vectorVisited s c = false) →
      (∃ l ∈ v.active pk, v.lanePoison vs l = true ∨ v.lanePoison vt l = true) → faults (.vcmp c pd vs vt rel ty pk)))

/-- A reduction writes lane 0 of vd alone, with the value of the tree of R127 over the active lanes, and poisons it where
an active lane is poisoned; VRSUM.I wraps (05 R127, R128). VRAND of a seeded core takes one draw in each active lane,
in ascending order, and writes it unmodified; in a core that is not seeded it takes a unit-precise ILLEGAL_STATE fault
and no draw (05 R135, R136, R139). The generator steps as R136 writes it. SEED, where the copies of its hash agree,
gives every lane the first eight bytes of its digest, 1 in place of 0, and sets the seeded flag; nothing else but the
pc changes (05 R137, R139). -/
def Obligations.ReductionAndDrawResults : Prop :=
  (∀ (s : State) (c : CoreId) (vd vs : VReg) (pk : PReg), Ready s c → (s.core c.val).vecUpset = none →
    vectorVisited s c = false →
    let v := s.core c.val
    let bad := (v.active pk).any fun l => v.lanePoison vs l
    let lane0 (r : Conv) : Answer := .next (s.retire c fun v => v.putLanes vd [(0, convOut r bad)])
    let xs := (List.range 256).map fun l => if (v.pread pk).getLsbD l then some (val32 (v.lane vs l)) else none
    let tree (op : FVal → FVal → FVal) : Option FVal := reduceTree op 8 xs
    exec (.vrsum c vd vs pk) s = lane0 (sumConv vs pk v) ∧
    (sumConv vs pk v).code =
      (match tree fun a b => (rn32 (a.add b)).1 with | none => 0 | some x => (round32 x).code) ∧
    exec (.vrmax c vd vs pk) s = lane0 (pickConv true vs pk v) ∧
    exec (.vrmin c vd vs pk) s = lane0 (pickConv false vs pk v) ∧
    ((v.active pk) = [] → (pickConv true vs pk v).code = 0xFF800000 ∧ (pickConv false vs pk v).code = 0x7F800000) ∧
    exec (.vrsumI c vd vs pk) s =
      lane0 ⟨((v.active pk).map fun l => (v.lane vs l).toNat).sum % 2 ^ 32, .none⟩) ∧
  ((∀ (v : CoreSt) (l : Nat),
    let x := v.stipple.get 0 l
    let a := x ^^^ (x <<< 13)
    let b := a ^^^ (a >>> 7)
    let y := b ^^^ (b <<< 17)
    v.draw l = (BitVec.ofNat 32 (((y * 0x9E3779B97F4A7C15) >>> 32).toNat), { v with stipple := v.stipple.set 0 l y })) ∧
  (∀ (s : State) (c : CoreId) (vd : VReg) (pk : PReg), Ready s c →
    let v := s.core c.val
    (v.seeded = false → exec (.vrand c vd pk) s = .next (s.retire c fun w => w.detect
      { cause := 0x03, detail := 0x01, unit := 2, eng := 0, prec := 1, lane := 0, pc := v.pc, addr := 0, chip := 0,
        insn := fzWord (.vrand c vd pk), more := false })) ∧
    (v.seeded = true → v.stpUpset = none → exec (.vrand c vd pk) s = .next (s.retire c fun v =>
      let d := drawLanes v (v.active pk)
      d.2.putLanes vd (d.1.map fun p => (p.1, ⟨p.2, .none, false⟩)))))) ∧
  (∀ (s : State) (c : CoreId) (gj gs : GReg), Ready s c → (s.core c.val).stpUpset = none →
    let v := s.core c.val
    ∃ f : Nat → Word, exec (.seed c gj gs) s =
        .next (s.retire c fun v => { v with stipple := Table.ofFn 256 0 f, seeded := true }) ∧
      ∀ l < 256, (Table.ofFn 256 0 f).get 0 l = f l ∧ f l ≠ 0 ∧
        let d := leNat ((sha3_256 (leBytes 8 (v.gread gj).toNat ++ leBytes 4 v.chipIndex ++ leBytes 2 (partIndex s c)
          ++ leBytes 2 l ++ leBytes 8 (v.gread gs).toNat)).take 8)
        f l = if BitVec.ofNat 64 d = 0 then 1 else BitVec.ofNat 64 d)

/-- VLD and VLDX of addresses inside the own local store, no error being latent: every lane, or every active lane, takes
its word of memory and that word's mark; a lane with a poisoned offset is marked and makes no access; no memory
changes (05 R120, 06 Vector). VST and VSTX of addresses inside the own local store, where no check fails: the words of
the register, or of its active lanes, stand at their addresses (in VSTX the highest lane that names a word), every
other byte of memory reads as before, and of the core only the pc moves and lines of its buffer that it writes go; a
VSTX with a poisoned active offset faults and stores nothing (05 R120, R121). -/
def Obligations.VectorMemoryResults : Prop :=
  (∀ (s : State) (c : CoreId) (vd vt : VReg) (gs : GReg) (off : BitVec 24) (pk : PReg), Ready s c → s.latent = .empty →
    let v := s.core c.val
    let o := (v.gread gs + off.signExtend 64).toNat
    let a := localAddr c o
    let at' (l : Nat) : Nat := localAddr c (laneOffset (v.gread gs) (v.lane vt l))
    let word (b : Nat) : Word32 := BitVec.ofNat 32 (leNat (s.bytes b 4))
    (o % 64 = 0 → o + 1024 ≤ 0x800000 → exec (.vld c vd gs off) s = .next (s.retire c fun v =>
      v.putLanes vd ((List.range 256).map fun l => (l, ⟨word (a + 4 * l), .none, s.wordPoisoned ((a + 4 * l) / 8)⟩)))) ∧
    (v.vecUpset = none → offsetFault v gs vt (v.active pk) = none →
      exec (.vldx c vd gs vt pk) s = .next (s.retire c fun w => w.putLanes vd ((v.active pk).map fun l => (l,
        if v.lanePoison vt l then ⟨v.lane vd l, .none, true⟩
        else ⟨word (at' l), .none, s.wordPoisoned (at' l / 8)⟩))))) ∧
  (∀ (s : State) (c : CoreId) (vs vt : VReg) (gs : GReg) (off : BitVec 24) (pk : PReg), Ready s c →
    Memory.wf s.mem = true → s.upsets.network = none →
    let v := s.core c.val
    let o := (v.gread gs + off.signExtend 64).toNat
    let a := localAddr c o
    let at' (l : Nat) : Nat := localAddr c (laneOffset (v.gread gs) (v.lane vt l))
    (v.vecUpset = none → o % 64 = 0 → o + 1024 ≤ 0x800000 → ∃ t, exec (.vst c vs gs off) s = .next t ∧
      (∀ l < 256, leNat (t.bytes (a + 4 * l) 4) = (v.lane vs l).toNat) ∧
      (∀ b, b < a ∨ a + 1024 ≤ b → t.byte b = s.byte b) ∧
      t = { s.retire c (fun v => (v.dropLines a 1024).sawPoison ((List.range 256).any (v.lanePoison vs))) with
        mem := t.mem, poison := t.poison, latent := t.latent }) ∧
    (v.vecUpset = none → offsetFault v gs vt (v.active pk) = none → (∀ l ∈ v.active pk, v.lanePoison vt l = false) →
      ∃ t, exec (.vstx c vs gs vt pk) s = .next t ∧
        (∀ l ∈ v.active pk, (∀ m ∈ v.active pk, at' m = at' l → m ≤ l) → leNat (t.bytes (at' l) 4) = (v.lane vs l).toNat) ∧
        (∀ b, (∀ l ∈ v.active pk, b < at' l ∨ at' l + 4 ≤ b) → t.byte b = s.byte b) ∧
        ∃ buf : List BufLine, (∀ b ∈ buf, b ∈ v.readBuf) ∧
          t = { s.retire c (fun w => { w.sawPoison ((v.active pk).any (v.lanePoison vs)) with readBuf := buf }) with
            mem := t.mem, poison := t.poison, latent := t.latent }) ∧
    (offsetFault v gs vt (v.active pk) = none → ∀ l, (v.active pk).find? (v.lanePoison vt) = some l →
      exec (.vstx c vs gs vt pk) s = .next (s.retire c fun w => ({ w with poisonSeen := true } : CoreSt).detect
        { cause := 0x06, detail := 0, unit := 2, eng := 0, prec := 1, lane := l, pc := v.pc, addr := 0, chip := 0,
          insn := fzWord (.vstx c vs gs vt pk), more := false })))

/-- XCVT of a ready core that passes its checks, with no stochastic rounding. A conversion between FP32 and a 16-bit or
INT32 format converts each active lane by itself. A conversion to a block format writes the packed elements, block j
at byte j × (bytes of a block), and the eight scale codes in the low bytes of the second register, the rest zero; one
from a block format reads the same layouts back (05 R132 to R134, R563, 02 R42, R50). XCVT with stochastic rounding of
a seeded core: one draw in each active lane, in ascending order, and each lane rounds with its own; not seeded, it
takes a unit-precise ILLEGAL_STATE fault before any draw (02 R44, R45, 05 R139, 06 R562). -/
def Obligations.ConversionResults : Prop :=
  (∀ (s : State) (c : CoreId) (dst src : Fmt) (vd vs vx : VReg) (gk : GReg) (pk : PReg) (sat tz : Bool) (k : Int),
    Ready s c → vectorVisited s c = false → (s.core c.val).vecUpset = none →
    (Instr.xcvt c dst src vd vs gk vx pk false sat tz).wf = true →
    let v := s.core c.val
    let i := Instr.xcvt c dst src vd vs gk vx pk false sat tz
    let mode : Rounding := if tz then .towardZero else .nearest
    xcvtChecks v dst src vd gk vx pk false sat tz = .ok k →
    (dst.isBlock = false → src.isBlock = false → exec i s = .next (s.retire c fun v => v.putLanes vd
      ((v.active pk).map fun l => (l, convOut (convertPlain dst mode sat ((sourceValue src (v.lane vs l)).scale k))
        (v.lanePoison vs l))))) ∧
    (src.isBlock = true → exec i s = .next (s.retire c fun v => v.putLanes vd ((v.active pk).map fun l =>
      (l, xcvtFromBlock src vs vx (v.image vs) (v.image vx) v l)))) ∧
    (dst.isBlock = true → exec i s = .next (s.retire c fun w =>
      w.putBlocks dst vd vx (xcvtToBlock dst vs k (fun _ => mode) none v)))) ∧
  (∀ (s : State) (c : CoreId) (dst src : Fmt) (vd vs vx : VReg) (gk : GReg) (pk : PReg) (sat : Bool) (k : Int),
    Ready s c → vectorVisited s c = false → (s.core c.val).vecUpset = none → (s.core c.val).stpUpset = none →
    (Instr.xcvt c dst src vd vs gk vx pk true sat false).wf = true →
    let v := s.core c.val
    let i := Instr.xcvt c dst src vd vs gk vx pk true sat false
    xcvtChecks v dst src vd gk vx pk true sat false = .ok k →
    (v.seeded = false → exec i s = .next (s.retire c fun w => w.detect
      { cause := 0x03, detail := 0x01, unit := 2, eng := 0, prec := 1, lane := 0, pc := v.pc, addr := 0, chip := 0,
        insn := fzWord i, more := false })) ∧
    (v.seeded = true → dst.isBlock = false → src.isBlock = false → exec i s = .next (s.retire c fun w =>
      let d := drawLanes w (w.active pk)
      d.2.putLanes vd ((v.active pk).map fun l => (l, convOut
        (convertPlain dst (drawRounding (((d.1.find? fun p => p.1 == l).map (·.2)).getD 0)) sat
          ((sourceValue src (v.lane vs l)).scale k)) (v.lanePoison vs l))))))

/-! ## The data mover, semaphores and fences -/

/-- DCOPY, DCOPY.RED and DHASH of a ready core that pass their checks, while the mover has room, enter the mover: the
operation waits with what it was given at issue, and no byte has moved (06 R145, R159). Nothing else but the pc
changes. The faults of DCOPY at issue that depend on its operands alone, in their order: an empty register, another
format, other extents, and extents that share a byte (06 R152, R159, R170). Each is precise, and nothing is queued. -/
def Obligations.MoverIssueResults : Prop :=
  (∀ (s : State) (c : CoreId) (tD tS : TReg) (gd gsem : GReg) (fmt : Fmt) (o : MoverOp), Ready s c →
    moverLoad s c < 64 →
    let v := s.core c.val
    let enters (i : Instr) : Answer := .next (s.retire c fun v =>
      { v with mover := v.mover ++ [{ o with insn := fzWord i }], moverNext := v.moverNext + 1 })
    (localChecks s c v tD tS gsem none = .ok o → exec (.dcopy c tD tS gsem) s = enters (.dcopy c tD tS gsem) ∧ o.kind = .copy ∧ o.pc = v.pc ∧
      v.tread tS = some o.src ∧ v.tread tD = some o.dst ∧ o.src.fmt = o.dst.fmt ∧ o.src.rows = o.dst.rows ∧
      o.src.cols = o.dst.cols) ∧
    (localChecks s c v tD tS gsem (some fmt) = .ok o → exec (.dcopyRed c tD tS gsem fmt) s = enters (.dcopyRed c tD tS gsem fmt) ∧
      o.kind = .reduce fmt ∧ o.src.fmt = fmt ∧ o.dst.fmt = fmt ∧ reduceFormat fmt = true ∧
      placeOf o.dst.base.toNat = .dram) ∧
    (hashChecks s c v gd tS gsem = .ok o → exec (.dhash c gd tS gsem) s = enters (.dhash c gd tS gsem) ∧
      v.tread tS = some o.src ∧ placeOf o.src.base.toNat = .dram ∧ (v.gread gd).toNat % 32 = 0)) ∧
  (∀ (s : State) (c : CoreId) (tD tS : TReg) (gsem : GReg), Ready s c → moverLoad s c < 64 →
    let v := s.core c.val
    let faults (cause detail : Nat) : Prop := exec (.dcopy c tD tS gsem) s = .next (s.setCore c.val (v.detect
      { cause := cause, detail := detail, unit := 0, eng := 0, prec := 0, lane := 0, pc := v.pc, addr := 0, chip := 0,
        insn := fzWord (.dcopy c tD tS gsem), more := false }))
    (v.tread tS = none → faults 0x03 0x02) ∧
    (∀ a b, v.tread tS = some a → tileInOnePlace s v a = .ok () → v.tread tD = some b → tileInOnePlace s v b = .ok () →
      (a.fmt ≠ b.fmt → faults 0x02 0x01) ∧
      (a.fmt = b.fmt → (a.rows ≠ b.rows ∨ a.cols ≠ b.cols) → faults 0x02 0x02) ∧
      (a.fmt = b.fmt → a.rows = b.rows → a.cols = b.cols →
        (∃ p ∈ a.runs, ∃ q ∈ b.runs, p.1 < q.1 + q.2 ∧ q.1 < p.1 + p.2) → faults 0x02 0x0B)))

/-- The completion of a sound DCOPY between stores, with which no access has raced and whose checks find nothing, moves
every byte of each row to its place, writes nothing else, removes the operation from the mover and adds 1 to its
semaphore with the rank of the core's mover (06 R160, 09 R246). The element sums of DCOPY.RED: INT32 wraps modulo
2^32; FP32, FP16 and BF16 take the exact sum, rounded once to the nearest (06 R162, 08 R228). -/
def Obligations.CopyCompletionMovesEachRow : Prop :=
  (∀ (s : State) (c : CoreId) (o : MoverOp) (before after : List MoverOp), s.latent = .empty → Memory.wf s.mem = true →
    let v := s.core c.val
    v.seqState = .running → v.mover = before ++ o :: after → (∀ x ∈ before ++ after, x.id ≠ o.id) → o.kind = .copy →
    o.src.rows = o.dst.rows → o.src.cols = o.dst.cols → o.src.fmt = o.dst.fmt → o.src.isEmpty = false →
    o.src.fmt.isBlock = false → apart o.src o.dst = .ok () → (o.dst.rows ≤ 1 ∨ o.dst.rowBytes ≤ o.dst.rstride) →
    (∀ r ∈ o.src.runs ++ o.dst.runs, 0x200000000000 ≤ r.1 ∧ s.poisonedIn r.1 r.2 = false) →
    o.before = s.mem → o.beforePoison = s.poison → o.hurt = false → o.refused s = false → v.moverUpset = false →
    s.upsets.network = none →
    ∃ t u, exec (.dmoverComplete c o.id) s = .next t ∧
      (∀ i < o.dst.rows, u.bytes (o.dst.rowAddr i) o.dst.rowBytes = s.bytes (o.src.rowAddr i) o.src.rowBytes) ∧
      (∀ b, (∀ r ∈ o.dst.runs, b < r.1 ∨ r.1 + r.2 ≤ b) → u.byte b = s.byte b) ∧
      u = { s.setCore c.val { v with mover := before ++ after } with mem := u.mem, poison := u.poison } ∧
      t = (match o.gsem with
        | none => u
        | some n => arrive n (.add (coreRank n c true) v.context (BitVec.ofNat 64 (semNameWord n)) 1) u)) ∧
  (∀ a b : Nat,
    reduceElem .int32 a b = (a + b) % 2 ^ 32 ∧
    reduceElem .fp32 a b = (round32 ((val32 (BitVec.ofNat 32 a)).add (val32 (BitVec.ofNat 32 b)))).code ∧
    reduceElem .fp16 a b = (convertPlain .fp16 .nearest false ((fmtValue .fp16 a).add (fmtValue .fp16 b))).code ∧
    reduceElem .bf16 a b = (convertPlain .bf16 .nearest false ((fmtValue .bf16 a).add (fmtValue .bf16 b))).code)

/-- A .R form, or a remote add, of a ready core that passes its checks joins the chip's operations with what it was given,
and the pc moves on; a zero add sends nothing; gv of all ones, and a chip that is this one or does not fit 16 bits,
fault precisely (06 R159, R161, 12 R342). -/
def Obligations.RemoteIssueResults : Prop :=
  ∀ (s : State) (c : CoreId) (tD tS : TReg) (gs gv gsem gchip gdsem : GReg) (fmt : Fmt), Ready s c →
    let v := s.core c.val
    let room := moverLoad s c < 64
    let joins (i : Instr) (p : RemoteOp → Prop) : Prop := ∃ t, exec i s = .next t ∧ (t.core c.val).pc = v.pc + 8 ∧
      (t.core c.val).moverNext = v.moverNext + 1 ∧ t.mem = s.mem ∧ t.fab.ops.length = s.fab.ops.length + 1 ∧
      ∃ o ∈ t.fab.ops, p o ∧ o.core = c ∧ o.ctx = v.context ∧ o.pc = v.pc ∧ o.insn = fzWord i ∧ o.seq = v.moverNext ∧
        o.dst = (v.gread gchip).setWidth 16
    let x := v.gread gv
    (∀ o, room → remoteTileChecks s c v (.dcopyR c tD tS gsem gchip gdsem) tD tS gsem gchip gdsem none = .ok o →
      o.src.isEmpty = false →
      joins (.dcopyR c tD tS gsem gchip gdsem) fun q => q.kind = .copy ∧ q.src = o.src ∧ q.dstDesc = o.dstDesc) ∧
    (∀ o, room → remoteTileChecks s c v (.dcopyRedR c tD tS gsem gchip gdsem fmt) tD tS gsem gchip gdsem (some fmt) = .ok o →
      o.src.isEmpty = false →
      joins (.dcopyRedR c tD tS gsem gchip gdsem fmt) fun q => q.kind = .reduce fmt ∧ q.src = o.src ∧ q.dstDesc = o.dstDesc) ∧
    (v.port.length < 16 → x ≠ BitVec.allOnes 64 →
      (∀ chip j, x ≠ 0 → chipOperand s (v.gread gchip) = .ok chip → remoteChecks s v.context chip 4 = .ok j →
        (v.port = [] → joins (.semAddR c gs gv gchip) fun q => q.kind = .semAdd (v.gread gs) x) ∧
        joins (.semAddRRel c gs gv gchip) fun q => q.kind = .semAdd (v.gread gs) x) ∧
      (∀ chip, x = 0 → chipOperand s (v.gread gchip) = .ok chip →
        exec (.semAddR c gs gv gchip) s = .next (s.retire c id) ∧
        exec (.semAddRRel c gs gv gchip) s = .next (s.retire c id))) ∧
    (v.port.length < 16 → x = BitVec.allOnes 64 → exec (.semAddR c gs gv gchip) s = .next (s.setCore c.val (v.detect
      { cause := 0x02, detail := 0x03, unit := 0, eng := 0, prec := 0, lane := 0, pc := v.pc, addr := 0, chip := 0,
        insn := fzWord (.semAddR c gs gv gchip), more := false }))) ∧
    (v.port.length < 16 → x ≠ BitVec.allOnes 64 →
      (bitsAt (v.gread gchip) 16 48 ≠ 0 ∨ ((v.gread gchip).setWidth 16 = ownChip s ∧ ownChip s ≠ 0xFFFF)) →
      exec (.semAddR c gs gv gchip) s = .next (s.setCore c.val (v.detect
        { cause := 0x02, detail := 0x09, unit := 0, eng := 0, prec := 0, lane := 0, pc := v.pc, addr := 0, chip := 0,
          insn := fzWord (.semAddR c gs gv gchip), more := false })))

/-- The semaphore operations of a ready core whose port is empty reach their semaphore at once, with the core's rank:
SEM.ADD, SEM.SET, the waits, which also hold issue, and SEM.ADD.REL where the conditions of FENCE.DIE are met; and
every earlier semaphore operation of the core has been applied; where they are not, the release waits in the port. A
zero add or wait does nothing; all ones faults precisely, and so does a name outside the context's allotment (06
Synchronisation, R163, 09 R237, R242, R246). -/
def Obligations.SemaphoreIssueResults : Prop :=
  ∀ (s : State) (c : CoreId) (gs gv : GReg), Ready s c → (s.core c.val).port = [] →
    let v := s.core c.val
    let x := v.gread gv
    let name := v.gread gs
    let waits (n : SemId) (k : WaitKind) : Answer := .next (arrive n (.wait (coreRank n c false) (.core c) k name x v.pc)
      (s.retire c fun w => { w with hold := .sem k n name x v.pc }))
    let faults (i : Instr) (cause detail : Nat) : Prop := exec i s = .next (s.setCore c.val (v.detect
      { cause := cause, detail := detail, unit := 0, eng := 0, prec := 0, lane := 0, pc := v.pc, addr := 0, chip := 0,
        insn := fzWord i, more := false }))
    (∀ n, coreSem s c name = .ok n →
      let add : Answer := .next (arrive n (.add (coreRank n c false) v.context (BitVec.ofNat 64 (semNameWord n)) x)
        (s.retire c id))
      exec (.semSet c gs gv) s = .next (arrive n (.set (coreRank n c false) c x v.pc (fzWord (.semSet c gs gv)))
        (s.retire c id)) ∧
      (x = 0 → exec (.semAdd c gs gv) s = .next (s.retire c id) ∧ exec (.semAddRel c gs gv) s = .next (s.retire c id) ∧
        exec (.semWait c gs gv) s = .next (s.retire c id)) ∧
      (x = BitVec.allOnes 64 → faults (.semAdd c gs gv) 0x02 0x03 ∧ faults (.semAddRel c gs gv) 0x02 0x03 ∧
        faults (.semWait c gs gv) 0x02 0x03 ∧ faults (.semWaitAcq c gs gv) 0x02 0x03 ∧ faults (.semAcq c gs gv) 0x02 0x03) ∧
      (x ≠ 0 → x ≠ BitVec.allOnes 64 →
        exec (.semAdd c gs gv) s = add ∧
        exec (.semAddRel c gs gv) s = (if semUnapplied s c = false ∧ fenceMet s c .die v.moverNext = true then add
          else .next (s.retire c fun w => { w with port := [.addRel n x v.moverNext] })) ∧
        exec (.semWait c gs gv) s = waits n .wait ∧
        exec (.semWaitAcq c gs gv) s = waits n .waitAcq ∧
        exec (.semAcq c gs gv) s = waits n .acq)) ∧
    (∀ d, coreSem s c name = .error d → faults (.semAdd c gs gv) 0x04 d ∧ faults (.semWait c gs gv) 0x04 d ∧
      faults (.semSet c gs gv) 0x04 d)

/-- An update adds everything that has arrived. A sum above 0xFFFF_FFFF_FFFF_FFFF stops there; then, and only then, ovf is
set in the context's SEM_ALLOT and an error record of cause 0x17 is written; no fault is taken (09 R248). The update
of a sound word drops the waits that their cores have abandoned (06 R168), applies the adds and one other operation,
and the scan of R250 follows; a word whose error its code corrects is recorded and updated alike (15 R423). -/
def Obligations.SemaphoreAddsSaturate : Prop :=
  ∀ (s : State) (n : SemId) (rank : Nat) (k : CtxId) (name v : Word), (s.sem n).arrivals = [.add rank k name v] →
    let sum := (s.sem n).value.toNat + v.toNat
    let added := s.setSem n { s.sem n with value := BitVec.ofNat 64 (min sum 0xFFFFFFFFFFFFFFFF), arrivals := [] }
    (sum ≤ 0xFFFFFFFFFFFFFFFF → applyAdds n s = added) ∧
    (sum > 0xFFFFFFFFFFFFFFFF → ∃ r : ErrRec, r.cause = 0x17 ∧ r.names = some k ∧
      applyAdds n s = logError r (added.setCtx k.val
        { s.ctx k.val with semAllot := (s.ctx k.val).semAllot ||| BitVec.ofNat 64 (2 ^ 32) })) ∧
    (applyAdds n s).cores = s.cores ∧
    let updated (u : State) : State :=
      let d := applyAdds n (dropAbandoned n u)
      scanSem n (match firstArrival (d.sem n).arrivals with
        | some a => applyOther n a (d.setSem n { d.sem n with arrivals := (d.sem n).arrivals.erase a })
        | none => d)
    ((s.sem n).upset = none → exec (.semaphoreUpdate n) s = .next (updated s)) ∧
    ((s.sem n).upset = some true → exec (.semaphoreUpdate n) s =
      .next (updated (semCorrected n (s.setSem n { s.sem n with upset := none }))))

/-- The scan takes waiters in order of registration. A plain wait is let go where its target is not above the value left
by the acquires before it; an acquire is let go, and its target subtracted, where besides no acquire before it stays
(09 R250). SEM.SET at its semaphore: with no waiter registered it replaces the value; with one, the value stays and
its core takes a unit-precise ILLEGAL_STATE fault with detail 0x03 (09 R251, 06 R170). -/
def Obligations.ScanTakesWaitersInOrder : Prop :=
  ((∀ x, scanWaiters x false [] = (x, [], [])) ∧
  ∀ (x : Word) (before : List Waiter) (w : Waiter),
    let r := scanWaiters x false before
    scanWaiters x false (before ++ [w]) =
      if w.target.toNat ≤ r.1.toNat ∧ (w.kind = .acq → ∀ a ∈ r.2.2, a.kind ≠ .acq) then
        (if w.kind = .acq then r.1 - w.target else r.1, r.2.1 ++ [w], r.2.2)
      else (r.1, r.2.1, r.2.2 ++ [w])) ∧
  (∀ (s : State) (n : SemId) (c : CoreId) (value insn : Word) (pc : Addr),
    ((s.sem n).waiters = [] → applySet n c value pc insn s = s.setSem n { s.sem n with value := value }) ∧
    ((s.sem n).waiters ≠ [] → applySet n c value pc insn s = s.setCore c.val ((s.core c.val).detect
      { cause := 0x03, detail := 0x03, unit := 4, eng := 0, prec := 1, lane := 0, pc := pc, addr := 0, chip := 0,
        insn := insn, more := false })))

/-- A fence of a ready core retires and drops the read-combining buffer; where its conditions do not hold yet it holds
issue, and FENCE_SATISFIED releases it when they do. END ends the core's part of its launch where the conditions of
FENCE.SYS hold, and waits for them otherwise. Each fence implies the narrower ones (06 R164, 09 R236). A core that
ends is idle and has finished its part of its launch; a release that heads a core's port leaves it once the conditions
of FENCE.DIE hold for what precedes it and earlier semaphore operations have been applied, and then its add arrives
(06 Control, 09 R237, R238). -/
def Obligations.FenceAndEndResults : Prop :=
  ((∀ (s : State) (c : CoreId), Ready s c →
    let u := s.retire c fun v => { v with readBuf := [] }
    let fence (k : FenceKind) : Answer := .next (if fenceDone s c k then u
      else s.retire c fun v => { v with readBuf := [], hold := .fence k })
    exec (.fenceCore c) s = fence .core ∧ exec (.fenceCluster c) s = fence .cluster ∧
    exec (.fenceDie c) s = fence .die ∧ exec (.fenceSys c) s = fence .sys ∧
    exec (.endProg c) s = .next (if fenceDone s c .sys then endCore c (s.retire c id)
      else s.retire c fun v => { v with hold := .endWait })) ∧
  (∀ (s : State) (c : CoreId) (k : FenceKind), (s.core c.val).hold = .fence k → fenceDone s c k = true →
    exec (.fenceSatisfied c) s = .next (s.setCore c.val { s.core c.val with hold := .none })) ∧
  (∀ (s : State) (c : CoreId), (s.core c.val).hold = .endWait → (s.core c.val).fault = none →
    (s.core c.val).stopping = false → fenceDone s c .sys = true →
    exec (.fenceSatisfied c) s = .next (endCore c s)) ∧
  (∀ (s : State) (c : CoreId) (n : Nat), (fenceMet s c .sys n = true → fenceMet s c .die n = true) ∧
    (fenceMet s c .die n = true → fenceMet s c .cluster n = true) ∧
    (fenceMet s c .cluster n = true → fenceMet s c .core n = true))) ∧
  ((∀ (s : State) (c : CoreId) (l : CoreLaunch), (s.core c.val).seqState = .running → (s.core c.val).launch = some l →
    (s.sq l.sq).cmd = none → ∃ w, endCore c s = s.setCore c.val w ∧ w.seqState = .idle ∧ w.hold = .none ∧
      (∃ l', w.launch = some l' ∧ l'.done = true) ∧ w.g = (s.core c.val).g ∧ w.v = (s.core c.val).v ∧
      w.engines = (s.core c.val).engines) ∧
  (∀ (s : State) (c : CoreId) (n : SemId) (x : Word) (before : Nat), (s.core c.val).seqState = .running →
    (s.core c.val).port = [.addRel n x before] →
    exec (.releaseSatisfied c) s = .next (if semUnapplied s c = false ∧ fenceMet s c .die before = true then
      arrive n (.add (coreRank n c false) (s.core c.val).context (BitVec.ofNat 64 (semNameWord n)) x)
        (s.setCore c.val { s.core c.val with port := [] })
      else s)))

/-! ## Telemetry, training state and faults -/

/-- NSTAT and PTIME read what stands at issue: the counters and NTM_STAT of the core, the plumb count, and its valid bit
(06 R165, 02 R57, 01 R30). A counter stops at 0xFFFF_FFFF_FFFF_FFFE, and the stop sets its bit of NTM_STAT, which
nothing else of the counting clears (02 R55). -/
def Obligations.TelemetryResults : Prop :=
  (∀ (s : State) (c : CoreId) (gd : GReg), Ready s c →
    let v := s.core c.val
    let gets (w : Word) : Answer := .next (s.retire c fun v => if gd = 0 then v else { v with g := v.g.set 0 gd.val w })
    exec (.nstatSat c gd) s = gets v.ntmSat ∧ exec (.nstatFlush c gd) s = gets v.ntmFlush ∧
    exec (.nstatNan c gd) s = gets v.ntmNan ∧ exec (.nstatInf c gd) s = gets v.ntmInf ∧
    exec (.nstatStat c gd) s = gets v.ntmStat ∧ exec (.ptime c gd) s = gets s.plumb.now ∧
    exec (.ptimeV c gd) s = gets (if s.plumb.valid then 1 else 0)) ∧
  (∀ (v : CoreSt) (k : Tally), v.ntmSat.toNat ≤ 2 ^ 64 - 2 → v.ntmStat.toNat < 16 →
    let t := v.tally k
    t.ntmSat.toNat = min (2 ^ 64 - 2) (v.ntmSat.toNat + k.sat) ∧
    t.ntmStat.getLsbD 0 = (v.ntmStat.getLsbD 0 || decide (k.sat ≠ 0 ∧ 2 ^ 64 - 2 ≤ v.ntmSat.toNat + k.sat)) ∧
    (v.ntmStat &&& t.ntmStat) = v.ntmStat ∧ t.ntmStat.toNat < 16 ∧ t.g = v.g ∧ t.v = v.v ∧ t.engines = v.engines)

/-- LSTAT on a sound record of the own local store pushes cur_amax: it is written to hist[head], head moves on modulo 16,
filled grows to at most 16, pushes wraps at 2^32, cur_amax becomes +0, and prop_code is what 02 R63 computes from the
entries that are valid after the push; every other byte of memory reads as before (02 R61, R63). A misaligned or
foreign record faults (02 R59). -/
def Obligations.LstatPushesARecord : Prop :=
  ∀ (s : State) (c : CoreId) (gl : GReg), Ready s c → s.latent = .empty → Memory.wf s.mem = true →
    let v := s.core c.val
    let a := (v.gread gl).toNat
    let old (o n : Nat) : Nat := leNat (s.bytes (a + o) n)
    let head := old 68 1 % 16
    let filled := min (old 69 1 + 1) 16
    let faults (detail : Nat) : Prop := exec (.lstat c gl) s = .next (s.setCore c.val (v.detect
      { cause := 0x04, detail := detail, unit := 0, eng := 0, prec := 0, lane := 0, pc := v.pc,
        addr := BitVec.ofNat 48 a, chip := 0, insn := fzWord (.lstat c gl), more := false }))
    (a % 128 ≠ 0 → faults 0x01) ∧
    (a % 128 = 0 → placeOf a ≠ .localStore c.val → faults 0x03) ∧
    (a % 128 = 0 → placeOf a = .localStore c.val → s.poisonedIn a 128 = false →
      ∃ t, exec (.lstat c gl) s = .next t ∧
        (let new (o n : Nat) : Nat := leNat (t.bytes (a + o) n)
        new (4 * head) 4 = old 64 4 ∧ (∀ j < 16, j ≠ head → new (4 * j) 4 = old (4 * j) 4) ∧ new 64 4 = 0 ∧
        new 68 1 = (head + 1) % 16 ∧ new 69 1 = filled ∧ new 70 6 = old 70 6 ∧ new 80 4 = (old 80 4 + 1) % 2 ^ 32 ∧
        new 76 1 = proposal
          (amaxOf (decide (old 71 1 % 2 = 1)) ((List.range filled).map fun j => ffp32.decode (new (4 * j) 4))
            (ffp32.decode (old 64 4)))
          (ffp32.decode (old 72 4)) (old 70 1 % 8)) ∧
        (∀ b, b < a ∨ a + 84 ≤ b → t.byte b = s.byte b) ∧
        t = { s.retire c (fun v => v.dropLines a 128) with mem := t.mem, poison := t.poison })

/-- SGET of a part to a place that may hold it, where no text page lies, writes the header of 16 R452 and the part's body
there and nothing else; the core keeps its state, but for lines of its buffer that it wrote (06 R166, 09 R236, 16
R453). SPUT of a sound image that its part accepts restores that part and nothing else; an image with a wrong header
or body takes a unit-precise ILLEGAL_OPERAND fault with detail 0x08 and restores nothing (06 R166, 05 R140, 16 R454).
What SGET writes of the generators and of the counters SPUT accepts and gives back, the flag included (05 R140, 16
R453, R454). -/
def Obligations.StateImageResults : Prop :=
  (∀ (s : State) (c : CoreId) (part : Part) (ga : GReg), Ready s c → Memory.wf s.mem = true →
    let v := s.core c.val
    let a := (v.gread ga).toNat
    let n := 64 + partLength part
    imagePlace s v a n = .ok () → 0x200000000000 ≤ a → s.writeRefused .empty a n = false →
    (v.badOffsets part = [] → ∃ t, exec (.sget c part ga) s = .next t ∧
      t.bytes a n = imageHeader part v.seeded (partIndex s c) ++ v.body part ∧
      (∀ b, b < a ∨ a + n ≤ b → t.byte b = s.byte b) ∧
      ∃ buf : List BufLine, (∀ l ∈ buf, l ∈ v.readBuf) ∧
        t = { s.retire c (fun v => { v with readBuf := buf }) with mem := t.mem, poison := t.poison, latent := t.latent })) ∧
  (∀ (s : State) (c : CoreId) (part : Part) (ga : GReg), Ready s c → s.latent = .empty →
    let v := s.core c.val
    let a := (v.gread ga).toNat
    let n := 64 + partLength part
    let h := s.bytes a 64
    imagePlace s v a n = .ok () → 0x200000000000 ≤ a → s.poisonedIn a n = false →
    let restored := restorePart { v with pc := v.pc + 8 } part (byteAt h 6).toNat (s.bytes (a + 64) (partLength part)) []
    (∀ w, headerGood part h = true → restored = some w → exec (.sput c part ga) s = .next (s.setCore c.val w)) ∧
    (headerGood part h = false ∨ restored = none → exec (.sput c part ga) s = .next (s.retire c fun w => w.detect
      { cause := 0x02, detail := 0x08, unit := 5, eng := 0, prec := 1, lane := 0, pc := v.pc, addr := 0, chip := 0,
        insn := fzWord (.sput c part ga), more := false }))) ∧
  (∀ v : CoreSt, v.stipple.wf 0 = true → (∀ r ∈ v.stipple.rows, r.1 < 256) →
    (v.seeded = true → ∀ l < 256, v.stipple.get 0 l ≠ 0) → (v.seeded = false → v.stipple = .empty) →
    restorePart v .stp v.seeded.toNat (v.body .stp) [] = some v ∧
    (v.ntmSat ≠ BitVec.allOnes 64 → v.ntmFlush ≠ BitVec.allOnes 64 → v.ntmNan ≠ BitVec.allOnes 64 →
      v.ntmInf ≠ BitVec.allOnes 64 → v.ntmStat.toNat < 16 → restorePart v .ntm 0 (v.body .ntm) [] = some v))

/-- A word that does not decode takes a precise ILLEGAL_INSTR fault with the decoder's detail, and a poisoned word that
reaches issue a precise POISON fault of the fetch, at the word's address, with SEQ_FLT3 zero; where no error is
latent, nothing else changes but the mark of R429 (07 R195, R196, R198). A core whose executors are idle, with no
instruction held by a self-test visit, writes the fault it detected to SEQ_FLT0 to SEQ_FLT3 field by field, is stopped
by its own fault, and, where no core of its context has faulted before, raises its context's fault; a core that its
context stops records CONTEXT_STOP (06 R168 to R170). The front end's answer to a context fault of a context with no
queue: every running core of the context stops issuing, no other core changes, and the fault that the context keeps
stays; with none raised nothing happens (06 R168, 10 R281). -/
def Obligations.FaultHandlingResults : Prop :=
  (∀ (s : State) (c : CoreId) (w : Word) (d : Nat), Ready s c →
    let v := s.core c.val
    (decodeFz c w.toNat = .error d → exec (.illegalInstr c w) s = .next (s.setCore c.val (v.detect
      { cause := 0x01, detail := d, unit := 0, eng := 0, prec := 0, lane := 0, pc := v.pc, addr := 0, chip := 0,
        insn := w, more := false }))) ∧
    (s.latent = .empty → exec (.fetchPoison c) s = .next (s.setCore c.val (({ v with poisonSeen := true } : CoreSt).detect
      { cause := 0x06, detail := 0, unit := 6, eng := 0, prec := 0, lane := 0, pc := v.pc, addr := v.pc, chip := 0,
        insn := 0, more := false })))) ∧
  ((∀ (s : State) (c : CoreId) (f : FaultRec),
    let v := s.core c.val
    v.fault = some f → v.seqState = .running → v.visitHeld = false → v.port = [] → v.launch = none → (s.ctx v.context.val).fault = none →
    f.cause < 256 → f.detail < 256 → f.unit < 8 → f.eng < 4 → f.prec < 4 → f.lane < 256 →
    ∃ t w x, exec (.coreFaultRecord c) s = .next t ∧ t.cores = (s.setCore c.val w).cores ∧ t.mem = s.mem ∧
      t.ctxs = (s.setCtx v.context.val x).ctxs ∧ x.fault = some ⟨c, f.cause, f.detail, f.pc, s.clk⟩ ∧ x.faultRaised = true ∧
      w.seqState = .ownFault ∧ w.fault = none ∧ w.hold = .none ∧ w.mover = [] ∧ w.g = v.g ∧ w.v = v.v ∧
      w.engines = v.engines ∧ w.pc = v.pc ∧
      w.flt0.toNat = f.cause + f.detail * 2 ^ 8 + f.unit * 2 ^ 16 + f.eng * 2 ^ 19 + f.prec * 2 ^ 21
        + f.more.toNat * 2 ^ 23 + f.lane * 2 ^ 24 + 2 ^ 63 ∧
      w.flt1.toNat = f.pc.toNat ∧ w.flt2.toNat = f.addr.toNat + f.chip.toNat * 2 ^ 48 ∧ w.flt3 = f.insn) ∧
  (∀ (s : State) (c : CoreId), let v := s.core c.val
    v.stopping = true → v.fault = none → v.seqState = .running → v.visitHeld = false → v.port = [] → v.launch = none →
    (s.ctx v.context.val).faultRaised = true →
    ∃ t w, exec (.contextStop c) s = .next t ∧ t.cores = (s.setCore c.val w).cores ∧ t.mem = s.mem ∧
      w.seqState = .ctxStopped ∧ w.stopping = false ∧ w.hold = .none ∧ w.mover = [] ∧ w.flt0.toNat = 0x09 + 2 ^ 63 ∧
      w.flt1.toNat = v.pc.toNat ∧ w.flt2 = 0 ∧ w.g = v.g ∧ w.v = v.v ∧ w.engines = v.engines ∧ w.pc = v.pc)) ∧
  (∀ (s : State) (k : CtxId) (f : CtxFault), (s.ctx k.val).fault = some f →
    ((s.ctx k.val).faultRaised = false → exec (.contextFault k) s = .next s) ∧
    ((s.ctx k.val).faultRaised = true → queuesOf s k = [] → (∀ n, (s.core n).launch = none) →
      Table.wf s.cores .reset = true →
      ∃ t, exec (.contextFault k) s = .next t ∧ t.mem = s.mem ∧ t.sqs = s.sqs ∧
        (∀ n, t.core n =
          if (s.core n).seqState = .running ∧ (s.core n).context = k then { s.core n with stopping := true } else s.core n) ∧
        t.ctxs = (s.setCtx k.val { s.ctx k.val with faultRaised := false }).ctxs))

/-! ## The front end -/

/-- NOP, WAIT, SIGNAL, LAUNCH and COPY at the head of a queue that can start: fetched, with a header in order and fields
that pass their checks, the command does what 10 says and moves head: NOP completes; WAIT sends its wait to the
semaphore; SIGNAL adds and completes; LAUNCH pins its generation and waits for its cores; COPY takes up its work. A
target or length of 0 completes at once, and a reserved opcode is INVALID at offset 0 (10 R271 to R278). -/
def Obligations.FrontEndCommandResults : Prop :=
  ∀ (s : State) (q : SqId) (hostBytes bs : Bytes), canStart s q = true → fetchEntry s q hostBytes = some bs →
    let k := (s.sq q.val).context
    let run := startCmd q bs (fetchRead q s)
    let blank (lo n : Nat) : Prop := ∀ i, lo ≤ i → i < lo + n → byteAt bs i = 0
    let opcode := (byteAt bs 0).toNat
    let header : Prop := (byteAt bs 1).toNat ≤ 1 ∧ blank 2 6
    let name := BitVec.ofNat 64 (leAt bs 16 8)
    let x := BitVec.ofNat 64 (leAt bs 24 8)
    let ends : Answer := .next (complete q { status := 0x00 } run)
    (opcode = 0 → header → blank 16 48 → exec (.commandNop q hostBytes) s = ends) ∧
    (9 ≤ opcode → exec (.commandNop q hostBytes) s = .next (complete q { status := 0x01, info := 0 } run)) ∧
    (∀ n, header → blank 32 32 → frontSem run k name = some n → x ≠ BitVec.allOnes 64 →
      (opcode = 3 → exec (.waitCmd q hostBytes) s = (if x = 0 then ends else
        .next (arrive n (.wait (commandRank run q n) (.queue q) .waitAcq name x 0) (setWork q (.waitSem n name x) run)))) ∧
      (opcode = 4 → exec (.signalCmd q hostBytes) s = (if x = 0 then ends else
        .next (complete q { status := 0x00 } (arrive n (.add (commandRank run q n) k name x) run))))) ∧
    (∀ g, opcode = 1 → header → blank 48 16 → leAt bs 16 2 ≤ 0x3F → leAt bs 18 2 < 32768 → leAt bs 20 4 ≠ 0xFFFFFFFF →
      leAt bs 24 8 % 8 = 0 → (run.image k (leAt bs 16 2)).pick (leAt bs 20 4) = some g →
      (leAt bs 40 8 = 0 ∨ run.plumb.valid = true) → leAt bs 24 8 < g.textLen →
      ∃ t l, exec (.launch q hostBytes) s = .next t ∧ ((t.sq q.val).cmd.map fun r => r.work) = some (.launch l) ∧
        l.assigned = false ∧ l.started = false ∧ l.isCo = false ∧ l.startAt.toNat = leAt bs 40 8 ∧
        l.chipIndex = leAt bs 18 2 ∧
        l.branches = [branchOf 0 (leAt bs 16 2) g (leAt bs 24 8) (leAt bs 32 8)
          (if (run.ctx k.val).direct then [boundCoreOf run q] else partitionCores (run.ctx k.val)) 16] ∧
        ((t.sq q.val).cmd.map fun r => r.pins) = some [(leAt bs 16 2, g.num)] ∧
        t.ctxs = (pinGen k (leAt bs 16 2) g.num run).ctxs) ∧
    (opcode = 5 → header → blank 20 4 → blank 48 16 → run.latent = .empty →
      (leAt bs 40 8 = 0 → exec (.copyCmd q hostBytes) s = ends) ∧
      (∀ r, leAt bs 40 8 ≠ 0 → leAt bs 40 8 ≠ 2 ^ 64 - 1 → copyChecks run k bs = .ok r →
        exec (.copyCmd q hostBytes) s = .next (beginCopy q r run) ∧ r.len = leAt bs 40 8 ∧
        (∀ a b, r.src = .dram a → r.dst = .dram b → beginCopy q r run = setWork q (.copy r) run)))

/-- COLAUNCH and the image commands at the head of a queue that can start, with a header in order and fields, descriptors,
translations and contents that pass: COLAUNCH waits for the cores that its branches name; IMAGE_LOAD makes generation
1; IMAGE_PATCH makes the next generation from the patched bytes, beside the old one or in its place; IMAGE_RETIRE
drops unpinned generations (10 R282, R285 to R288). -/
def Obligations.GraphImageCommandResults : Prop :=
  ∀ (s : State) (q : SqId) (hostBytes bs : Bytes), canStart s q = true → fetchEntry s q hostBytes = some bs →
    let k := (s.sq q.val).context
    let run := startCmd q bs (fetchRead q s)
    let blank (lo n : Nat) : Prop := ∀ i, lo ≤ i → i < lo + n → byteAt bs i = 0
    let opcode := (byteAt bs 0).toNat
    let header : Prop := (byteAt bs 1).toNat ≤ 1 ∧ blank 2 6
    let image := leAt bs 16 2
    header → run.latent = .empty →
    (∀ (n : Nat) (b : BufDesc) (table : Bytes) (gens : List Gen), opcode = 2 → n = leAt bs 16 2 → 1 ≤ n → n ≤ 16 →
      leAt bs 18 2 < 32768 → blank 22 2 → blank 32 8 → blank 48 16 → leAt bs 24 8 % 64 = 0 →
      (run.ctx k.val).direct = false → bufDesc run k (leAt bs 20 2) 20 false true = .ok b →
      leAt bs 24 8 + 64 * n ≤ b.size → peek run k (b.base + leAt bs 24 8) (64 * n) 24 = .ok (some table) →
      let entries := branchEntries n table
      (∀ i < n, branchFields (run.ctx k.val) entries i = .ok ()) → gens.length = n →
      (∀ i < n, ∀ e g, entries[i]? = some e → gens[i]? = some g →
        (run.image k (leAt e 0 2)).pick (leAt e 4 4) = some g ∧ leAt e 8 8 < g.textLen) →
      (leAt bs 40 8 = 0 ∨ run.plumb.valid = true) →
      exec (.colaunch q hostBytes) s = .next (beginLaunch q k ((gens.zip entries).zipIdx.map fun p =>
        branchOf p.2 (leAt p.1.2 0 2) p.1.1 (leAt p.1.2 8 8) (leAt p.1.2 16 8)
          (maskCores (run.ctx k.val) (branchMask p.1.2)) (byteAt p.1.2 2).toNat)
        (leAt bs 18 2) (leAt bs 40 8) true run)) ∧
    (∀ (b : BufDesc) (h body : Bytes) (t : Table Nat), opcode = 6 → image ≤ 0x3F → blank 20 4 → blank 32 32 →
      leAt bs 24 8 % 64 = 0 → (run.image k image).gens = [] → bufDesc run k (leAt bs 18 2) 18 false true = .ok b →
      let a := b.base + leAt bs 24 8
      let textLen := leAt h 8 8
      let count := leAt h 48 4
      leAt bs 24 8 + 64 ≤ b.size → peek run k a 64 24 = .ok (some h) → badHeader h = false →
      leAt bs 24 8 + imageBytes textLen count ≤ b.size → peek run k a (imageBytes textLen count) 24 = .ok (some body) →
      imageDigest body textLen count = (h.drop 16).take 32 → imagePages run k a textLen count = .ok t →
      exec (.imageLoad q hostBytes) s = .next (complete q { status := 0x00, gen := 1 }
        (run.setImage k image ⟨[newGen t 1 a textLen count ((h.drop 16).take 32)], 1⟩))) ∧
    (∀ (g : Gen) (p : BufDesc) (list : Bytes) (a num : Nat) (t : Table Nat), opcode = 7 →
      firstBad (patchFields bs) = none → leAt bs 32 4 ≠ 0 → (run.image k image).pick (leAt bs 20 4) = some g →
      let inPlace := (byteAt bs 36).getLsbD 0
      let n := leAt bs 32 4
      (inPlace = true → g.pins = 0) → bufDesc run k (leAt bs 18 2) 18 false true = .ok p →
      leAt bs 24 8 + 16 * n ≤ p.size → peek run k (p.base + leAt bs 24 8) (16 * n) 24 = .ok (some list) →
      (∀ e ∈ patchEntries n list, e.1 % 8 = 0 ∧ e.1 < g.textLen) → patchTarget run k bs g = .ok a →
      run.poisonedVia g.map g.header g.extent = false →
      (if inPlace then t = g.map else imagePages run k a g.textLen g.tslCount = .ok t) →
      nextGen (run.image k image) (!inPlace) = .ok num →
      let new := patched (run.bytesVia g.map g.header g.extent) (patchEntries n list) g.textLen g.tslCount
      let digest := (new.drop 16).take 32
      let x := run.image k image
      let written := run.writeImage t a new fun _ => false
      exec (.imagePatch q hostBytes) s = .next (complete q { status := 0x00, gen := num } (written.setImage k image
        ⟨if inPlace then replaceGen x.gens g { g with num := num, digest := digest }
          else x.gens ++ [newGen t num a g.textLen g.tslCount digest], num⟩))) ∧
    (opcode = 8 → image ≤ 0x3F → blank 18 2 → blank 24 40 → leAt bs 20 4 ≠ 0xFFFFFFFF →
      let x := run.image k image
      let gone := if leAt bs 20 4 = 0 then x.gens else x.gens.filter fun g => g.num == leAt bs 20 4
      gone ≠ [] → (∀ g ∈ gone, g.pins = 0) →
      let kept := x.gens.filter fun g => !gone.contains g
      exec (.imageRetire q hostBytes) s = .next (complete q { status := 0x00, gen := highestNum gone }
        (run.setImage k image (if kept = [] then .none else { x with gens := kept }))))

/-- A core that starts its part of a launch holds the entry in its pc, the argument, its index in the partition, the chip
index and the core count in g1 to g4, and zero in every other register; a core that last worked for the same context
keeps its engines, generators and counters, and otherwise they are at their reset values (06 R149, R150); in a
confidential context stripback is off and disarmed (04 R113). A launch whose cores are idle and free is assigned, and
starts at once or waits for start_at; LAUNCH_START_AT starts it; a start_at that has passed at assignment is LATE; a
co-launch branch whose parts are over completes with its own entry (10 R278 to R283). -/
def Obligations.LaunchResults : Prop :=
  (∀ (q : SqId) (k : CtxId) (l : LaunchRun) (b : Branch) (s : State) (c : CoreId),
    let v := s.core c.val
    ∃ w, (startCore q k l b s c).cores = (s.setCore c.val w).cores ∧ w.seqState = .running ∧ w.pc = b.entry ∧
      w.gread 1 = b.args ∧ w.gread 2 = BitVec.ofNat 64 (c.val - 16 * (s.ctx k.val).first) ∧
      w.gread 3 = BitVec.ofNat 64 l.chipIndex ∧ w.gread 4 = BitVec.ofNat 64 b.cores.length ∧
      (∀ r : GReg, r = 0 ∨ 4 < r → w.gread r = 0) ∧ (∀ r i, w.lane r i = 0) ∧ (∀ r : PReg, r ≠ 0 → w.pread r = 0) ∧
      (∀ r, w.tread r = none) ∧ w.hold = .none ∧ w.fault = none ∧ w.context = k ∧
      ((s.ctx k.val).conf = true → bitAt w.stbCtl 0 = false ∧ bitAt w.stbCtl 48 = false) ∧
      (v.context = k → w.engines = v.engines ∧ w.stipple = v.stipple ∧ w.seeded = v.seeded ∧ w.ntmSat = v.ntmSat) ∧
      (v.context ≠ k → w.stipple = .empty ∧ w.seeded = false ∧ w.ntmSat = 0 ∧ w.ntmStat = 0 ∧
        ∀ e, (w.engine e).active = .reset ∧ (w.engine e).shadow = .reset ∧ (w.engine e).acc = .empty)) ∧
  (∀ (s : State) (q : SqId) (r : CmdRun) (l : LaunchRun), (s.sq q.val).cmd = some r → r.work = .launch l →
    let k := (s.sq q.val).context
    let cores := l.branches.flatMap fun b => b.cores
    (s.ctx k.val).resetRun = none → s.ctxFenced k.val = false →
    (l.assigned = false → (s.ctx k.val).hung = false → (s.proc 2).down = false → earlierClaim s q l.stamp cores = false →
      (∀ c ∈ cores, (s.core c.val).seqState = .idle ∧ coreTaken s c = false ∧ (s.proc (3 + c.val / 16)).down = false) →
      (l.startAt = 0 → exec (.launchCoresAssigned q) s =
        .next (startLaunch q { l with assigned := true, started := true }
          (setWork q (.launch { l with assigned := true, started := true }) s))) ∧
      (l.startAt ≠ 0 → s.plumb.now.toNat < l.startAt.toNat → exec (.launchCoresAssigned q) s =
        .next (setWork q (.launch { l with assigned := true }) s)) ∧
      (l.startAt ≠ 0 → l.startAt.toNat ≤ s.plumb.now.toNat → exec (.launchCoresAssigned q) s =
        .next (complete q { status := 0x04, info := s.plumb.now.toNat } s))) ∧
    (l.assigned = true → l.started = false → l.startAt.toNat ≤ s.plumb.now.toNat →
      exec (.launchStartAt q) s = .next (startLaunch q { l with started := true }
        (setWork q (.launch { l with started := true }) s))) ∧
    (∀ (i : Fin 16) (b : Branch), l.isCo = true → l.started = true →
      (l.branches.find? fun b => b.index == i.val && !b.done) = some b → branchOver s k b = true →
      let marked := l.branches.map fun b => if b.index == i.val then { b with done := true } else b
      exec (.branchComplete q i) s = .next (postResult q (branchResult s k b) (marked.all fun b => b.done)
        (setWork q (.launch { l with branches := marked }) s))))

/-- COPY_COMPLETE of a copy within DRAM, of words that carry no poison, over a sound network, to pages that hold no text:
the destination's pages take the source's bytes, every byte outside them reads as before, and the command completes
with SUCCESS (10 R276). -/
def Obligations.CopyCommandMovesItsBytes : Prop :=
  ∀ (s : State) (q : SqId) (r : CmdRun) (c : CopyRun) (a b : Nat), (s.sq q.val).cmd = some r → r.work = .copy c →
    c.src = .dram a → c.dst = .dram b → c.outstanding = 0 → c.failedAt = none → c.poisoned = false → s.latent = .empty →
    s.upsets.network = none → s.writeRefused c.pages b c.len = false → Memory.wf s.mem = true → s.poisonedVia c.pages a c.len = false → a + c.len ≤ 0x200000000000 →
    b + c.len ≤ 0x200000000000 →
    ∃ u, exec (.copyComplete q) s = .next (complete q { status := 0x00 } u) ∧
      u = { s with mem := u.mem, poison := u.poison } ∧
      (∀ x, (∀ i < c.len, x ≠ devAddr c.pages (b + i)) → u.byte x = s.byte x) ∧
      ((∀ i < c.len, ∀ j < c.len, devAddr c.pages (b + i) = devAddr c.pages (b + j) → i = j) →
        ∀ i < c.len, u.byte (devAddr c.pages (b + i)) = s.byte (devAddr c.pages (a + i)))

/-- Completion entries: with room, the next entry that can be written goes to the tail of its ring in host memory, 64
bytes laid out as 10 R269 says; the entry of a failed write takes the lowest free orphan slot and stalls its queue (10
R269, R289). The failures of the front end: a fetch that fails or reads poison halts the queue with fetch_err and
writes no entry; a command whose time is up leaves its queue HUNG and its context without further work; a partition
that stayed blocked for win_us leaves a snapshot in a free buffer and a record (10 R291, R292, 09 R258, R260). -/
def Obligations.CompletionAndFailureResults : Prop :=
  (∀ (s : State) (m : CqId), let c := s.cq m.val
    (∀ e rest, c.enabled = true → c.inflight = none → c.failed = false → c.full = false →
      takeEntry s c.waiting = some (e, rest) → hostOpen s = true → hostAllowed s (s.sq e.sq.val).context = true →
      e.status < 256 → e.branch < 256 → (s.sq e.sq.val).head < 65536 → e.gen < 2 ^ 32 →
      ∃ t bs, exec (.completionWrite m) s = .next t ∧
        t.out = s.out ++ [.hostWrite s.host.nextWrite (bitsAt c.base 12 52 * 4096 + 64 * c.tail) bs
          (List.replicate 64 true) false] ∧
        t.host.writes = s.host.writes ++
          [⟨s.host.nextWrite, bitsAt c.base 12 52 * 4096 + 64 * c.tail, .completion m, s.clk⟩] ∧
        bs.length = 64 ∧ leAt bs 0 8 = e.tag.toNat ∧ leAt bs 8 2 = e.sq.val ∧ leAt bs 10 2 = (s.sq e.sq.val).head ∧
        leAt bs 12 1 = e.status ∧ leAt bs 13 1 = e.branch ∧ leAt bs 24 8 = e.info.toNat ∧ leAt bs 32 8 = e.tStart.toNat ∧
        leAt bs 40 8 = s.plumb.now.toNat ∧ leAt bs 48 2 = min 0xFFFE e.sat ∧ leAt bs 56 4 = e.gen ∧
        leAt bs 63 1 = c.phase.toNat ∧ t.sqs = s.sqs ∧ t.mem = s.mem) ∧
    (∀ e rest i, c.failed = true → c.waiting = e :: rest → freeOrphan s = some i →
      ∃ t, exec (.completionOrphan m) s = .next t ∧ t.orphans = s.orphans.set none i (some (e.sq, c.entry)) ∧
        ((s.sq e.sq.val).state ≠ .hung → (s.sq e.sq.val).state ≠ .disabled → (t.sq e.sq.val).state = .stalledCpl ∧
          (t.sq e.sq.val).lastErr = BitVec.ofNat 8 e.status) ∧ t.mem = s.mem ∧ t.cores = s.cores)) ∧
  ((∀ (s : State) (q : SqId) (kind : BitVec 8), canStart s q = true →
    let x := s.sq q.val
    let fails : Prop := ∃ t, exec (.cmdFetchFail q kind) s = .next t ∧ (t.sq q.val).state = .halted ∧
      (t.sq q.val).fetchErr = true ∧ (t.sq q.val).head = x.head ∧ (t.sq q.val).cmd = none ∧ t.cqs = s.cqs
    (x.inDram = true → s.latent = .empty → s.poisonedIn x.entryAddr 64 = true → fails) ∧
    (x.inDram = false → hostOpen s = false ∨ hostAllowed s x.context = false ∨
      (fetchRoom s q = true ∧ (kind = 2 ∨ kind = 3 ∨ kind = 6)) → fails)) ∧
  (∀ (s : State) (q : SqId) (r : CmdRun), let x := s.sq q.val
    x.cmd = some r → x.state ≠ .hung → r.unfinished = true →
    (s.ctx x.context.val).resetRun = none → r.startClk + x.timeout ≤ s.clk →
    ∃ t, exec (.queueTimeout q) s = .next t ∧ (t.sq q.val).state = .hung ∧ (t.sq q.val).lastErr = 7 ∧
      (t.ctx x.context.val).hung = true ∧ t.cores = s.cores ∧ t.mem = s.mem) ∧
  (∀ (s : State) (k : CtxId) (since : Word), let x := s.ctx k.val
    x.blockedSince = some since → x.deadlockFired = false → blocked s k = true →
    since.toNat + bitsAt (dlkOf s k) 8 24 * 1200 ≤ s.plumb.now.toNat →
    ∃ t, exec (.deadlockFire k) s = .next t ∧ (t.ctx k.val).deadlockFired = true ∧ t.sems = s.sems ∧
      t.cores = s.cores ∧
      (bitAt s.dlkStat 0 = false → t.dlkSnap = snapshotOf s k since ∧ bitAt t.dlkStat 0 = true) ∧
      (bitAt s.dlkStat 0 = true → t.dlkSnap = s.dlkSnap ∧ bitAt t.dlkStat 1 = true)))

/-! ## Control space -/

/-- A write of control space: a permitted one has the effect that its register's chapter gives, and one that the
register's own rules reject, or that is not the owner's, or that no register takes, changes nothing but CSP_RFL, which
keeps the first refusal and counts them all (21 R553, R555, R556). A read of half of PLB_NOW: the low half latches the
high half for its reader, whose next read of the high half gets the latched one; a read of 8 bytes gets them all (01
R32). A host access to a VF's BAR0 reaches the page of the context bound to it; of an unbound VF it reads all ones and
writes nothing (13 R365). A host read of another size or alignment is an Unsupported Request (13 R366). The fabric
manager's accesses, by packet and by datagram: a permitted write has its effect and is answered with status 0; a
datagram from another address is dropped and counted (12 R350, 13 R384). -/
def Obligations.ControlSpaceResults : Prop :=
  ((∀ (s : State) (ini : Initiator) (off : Nat) (v : Word), off % 8 = 0 → actualInitiator s ini = ini →
    iniUp s ini = true →
    let refused (why : Nat) : Prop := exec (.registerWrite ini ⟨none, off⟩ 8 v) s =
      .next (answerRefusedWrite ini (noteRefusal ini off true why s))
    let r := regAt off
    (bootOwner (off / 4096) = none → refused 4) ∧
    ((bootOwner (off / 4096)).isSome = true → owns s ini off true v = false → refused 1) ∧
    ((bootOwner (off / 4096)).isSome = true → owns s ini off true v = true →
      (ini ≠ .security → writeClosed s r v = true → refused 5) ∧
      ((ini = .security ∨ writeClosed s r v = false) → v &&& res0 r ≠ 0 → refused 3)) ∧
    (Permitted s ini off v →
      (writeField ini r fullCover v s = none → refused 3) ∧
      ∀ t, writeField ini r fullCover v s = some t → exec (.registerWrite ini ⟨none, off⟩ 8 v) s = .next t)) ∧
  (∀ (s : State) (ini : Initiator) (off why : Nat) (write : Bool), why < 8 →
    let old := s.cspRfl
    let new := (noteRefusal ini off write why s).cspRfl
    noteRefusal ini off write why s = { s with cspRfl := new } ∧
    bitsAt new 48 16 = min 0xFFFE (bitsAt old 48 16 + 1) ∧ bitAt new 46 = true ∧
    (bitAt old 46 = true → bitsAt new 0 46 = bitsAt old 0 46 ∧ bitAt new 47 = true) ∧
    (bitAt old 46 = false → bitsAt new 0 28 = off % 2 ^ 28 ∧ bitAt new 28 = write ∧ bitsAt new 29 3 = why ∧
      bitsAt new 32 8 = iniCode ini ∧ bitsAt new 40 6 = iniQual ini ∧ bitAt new 47 = false))) ∧
  ((∀ (s : State) (ini : Initiator), actualInitiator s ini = ini → iniUp s ini = true →
    readAllowed s ini 0x2000 = true →
    let now := s.plumb.now
    let others := s.plumb.latches.filter fun r => r.1 != ini
    exec (.plbNowRead ini ⟨⟨none, 0x2000⟩, 8⟩) s = .next (s.emit (.readReply ini now false)) ∧
    exec (.plbNowRead ini ⟨⟨none, 0x2000⟩, 4⟩) s = .next (({ s with plumb := { s.plumb with
      latches := others ++ [(ini, (now >>> 32).setWidth 32)] } }).emit
        (.readReply ini (BitVec.ofNat 64 (now.toNat % 2 ^ 32)) false)) ∧
    (∀ h, (s.plumb.latches.find? fun r => r.1 == ini) = some (ini, h) → exec (.plbNowRead ini ⟨⟨none, 0x2004⟩, 4⟩) s =
      .next (({ s with plumb := { s.plumb with latches := others } }).emit (.readReply ini (h.setWidth 64) false))) ∧
    ((∀ r ∈ s.plumb.latches, r.1 ≠ ini) → exec (.plbNowRead ini ⟨⟨none, 0x2004⟩, 4⟩) s =
      .next (s.emit (.readReply ini (BitVec.ofNat 64 (now.toNat / 2 ^ 32)) false)))) ∧
  (∀ (s : State) (vf : CtxId) (off size : Nat) (v : Word), off < 0x10000 →
    (∀ k, boundCtx s vf = some k →
      exec (.registerWrite .host ⟨(some vf), off⟩ size v) s = exec (.registerWrite .host ⟨none, (ctxOff k off)⟩ size v) s ∧
      exec (.plbNowRead .host ⟨⟨(some vf), off⟩, size⟩) s = exec (.plbNowRead .host ⟨⟨none, (ctxOff k off)⟩, size⟩) s) ∧
    (boundCtx s vf = none → sizeLegal off size = true → iniUp s .host = true →
      exec (.registerWrite .host ⟨(some vf), off⟩ size v) s = .next s ∧
      exec (.plbNowRead .host ⟨⟨(some vf), off⟩, size⟩) s = .next (s.emit (.readReply .host (maskAt 0 (8 * size)) false))) ∧
    (sizeLegal off size = false → iniUp s .host = true →
      exec (.plbNowRead .host ⟨⟨none, off⟩, size⟩) s = .next (s.emit (.unsupportedRequest .host)) ∧
      exec (.registerWrite .host ⟨none, off⟩ size v) s = .next (hostRecord off hostMmio s))) ∧
  (∀ (s t : State) (off : Nat) (v : Word) (payload : Bytes), payload.length = 24 → leAt payload 0 8 = off →
    leAt payload 8 1 = 1 → leAt payload 16 8 = v.toNat → off % 8 = 0 → Permitted s .fabricManager off v →
    writeField .fabricManager (regAt off) fullCover v s = some t →
    (∀ (p : PortId) (k : Pkt), k.payload = payload → k.aux = 2 → delivered s ptMgmt k = true → k.crc = k.crcOf →
      exec (.controlSpaceAccess ⟨p, k⟩) s =
        .next (sendPkt { replyPkt ptMgmt k with aux := 3, payload := accessReply payload true v } t)) ∧
    (∀ (p : Fin 2) (src : BitVec 128), ((s.ethPort p.val).up0 || (s.ethPort p.val).up1) = true →
      (s.ethFm = true → src = fmAddress s → (∀ k : CtxId, (s.ctx k.val).recording = false) →
        exec (.mgmtDatagram ⟨p, 56⟩ src 2 payload) s = .next (sendFrame p.val tagManagement
          (.datagram (portMac s p.val) (fmAddress s) (accessReply payload true v)) t)) ∧
      (s.ethFm = false ∨ src ≠ fmAddress s → exec (.mgmtDatagram ⟨p, 56⟩ src 2 payload) s = .next (s.setEth p.val
        { s.ethPort p.val with fmDrop := min 0xFFFFFE ((s.ethPort p.val).fmDrop + 1) })))))

/-- Queue registers, through a context page or the global area, written by their owner: a doorbell moves tail, once its
journal has it, and makes an idle queue active; setting en empties the ring; resume and ack let a queue go on (10 R266
to R268, R290, R291). Context registers, written by their owner: GFE_CTX enables a context, whose new clusters'
semaphores are zero and whose taint ends, or disables an idle one, whose images go and whose other fields stay;
SEM_ALLOT zeroes an allotment that it enables; JNL_CTL empties the ring that it enables; RST_CTX starts a reset of the
rung that it names, with the next generation (09 R245, 10 R262, R263, 14 R397, R399, R414, 15 R430, 16 R468; that the
generation advances here is log entry 155). -/
def Obligations.QueueAndContextRegisterResults : Prop :=
  (∀ (s : State) (ini : Initiator) (page : Option CtxId) (v : Word),
    (∀ q : SqId, let x := s.sq q.val
      let tail := bitsAt v 0 16
      (Permitted s ini (queueOff page (0x2000 + 8 * q.val)) v → tail < x.size → x.state ≠ .disabled → x.state ≠ .hung →
        exec (.doorbell ini page q v) s =
          .next ((journalValue x.context { kind := 0x01, src := q.val, dig := leBytes 8 tail } s).setSq q.val
            { x with tail := tail, state := if x.state = .idle ∧ x.head ≠ tail then .active else x.state })) ∧
      (let ctl := if bitsAt v 32 22 = 0 then setBits v 32 22 (bitsAt x.ctl 32 22) else v
       Permitted s ini (queueOff page (0x4008 + 32 * q.val)) v → bitsAt v 32 22 ≤ 3600000 → 4 ≤ bitsAt v 10 5 →
        bitsAt v 10 5 ≤ 16 → x.enabled = false → bitAt v 0 = true → queueFits s { x with ctl := ctl } = true →
        exec (.sqEnable ini page q v) s =
          .next (s.setSq q.val { x with ctl := ctl, state := .idle, head := 0, tail := 0 })) ∧
      (Permitted s ini (queueOff page (0x4018 + 32 * q.val)) 1 → x.state = .halted →
        (∀ r ∈ s.cores.rows, r.2.isStopped = true → r.2.context ≠ x.context) →
        (∀ i ∈ s.rst.failedCores, (s.ctx x.context.val).hasCore i.val = false) →
        exec (.resume ini page q) s = .next (s.setSq q.val { x with state := x.settled, fetchErr := false })) ∧
      (Permitted s ini (queueOff page (0x4018 + 32 * q.val)) 2 → x.state = .stalledCpl → Table.wf s.sqs .reset = true →
        ∃ t, exec (.sqAck ini page q) s = .next t ∧
          (t.sq q.val).state = (if x.haltAtAck then .halted else x.settled) ∧ (t.sq q.val).heldEntry = none ∧
          t.cores = s.cores ∧ t.mem = s.mem ∧ t.cqs = s.cqs)) ∧
    (∀ m : CqId, let x := s.cq m.val
      Permitted s ini (queueOff page (0xC008 + 32 * m.val)) v → 4 ≤ bitsAt v 4 5 → bitsAt v 4 5 ≤ 16 →
      x.enabled = false → bitAt v 0 = true →
      exec (.cqEnable ini page m v) s = .next (s.setCq m.val { x with ctl := v, head := 0, tail := 0, phase := true }))) ∧
  (∀ (s : State) (ini : Initiator) (k : CtxId) (v : Word),
    let c := s.ctx k.val
    let new := { c with gfeCtx := setBits v 11 1 c.conf.toNat }
    let size := bitsAt v 8 3
    (Permitted s ini (ctxOff k 0) v → queuesOf s k = [] → size ≤ 4 → (bitAt v 1 = true → size ≤ 1) →
      bitsAt v 4 4 % 2 ^ size = 0 →
      (bitAt v 0 = true → clustersTaken s k new = false → clustersBad s new = false → s.boot.result ≠ 2 →
        s.boot.result ≠ 3 → ∃ t, exec (.gfeCtxEnable ini k v) s = .next t ∧
          t = { s.setCtx k.val { new with tainted := c.en && c.tainted } with sems := t.sems } ∧
          (∀ j i, t.sem (.cluster j i) =
            if new.hasCluster j.val = true ∧ c.hasCluster j.val = false then .reset else s.sem (.cluster j i)) ∧
          ∀ i, t.sem (.die i) = s.sem (.die i)) ∧
      (bitAt v 0 = false → c.en = true → contextBusy s k = false →
        exec (.gfeCtxDisable ini k v) s =
          .next (s.setCtx k.val { c with gfeCtx := setBits c.gfeCtx 0 1 0, images := .empty }))) ∧
    (Permitted s ini (ctxOff k 0x1008) v → 1 ≤ bitsAt v 16 9 → bitsAt v 8 8 + bitsAt v 16 9 ≤ 256 → bitAt v 0 = true →
      bitAt v 32 = false → bitAt c.semAllot 0 = false → bitAt c.semAllot 32 = false → contextBusy s k = false →
      allotmentTaken s k v = false →
      ∃ t, exec (.semAllotEnable ini k v) s = .next t ∧ t = { s.setCtx k.val { c with semAllot := v } with sems := t.sems } ∧
        (∀ j i, t.sem (.cluster j i) = s.sem (.cluster j i)) ∧
        ∀ i, t.sem (.die i) = if ({ c with semAllot := v } : Ctx).hasDieSem i.val then .reset else s.sem (.die i)) ∧
    (Permitted s ini (ctxOff k 0x1020) v → 10 ≤ bitsAt v 8 5 → bitsAt v 8 5 ≤ 24 →
      (bitAt c.jnlCtl 0 = false → bitAt v 0 = true → exec (.journalEnable ini k v) s =
        .next (s.setCtx k.val { c with jnlCtl := v, jnlHead := 0, jnlTail := 0 })) ∧
      (bitAt c.jnlCtl 0 = true → v ≠ setBits c.jnlCtl 0 1 0 → ini = .security →
        exec (.journalEnable ini k v) s = .next ((noteRefusal ini (ctxOff k 0x1020) true 3 s).emit (.readReply ini 0 true)))) ∧
    (c.en = true → c.resetRun = none →
      let settled (w : BitVec 8) : State := advanceGen k (settleContext k (s.setCtx k.val { c with rstCore := w }))
      let starts (w : BitVec 8) (r : Rung) (cores : List CoreId) : State :=
        (settled w).setCtx k.val { (settled w).ctx k.val with resetRun := some ⟨r, cores, (settled w).clk⟩ }
      (Permitted s ini (ctxOff k 0x1010) 1 → exec (.contextReset ini k) s = .next (starts 0 .context [])) ∧
      (Permitted s ini (ctxOff k 0x1010) 2 → exec (.partitionReset ini k) s = .next (starts 0 .partition [])) ∧
      (∀ core : CoreId, Permitted s ini (ctxOff k 0x1010) (BitVec.ofNat 64 (3 + 256 * core.val)) → c.hasCore core.val = true →
        exec (.coreReset ini k core) s = .next (starts (BitVec.ofNat 8 core.val) .core [core]))))

/-- Registers of the die, its clocks, cores and tables, written by their owner with fields that their chapters take (01
R29, 02 R57, 04 R113, 08 R222, R225, 13 R367, 14 R415, 16 R460, 17 R476, 19 R507, 21 R551). Registers of the links,
the fabric and the Ethernet ports, written by their owner: a retrain starts the port again, clr zeroes its counters, a
commit makes a sound staged table active or reports why not, a doorbell moves a ring's tail (11 R317, 12 R323, R324,
16 R462). -/
def Obligations.DieAndPortRegisterResults : Prop :=
  (∀ (s : State) (ini : Initiator) (v : Word),
    (Permitted s ini 0x5000 v → bitAt v 0 = true → bitsAt v 8 8 = 0xA5 →
      exec (.chipReset ini v) s = .next (chipReset 2 0 s)) ∧
    (Permitted s ini 0x1000 v → bitsAt v 0 3 ≤ 3 → 1 ≤ bitsAt v 8 5 → bitsAt v 8 5 ≤ 20 →
      ∃ d, exec (.aclkRequest ini v) s = .next { s with ckg := { s.ckg with
        reqDiv := d, reqKeep := bitsAt v 8 5, src := effSource s } } ∧
        [6, 8, 12, 24][bitsAt v 0 3]? = some d) ∧
    (∀ c : CoreId, Permitted s ini (coreOff c 0x40) v → coreSecret s c = false → bitsAt v 8 5 ≤ 15 → bitAt v 0 = true →
      bitsAt v 32 16 ≠ 0 → bitsAt v 32 16 ≠ 0xFFFF → (s.core c.val).engines.wf .reset = true →
      ∃ w, exec (.stbArm ini c v) s = .next (s.setCore c.val w) ∧ bitAt w.stbCtl 48 = true ∧ bitsAt w.stbCtl 32 16 = bitsAt v 32 16 ∧
        (w.engine (Fin.ofNat 4 (bitsAt v 4 2))).stbCount = 0 ∧ w.g = (s.core c.val).g ∧ w.stbCap = (s.core c.val).stbCap) ∧
    (∀ c : CoreId, Permitted s ini (coreOff c 0x20) 1 → (s.core c.val).seqState = .idle →
      exec (.ntmClear ini c) s = .next (s.setCore c.val
        { s.core c.val with ntmSat := 0, ntmFlush := 0, ntmNan := 0, ntmInf := 0, ntmStat := 0 })) ∧
    (∀ (f : Fin 1536) (b : BitVec 8), b.getLsbD 6 = false → Table.wf s.atu.frm 0 = true →
      Permitted s ini (0x70000 + f.val / 8 * 8) (setBits (framesWord s (f.val / 8)) (8 * (f.val % 8)) 8 b.toNat) →
      ∃ t w, exec (.frameWrite ini f b) s = .next { s with atu := { s.atu with frm := t }, upsets := { s.upsets with frame := w } } ∧
        (s.upsets.frame = none → w = none) ∧ t.get 0 f.val = b ∧
        ∀ g, g ≠ f.val → t.get 0 g = s.atu.frm.get 0 g) ∧
    (Permitted s ini 0x71000 v → s.atu.invBusy = false → bitsAt v 6 2 ≠ 3 → exec (.invalidationStart ini v) s =
      .next { s with atu := ⟨s.atu.frm, BitVec.ofNat 6 (bitsAt v 0 6), BitVec.ofNat 2 (bitsAt v 6 2),
        BitVec.ofNat 24 (bitsAt v 32 24), bitAt v 8⟩ }) ∧
    (s.translationsHeld.any (inInvalidation s) = false →
      exec .invalidationComplete s = .next { s with atu := { s.atu with invBusy := false } }) ∧
    (s.translationsHeld.any (inInvalidation s) = true → exec .invalidationComplete s = .next s) ∧
    (∀ i : Fin 4, let x := s.flashSlot i.val
      Permitted s ini (0x38000 + 32 * i.val) v → bitAt v 0 = true → x.run = none →
      (s.ctx (bitsAt v 2 6)).en = true → ((s.ctx (bitsAt v 2 6)).conf = true → ini = .security) →
      (∀ r, flashChecks s x v = .ok r → exec (.flashSlotStart ini i v) s =
        .next (s.setFlashSlot i.val { x with ctl := v &&& (maskAt 1 7 ||| maskAt 16 32), run := some r })) ∧
      (flashChecks s x v = .error () → exec (.flashSlotStart ini i v) s =
        .next (s.setFlashSlot i.val { x with status := 2 }))) ∧
    (Permitted s ini 0x4000 v → exec (.protectionLock ini v) s = .next { s with sec := { s.sec with
      dbgEn := if s.sec.locked then s.sec.dbgEn else bitAt v 2, locked := s.sec.locked || bitAt v 0 } }) ∧
    (∀ (p : Fin 65536) (e : BitVec 32), iniUp s .security = true →
      field (ownEntry s (0xC00 + p.val / 1024)).toNat 0 8 = 0x02 →
      (s.sec.locked = true → exec (.ownerWrite .security p e) s = .next s) ∧
      (s.sec.locked = false → ownLegal p.val e = true → exec (.ownerWrite .security p e) s =
        .next { s with own := s.own.set none p.val (some (ownKept e)) })) ∧
    (∀ vf : CtxId, vf ≠ 0 → Permitted s ini (0x31000 + 8 * (vf.val - 1)) v → vfLocked s vf = false →
      (∀ j, j ≠ vf → bitAt v 0 = true → boundCtx s j ≠ some (Fin.ofNat 64 (bitsAt v 1 6))) →
      (∀ k, boundCtx s vf = some k → queuesOf s k = []) →
      (bitAt v 0 = true → queuesOf s (Fin.ofNat 64 (bitsAt v 1 6)) = []) →
      exec (.vfBind ini vf v) s = .next { s with host := { s.host with vfMap := s.host.vfMap.set 0 vf.val v } }) ∧
    (∀ m : Fin 19, Permitted s (processorInitiator m) (0x220000 + 0x1000 * m.val) v → bitAt v 0 = true →
      exec (.fwdKick m v) s = .next (s.setProc m.val { s.proc m.val with lastKick := s.clk }))) ∧
  (∀ (s : State) (ini : Initiator) (v : Word),
    (∀ p : PortId, let x := s.port p.val
      bitsAt v 1 2 ≠ 3 → bitsAt v 4 2 ≠ 3 → bitsAt v 16 24 ≠ 0xFFFFFF → bitsAt v 40 8 ≠ 0xFF → bitsAt v 48 8 ≠ 0xFF →
      bitAt v 0 = true → Permitted s ini (0x100000 + 0x1000 * p.val) v →
      (bitAt v 8 = true → bitAt v 9 = false → ∃ w, exec (.portRetrain ini p v) s = .next (fullRetrain p (s.setPort p.val
        { x with ctl := w })) ∧ bitAt w 0 = true ∧ bitAt w 8 = false) ∧
      (bitAt v 8 = false → bitAt v 9 = true → bitAt x.ctl 0 = true → ∃ w, exec (.apbClr ini p v) s = .next (s.setPort p.val
        { x with ctl := w, ceSym := 0, ueCw := 0, crcFail := 0, fastRt := 0, fullRt := 0 }) ∧
        bitAt w 0 = true ∧ bitAt w 9 = false)) ∧
    (Permitted s ini 0x110010 v → bitAt v 0 = true → (bitsAt v 8 24 = 0 ∨ 100 ≤ bitsAt v 8 24) →
      bitsAt v 8 24 ≤ 10000000 → bitsAt v 32 16 ≤ 0x7000 → bitsAt v 48 8 ≠ 0xFF →
      (commitWhy s = 0 → ∃ t, exec (.tableCommit ini v) s = .next t ∧ t.fab.active = s.fab.staged ∧
        t.fab.peerDown = .empty ∧ t.mem = s.mem) ∧
      (commitWhy s ≠ 0 → ∃ w, exec (.tableCommit ini v) s = .next { s with fab := { s.fab with
        ctl := w, commitRej := true, rejWhy := BitVec.ofNat 3 (commitWhy s) } } ∧ bitAt w 0 = false)) ∧
    (∀ q : Fin 1024, Permitted s ini (0x36000 + 8 * q.val) v → bitsAt v 0 16 < (s.qp q.val).size →
      exec (.roceDoorbell ini q v) s = .next (s.setQp q.val { s.qp q.val with tail := bitsAt v 0 16 })))

/-! ## Resets, boot and power -/

/-- The start of a reset advances the context's generation by 1 (when it does so is log entry 155). The end of a context
or partition reset of a context that no TDI holds, with no self-test visit that its cores still wait for: the
semaphores of its partition are zero, its taint and its fault are gone; a partition reset leaves the stores of the
partition zero, and either leaves every other byte of memory as it was. A generation that has aged, and the end of the
hold after a skim boot, let the waiting operations go (14 R396 to R401). A chip reset, with no flash transfer in
progress, keeps DRAM and its poison, the module's flash and fuses, the pins and the marks of bad clusters, zeroes the
stores, and returns contexts, cores, queues, semaphores, ports, the fabric and the host port to their reset values;
the boot that follows starts at phase 0x2, or at 0x1 where the rails still ramp, and is a skim boot after a full one.
A fall of RESET_N on a powered die is a chip reset (14 R395, R416, 18 R483, 13 R388). -/
def Obligations.ResetResults : Prop :=
  ((∀ (s : State) (k : CtxId) (rung : Rung) (cores : List CoreId), (s.ctx k.val).resetRun = none →
    ((startReset k rung cores s).ctx k.val).gen = (s.ctx k.val).gen + 1 ∧
    ((startReset k rung cores s).ctx k.val).resetRun = some ⟨rung, cores, s.clk⟩) ∧
  (∀ (s : State) (k : CtxId) (r : ResetRun), let c := s.ctx k.val
    c.resetRun = some r → (r.rung = .context ∨ r.rung = .partition) → settling s k r = false → tdiHolding s k = none →
    ∃ t, exec (.resetComplete k []) s = .next t ∧ (t.ctx k.val).resetRun = none ∧
      (t.ctx k.val).rstLast = (if r.rung = .context then 1 else 2) ∧ (t.ctx k.val).gen = c.gen ∧
      (t.ctx k.val).tainted = false ∧ (t.ctx k.val).fault = none ∧ (t.ctx k.val).gfeCtx = c.gfeCtx ∧
      (∀ j i, c.hasCluster j.val = true → t.sem (.cluster j i) = .reset) ∧
      (∀ j i, c.hasCluster j.val = false → t.sem (.cluster j i) = s.sem (.cluster j i)) ∧
      (r.rung = .context → t.mem = s.mem) ∧
      (r.rung = .partition → ∀ b, let zeroed : Prop :=
          (∃ n < 256, c.hasCore n = true ∧ 0x210000000000 + n * 0x800000 ≤ b ∧ b < 0x210000000000 + (n + 1) * 0x800000) ∨
          (∃ j < 16, c.hasCluster j = true ∧ 0x200000000000 + j * 0x2000000 ≤ b ∧ b < 0x200000000000 + (j + 1) * 0x2000000)
        (zeroed → t.byte b = 0) ∧ (¬ zeroed → t.byte b = s.byte b))) ∧
  (∀ (s : State) (k : CtxId), (s.ctx k.val).genAging = true → genRecent s (s.ctx k.val) = false →
    exec (.resetGenerationAged k) s = .next (sendHeld (s.setCtx k.val { s.ctx k.val with genAging := false }))) ∧
  (∀ (s : State) (t : Nat), s.rst.remoteHold = some t → t + e2eEdges s ≤ s.clk →
    exec .postResetHoldEnd s = .next (sendHeld { s with rst := { s.rst with remoteHold := none } }))) ∧
  ((∀ (s : State) (cause proc : Nat), (∀ i, (s.flashSlot i).run = none) →
    let t := chipReset cause proc s
    (∀ b, t.byte b = if b < 0x018000000000 then s.byte b else 0) ∧
    (∀ w, t.wordPoisoned w = if 8 * w < 0x018000000000 then s.wordPoisoned w else false) ∧
    t.cores = .empty ∧ t.ctxs = .empty ∧ t.sqs = .empty ∧ t.cqs = .empty ∧ t.sems = .empty ∧ t.ports = .empty ∧
    t.fab = .reset ∧ t.host = .reset ∧ t.err = .reset ∧ t.plumb = .reset ∧ t.own = .empty ∧ t.sec.locked = false ∧
    t.flashMem = s.flashMem ∧ t.fuses = s.fuses ∧ t.clk = s.clk ∧ t.pending = s.pending ∧ t.pins.pwrEn = s.pins.pwrEn ∧
    t.rst.cause = cause ∧ t.rst.badCl = s.rst.badCl ∧ t.rst.chipResets = min 0xFFFE (s.rst.chipResets + 1) ∧
    t.boot.phase = (if s.boot.phase = 1 then 1 else 2) ∧ t.boot.skim = s.boot.fullDone ∧ t.boot.done = false ∧ t.boot.pllLocked = false) ∧
  (∀ s : State, let u := { s with pins := { s.pins with resetN := false } }
    exec .resetNAssert s = .next (if powered s = true ∧ s.pins.resetN = true then chipReset 1 0 u else u)))

/-- Pins, rails and the PLL: a rise of PWR_EN starts a full render boot with nothing volatile left; its fall, a rail
fault, an overcurrent stop, an input lockout and a critical shutdown leave the die dark; only a power cycle recovers
from the last four (13 R388, 18 R483 to R485, 20 R524, R529, R530, R538). The phases of a boot whose tests find
nothing wrong, in their order: 0x1 raises PWR_GOOD; 0x2 needs the PLL and readable fuses; 0x3 loads the firmware
processors and empties an owner slot whose tag does not verify; 0x5 is of a full render boot alone; 0x6 leaves the
stores zero; 0x7 locks the protection set-up, and the boot ends pass, or unfit where it has learnt a reason (18 R483
to R497, 19 R506, R522). Clocks, trips and loops: at a window boundary a lower target takes effect whole and a higher
one by a step; a trip makes 10 MHz the target and asserts TRIP_N, and clears after 100 ms of cool sensors; the loops
ask for the lower of their requests; the limiter moves its duty by one level and keeps it within 2 to 8; feather mode
steps its levels (01 R26, R27, 04 R110, 17 R477, 18 R494, 20 R535). -/
def Obligations.PowerAndBootResults : Prop :=
  (∀ (s : State),
    let gone (t : State) : Prop := t.mem = .empty ∧ t.poison = .empty ∧ t.cores = .empty ∧ t.ctxs = .empty ∧
      t.sems = .empty ∧ t.pins.pwrGood = false ∧ t.boot.pllLocked = false ∧ t.fuses = s.fuses
    let failed (t : State) (rails : List RailGroup) : Prop := gone t ∧ t.pins.moduleFault = true ∧ t.pins.rails = rails ∧
      t.boot.running = false
    (s.pins.pwrEn = false → ∃ t, exec .pwrEnRise s = .next t ∧ gone t ∧ t.pins.pwrEn = true ∧ t.pins.moduleFault = false ∧
      t.pins.rails = [] ∧ t.boot.phase = 1 ∧ t.boot.skim = false ∧ t.boot.running = true) ∧
    (s.pins.pwrEn = true → ∃ t, exec .pwrEnFall s = .next t ∧ gone t ∧ t.pins.pwrEn = false ∧ t.pins.rails = [] ∧
      t.pins.tripN = true ∧ t.boot.running = false) ∧
    (∀ g, (s.pins.pwrGood = true → ∃ t, exec (.railFault g) s = .next t ∧ failed t (s.pins.rails.filter fun r => r != g)) ∧
      (powered s = true → ∃ t, exec (.overcurrentStop g) s = .next t ∧ failed t (s.pins.rails.filter fun r => r != g))) ∧
    (powered s = true → ∃ t, exec .inputLockout s = .next t ∧ failed t []) ∧
    (∀ x, powered s = true → ∃ t, exec (.criticalShutdown x) s = .next t ∧
      failed t (s.pins.rails.filter fun r => r != .compute) ∧ x ∈ t.power.tripped) ∧
    (powered s = true → s.pins.pwrGood = true → s.boot.running = true → s.boot.phase = 2 →
      exec .pllLock s = .next { s with boot := { s.boot with pllLocked := true } }) ∧
    (powered s = true → s.boot.waitResetN = true → exec .resetNDeassert s = .next { s with
      pins := { s.pins with resetN := true }
      boot := { s.boot with waitResetN := false, running := true, startClk := s.clk } })) ∧
  (∀ (s : State) (f : BootFindings), powered s = true → s.boot.running = true → s.boot.stopped = false →
    s.boot.done = false → f.fusesUnreadable = false → f.unverifiable = [] → f.failedCores = [] → s.fuses.repair = [] →
    f.rowsOutOfSpares = none → f.channelBad = none → f.failedLaneGroups = [] →
    let goes (n : Nat) (p : State → Prop) : Prop :=
      ∃ t, exec (.bootPhaseDone f) s = .next t ∧ t.boot.phase = n ∧ t.boot.done = false ∧ p t
    (s.boot.phase = 1 → goes 2 fun t => t.pins.pwrGood = true ∧ t.mem = s.mem) ∧
    (s.boot.phase = 2 → s.boot.pllLocked = true → s.fuses.variant ∈ [1, 2, 3] → goes 3 fun t =>
      t.sec.deviceKeys = true ∧ t.sec.udsHidden = true) ∧
    (s.boot.phase = 3 → Table.wf s.fw.procs .reset = true → goes 4 fun t => (∀ m < 19, (t.proc m).lastKick = s.clk) ∧
      t.sec.owner = if f.ownerTagBad = true then none else s.sec.owner) ∧
    (s.boot.phase = 4 → s.boot.skim = true → goes 6 fun t => t.mem = s.mem ∧ t.fuses = s.fuses.formMap) ∧
    (s.boot.phase = 4 → s.boot.skim = false → goes 5 fun t => t.mem = s.mem ∧ t.fuses = s.fuses.formMap) ∧
    (s.boot.phase = 5 → goes 6 fun t => t = { s with boot := t.boot }) ∧
    (s.boot.phase = 6 → goes 7 fun t => ∀ b, t.byte b =
      if s.boot.skim = false ∨ 0x018000000000 ≤ b ∨ b / 0x40000000 ∈ s.boot.confFrames then 0 else s.byte b) ∧
    (s.boot.phase = 7 → ∃ t, exec (.bootPhaseDone f) s = .next t ∧ t.boot.done = true ∧ t.boot.running = false ∧
      t.boot.result = (if s.boot.unfitReason = 0 then 1 else 2) ∧ t.boot.reason = s.boot.unfitReason ∧ t.sec.locked = true ∧
      t.own = .empty ∧ t.boot.fullDone = true ∧ t.mem = s.mem)) ∧
  (∀ (s : State),
    ((clockTarget s).2.below s.ckg.current = true → exec .aclkLower s = .next { s with ckg := { s.ckg with
      curDiv := (clockTarget s).2.div, curKeep := (clockTarget s).2.keep, lastStep := none } }) ∧
    (s.ckg.current.below (clockTarget s).2 = true → (∀ k, s.ckg.lastStep = some k → k + 1200 ≤ s.clk) →
      ∃ t, exec .aclkRaiseStep s = .next t ∧ t.ckg.current = raiseStep s.ckg.current (clockTarget s).2 ∧
        t = { s with ckg := t.ckg }) ∧
    (∀ x, powered s = true → legalSetting s.ckg.reqDiv s.ckg.reqKeep = true → ∃ t, exec (.thermalTrip x) s = .next t ∧
      t.ckg.trip = true ∧ clockTarget t = (3, ⟨24, 1⟩) ∧ t.ckg.current = s.ckg.current ∧ t.pins.tripN = false ∧ t.power.emergency = true ∧ x ∈ t.power.tripped ∧
      t.power.coolSince = none ∧ t.mem = s.mem ∧ t.cores = s.cores) ∧
    (∀ n, s.power.coolSince = some n → s.ckg.trip = true → n + 120000000 ≤ s.clk → ∃ t, exec .tripClear s = .next t ∧
      t.ckg = { s.ckg with trip := false } ∧ t.power.tripped = [] ∧ t.pins = s.pins) ∧
    (∀ (mean div keep : Nat), powerCoreUp s = true → powerRequest s (decide (effectiveCap s < mean)) div keep = true →
      ∃ t, exec (.powerLoopTick mean div keep) s = .next t ∧ t.power.powReq = (div, keep) ∧ t.power.meanWatts = mean ∧
        (t.ckg.reqDiv, t.ckg.reqKeep) = (match s.power.thmReq with
          | some r => if (settingOf r).below ⟨div, keep⟩ then r else (div, keep)
          | none => (div, keep))) ∧
    (∀ (div keep : Nat), powerCoreUp s = true → (1000 < s.power.compMax ∨ 950 < s.power.memMax) →
      legalSetting div keep = true → (∀ r, s.power.thmReq = some r → (⟨div, keep⟩ : Setting).below (settingOf r) = true) →
      (s.power.thmReq = none → (⟨div, keep⟩ : Setting).below ⟨s.ckg.reqDiv, s.ckg.reqKeep⟩ = true) →
      ∃ t, exec (.thermalLoopTick div keep) s = .next t ∧ t.power.thmReq = some (div, keep) ∧
        (t.ckg.reqDiv, t.ckg.reqKeep) =
          if (⟨div, keep⟩ : Setting).below (settingOf s.power.powReq) then (div, keep) else s.power.powReq) ∧
    (∀ (mean : Nat), s.pins.pwrGood = true → 2 ≤ s.power.duty → s.power.duty ≤ 8 →
      let limit := variantWatts s.fuses.variant
      ∃ t, exec (.limiterTick mean) s = .next t ∧ t.power.meanWatts = mean ∧ 2 ≤ t.power.duty ∧ t.power.duty ≤ 8 ∧
        (limit * 105 < mean * 100 → t.power.duty = max 2 (s.power.duty - 1)) ∧
        (mean * 100 < limit * 95 → t.power.duty = min 8 (s.power.duty + 1)) ∧
        (mean * 100 ≤ limit * 105 → limit * 95 ≤ mean * 100 → t.power.duty = s.power.duty) ∧
        t.power.dutyAct = (s.power.dutyAct || decide (t.power.duty < s.power.duty)) ∧ t = { s with power := t.power }) ∧
    (s.power.emergency = true → emergencyHolds s = false → s.power.lastEmergency + 1200000000 ≤ s.clk →
      exec .emergencyEnd s = .next { s with power := { s.power with emergency := false } }) ∧
    (∀ r : SensorReadings, r.compute.length = 64 → r.memory.length = 16 → s.pins.pwrGood = true →
      ∃ t, exec (.sensorRefresh r) s = .next t ∧ t = { s with power := t.power } ∧
        (∀ i < 64, t.power.compute.get 0 i = r.compute.getD i 0) ∧ (∀ i < 16, t.power.memory.get 0 i = r.memory.getD i 0) ∧
        t.power.compMax ∈ r.compute ∧ (∀ x ∈ r.compute, x ≤ t.power.compMax) ∧ t.power.memMax ∈ r.memory ∧
        (∀ x ∈ r.memory, x ≤ t.power.memMax) ∧ t.power.inputMv = r.inputMv) ∧
    (∀ (c : CoreId) (e : EngId) (n : Nat), let x := (s.core c.val).engine e
      let turns (i : Instr) (f : Feather) : Prop :=
        exec i s = .next (s.setCore c.val ((s.core c.val).setEngine e { x with feather := f }))
      let on : Prop := bitAt s.power.fthCtl 0 = true
      let up := bitsAt s.power.fthCtl 20 8
      let down := bitsAt s.power.fthCtl 32 8
      (x.feather = .rampUp n → on → up ≠ 0 → turns (.featherRampStep c e) (if n + 1 < 8 then .rampUp (n + 1) else .steady 8)) ∧
      (x.feather = .rampUp n → (¬ on ∨ up = 0) → turns (.featherRampStep c e) (.steady 8)) ∧
      (x.feather = .rampDown n → on → down ≠ 0 → turns (.featherRampStep c e) (if n ≤ 1 then .idle else .rampDown (n - 1))) ∧
      (x.feather = .rampDown n → (¬ on ∨ down = 0) → turns (.featherRampStep c e) .idle) ∧
      (x.upset = none → (x.feather = .steady n ∨ x.feather = .rampUp n) →
        (on → down ≠ 0 → turns (.featherGapExpiry c e) (if n ≤ 1 then .idle else .rampDown (n - 1))) ∧
        ((¬ on ∨ down = 0) → turns (.featherGapExpiry c e) .idle))))

/-- A run of host writes that has been quiet for 1 µs enters the journal as one record, 64 bytes of the stated layout at
the tail of its ring, where no page of text lies; a finished flash transfer, of either direction and whatever its
flash could not read, leaves its slot free with the status that says so, and one to the flash has moved its units and
nothing else (16 R460, R461, R466, R468). -/
def Obligations.JournalAndFlashResults : Prop :=
  (∀ (s : State) (k : CtxId) (r : JournalRun), (s.ctx k.val).jnlRun = some r → r.clk + 1200 ≤ s.clk →
    exec (.journalRunEnd k) s = .next (putPayload k { kind := 0x03, addr := r.first, poisoned := r.poisoned } r.data
      (s.setCtx k.val { s.ctx k.val with jnlRun := none }))) ∧
  (∀ (s : State) (k : CtxId) (i : Input), (s.ctx k.val).jnlFull = false → s.textPage (((s.ctx k.val).jnlAt + 64 * (s.ctx k.val).jnlTail) / 0x200000) = false →
    Memory.wf s.mem = true → i.dig.length = 32 →
    i.kind < 256 → i.src < 65536 → i.len < 2 ^ 32 → i.addr < 2 ^ 64 →
    let c := s.ctx k.val
    let a := c.jnlAt + 64 * c.jnlTail
    ∃ t, putInput k i s = t ∧ leNat (t.bytes a 8) = s.plumb.now.toNat ∧ leNat (t.bytes (a + 8) 1) = i.kind ∧
      leNat (t.bytes (a + 9) 1) = s.plumb.valid.toNat + 2 * i.poisoned.toNat + 4 * c.jnlGapPending.toNat ∧
      leNat (t.bytes (a + 10) 1) = k.val ∧ leNat (t.bytes (a + 12) 4) = c.jnlSeq.toNat ∧
      leNat (t.bytes (a + 16) 2) = i.src ∧ leNat (t.bytes (a + 20) 4) = i.len ∧ leNat (t.bytes (a + 24) 8) = i.addr ∧
      t.bytes (a + 32) 32 = i.dig ∧ (∀ b, b < a ∨ a + 64 ≤ b → t.byte b = s.byte b) ∧
      t.ctxs = (s.setCtx k.val { c with jnlTail := (c.jnlTail + 1) % c.jnlSize, jnlGapPending := false,
                                        jnlSeq := c.jnlSeq + 1 }).ctxs) ∧
  (∀ (s : State) (i : Fin 4) (r : FlashRun) (unreadable : List Nat), let x := s.flashSlot i.val
    let hurt : Prop := r.dir = true ∧ ∃ u, r.unit ≤ u ∧ u < r.unit + r.units ∧ (u ∈ unreadable ∨ s.flashBad.get false u = true)
    x.run = some r → ∃ t, exec (.flashSlotComplete i unreadable) s = .next t ∧
      (hurt → t.flashSlots = (s.setFlashSlot i.val { x with run := none, status := 4 }).flashSlots) ∧
      (¬ hurt → t.flashSlots = (s.setFlashSlot i.val { x with run := none, status := 1 }).flashSlots)) ∧
  (∀ (s : State) (i : Fin 4) (r : FlashRun), let x := s.flashSlot i.val
    x.run = some r → r.dir = false → s.latent = .empty → r.sem = none → s.poisonedVia r.pages r.addr (4096 * r.units) = false →
    r.addr + 4096 * r.units ≤ 0x200000000000 → r.addr % 4096 = 0 → Table.wf s.flashMem 0 = true →
    Table.wf s.flashBad false = true →
    ∃ t, exec (.flashSlotComplete i []) s = .next t ∧ t.mem = s.mem ∧
      t.flashSlots = (s.setFlashSlot i.val { x with run := none, status := 1 }).flashSlots ∧
      (∀ o < 4096 * r.units, t.flashMem.get 0 (4096 * r.unit + o) = s.byte (devAddr r.pages (r.addr + o))) ∧
      ∀ b, b < 4096 * r.unit ∨ 4096 * (r.unit + r.units) ≤ b → t.flashMem.get 0 b = s.flashMem.get 0 b)

/-! ## The host and trust -/

/-- The memory window and the interrupts: a read gets the line or, refused, all ones; a write changes its enabled bytes
alone; an offset with no memory behind it stops; configuration writes take legal values, and one of a capability that
the device lacks changes nothing; an unmasked vector sends its pending message, to the address and with the data of
its table entry (13 R364, R368 to R371, R380). Answers to the device's own accesses of host memory: an accepted
completion entry moves its ring's tail on and inverts phase at the wrap; a write without a good answer orphans its
entry; read data reach their COPY unless their generation is old, and then they are counted; a read without an answer
abandons its slot (13 R373 to R376, 10 R269, R289). -/
def Obligations.HostWindowResults : Prop :=
  (∀ (s : State),
    (∀ (tee : Option CtxId) (off : Nat) (data : Bytes) (enable : List Bool), 0x018000000000 ≤ off →
      exec (.hdmRead tee off) s = .fault .addressAbsent ∧ exec (.hdmWrite tee off data enable) s = .fault .addressAbsent) ∧
    (∀ (tee : Option CtxId) (off : Nat) (data : Bytes) (enable : List Bool), off < 0x018000000000 → hdmDecodes s off = true →
      let a := off / 64 * 64
      (hdmRefused s tee a false = false → s.latent = .empty → exec (.hdmRead tee off) s =
        .next (s.emit (.hdmData a (s.bytes a 64) (s.poisonedIn a 64)))) ∧
      (hdmRefused s tee a false = true → ∃ t, exec (.hdmRead tee off) s = .next t ∧ t.mem = s.mem ∧
        t.out.getLast? = some (.hdmData a (List.replicate 64 0xFF) false)) ∧
      (hdmRefused s tee a true = false → Memory.wf s.mem = true → data.length = 64 → enable.length = 64 →
        (∀ k, frameCtx s a = some k → (s.ctx k.val).recording = false) →
        ∃ t, exec (.hdmWrite tee off data enable) s = .next t ∧ t.out = s.out ++ [.hdmComplete a] ∧
          (∀ i < 64, t.byte (a + i) = if enable.getD i false then data.getD i 0 else s.byte (a + i)) ∧
          (∀ b, b < a ∨ a + 64 ≤ b → t.byte b = s.byte b) ∧ t.cores = s.cores ∧ t.ctxs = s.ctxs) ∧
      (hdmRefused s tee a true = true → ∃ t, exec (.hdmWrite tee off data enable) s = .next t ∧ t.mem = s.mem ∧
        t.out.getLast? = some (.hdmComplete a))) ∧
    (s.host.up = true →
      (∀ base size, hdmLegal base size = true → exec (.configurationSpaceWrite (.hdmDecoder base size)) s =
        .next { s with host := { s.host with hdmBase := base, hdmSize := size } }) ∧
      (∀ n, n ≤ 63 → (∀ vf, vfLocked s vf = false) → exec (.configurationSpaceWrite (.numVfs n)) s = .next { s with host := { s.host with numVfs := n } }) ∧
      (∀ off, exec (.configurationSpaceWrite (.notAdvertised off)) s = .next s) ∧
      (∀ (fn : CtxId) (vec : Fin 1024), (fn = 0 ∨ vfLocked s fn = false) →
        let entry := s.host.msixEntry.get (0, 0) (1024 * fn.val + vec.val)
        (∀ a d, exec (.configurationSpaceWrite (.msixEntry fn vec a d)) s = .next { s with host := { s.host with
          msixEntry := s.host.msixEntry.set (0, 0) (1024 * fn.val + vec.val) (a, d) } }) ∧
        exec (.msixVectorUnmask fn vec) s = exec (.configurationSpaceWrite (.msixMask fn vec false)) s ∧
        (hostOpen s = true → s.host.msixOn.get false fn.val = true →
          s.host.msixPending.get false (1024 * fn.val + vec.val) = true →
          ∃ t, exec (.msixVectorUnmask fn vec) s = .next t ∧ .msix fn vec.val entry.1 entry.2 ∈ t.out)))) ∧
  (∀ (s : State),
    (∀ (id : Nat) (w : HostWrite) (m : CqId) (e : Cpl) (rest : List Cpl), findWrite s id = some w → w.use = .completion m →
      let c := s.cq m.val
      let tail := (c.tail + 1) % c.size
      let gone (t : State) : Prop := ∀ x ∈ t.host.writes, x.id ≠ w.id
      (c.waiting = e :: rest → ∃ t, exec (.goResponse id true) s = .next t ∧ gone t ∧
        t.cqs = (s.setCq m.val { c with tail := tail, phase := if tail = 0 then !c.phase else c.phase, waiting := rest,
                                        inflight := none, entry := [] }).cqs) ∧
      (∃ t, exec (.goResponse id false) s = .next t ∧ gone t ∧
        t.cqs = (s.setCq m.val { c with inflight := none, failed := true }).cqs) ∧
      (w.startClk + 12000000 ≤ s.clk → ∃ t, exec (.hostWriteTimeout id) s = .next t ∧ gone t ∧
        t.cqs = (s.setCq m.val { c with inflight := none, failed := true }).cqs)) ∧
    (∀ (cqid : BitVec 12) (data : Bytes) (error poison : Bool), let x := s.slot (cqid.toNat % 512)
      (x.gen ≠ cqid.toNat / 512 → exec (.hostReadData cqid data error poison) s =
        .next { s with host := { s.host with dropped := min 0xFFFE (s.host.dropped + 1) } }) ∧
      (∀ q off lineOff count, x.gen = cqid.toNat / 512 → x.use = some (.copyLine q off lineOff count) →
        exec (.hostReadData cqid data false poison) s =
          .next (copyData q off lineOff count data poison (freeSlot (cqid.toNat % 512) s)))) ∧
    (∀ (i : Fin 512) (u : ReadUse), let x := s.slot i.val
      x.use = some u → x.startClk + 12000000 ≤ s.clk →
      ∃ t y, exec (.hostReadTimeout i) s = .next t ∧ t.host.slots = (s.setSlot i.val y).host.slots ∧
        y.gen = (x.gen + 1) % 8 ∧ y.use = none) ∧
    (∀ a, exec (.h2dSnoop a) s = .next (s.emit (.snoopReply a))))

/-- The host link, its resets and its keys: a lost link raises the fence, ends the streams and returns the decoder to
reset (that the host disabled it is free: log entry 162); a trained link lifts the fence, unless a function-level
reset of the PF holds it, and training that found nothing starts again 1 s later; a function-level reset starts a
context reset; an IDE message of a session on the PF's DOE mailbox sets or stops its stream (13 R362, R377 to R379, 20
R543). -/
def Obligations.HostLinkResults : Prop :=
  ∀ (s : State),
    let fenced (t : State) : Prop := t.host.fence = true ∧ t.host.up = false ∧ t.host.ideLink = false ∧ t.host.ideCm = false ∧
      t.host.hdmSize = 0 ∧ t.host.msixOn = .empty ∧ t.mem = s.mem
    (s.host.up = true → ∃ t, exec .hostLinkDown s = .next t ∧ fenced t ∧ t.host.downEv = true ∧
      t.host.linkDisabled = s.choose.1) ∧
    (powered s = true → s.boot.pllLocked = true → s.pins.perstN = true → ∀ x16 fast, exec (.hostLinkUp x16 fast) s =
      .next { s with host := { s.host with
        up := true, x16 := x16, fast := fast, fence := s.host.flr, linkDisabled := false, upClk := s.clk } }) ∧
    (s.host.up = false → canTrain s = true → s.host.trainClk + 1200000000 ≤ s.clk → exec .hostLinkRetry s =
      .next { s with host := { s.host with x16 := false, fast := false, trainClk := s.clk } }) ∧
    (powered s = true → ∃ t, exec .perstNAssert s = .next t ∧ fenced t ∧ t.pins.perstN = false) ∧
    exec .perstNDeassert s = .next { s with pins := { s.pins with perstN := true }, host := { s.host with trainClk := s.clk } } ∧
    (∀ vf k, boundCtx s vf = some k → (s.ctx k.val).en = true →
      ((s.ctx k.val).conf = false → exec (.vfFlr vf) s = .next (startReset k .context [] s)) ∧
      ((s.ctx k.val).conf = true → s.tdi vf = .run → exec (.vfFlr vf) s =
        .next ((startReset k .context [] s).setTdi vf .flr))) ∧
    (∃ t, exec .pfFlr s = .next t ∧ t.host.fence = true ∧
      ((∀ k, (s.ctx k).resetRun = none) → ∀ k : CtxId, (t.ctx k.val).resetRun = some ⟨.context, [], s.clk⟩)) ∧
    (∀ session : Fin 4, s.sec.sessions.get .closed session.val = .established .doe → (s.proc 0).down = false → s.host.up = true →
      let keyed (slots : List Nat) (b : Bool) : State := setSlots slots b s
      exec (.ideKm ⟨session, .linkKeys⟩) s = .next { keyed [0, 1] true with host := { s.host with ideLink := true } } ∧
      exec (.ideKm ⟨session, .linkStop⟩) s = .next { keyed [0, 1] false with host := { s.host with ideLink := false } } ∧
      exec (.ideKm ⟨session, .cachememKeys⟩) s = .next { keyed [10, 11] true with host := { s.host with ideCm := true } } ∧
      exec (.ideKm ⟨session, .cachememStop⟩) s = .next { keyed [10, 11] false with host := { s.host with ideCm := false } } ∧
      ∀ i : Fin 4, let keys : List Nat := [2 + 2 * i.val, 3 + 2 * i.val]
        exec (.ideKm ⟨session, (.selectiveKeys i)⟩) s = .next { keyed keys true with
          host := { s.host with ideSel := s.host.ideSel.set false i.val true } } ∧
        exec (.ideKm ⟨session, (.selectiveStop i)⟩) s = .next { keyed keys false with
          host := { s.host with ideSel := s.host.ideSel.set false i.val false } })

/-- The trusted interfaces: LOCK takes an idle bound context, freezes its frames and answers; the report gives the
context's registers, frames and digests; START and STOP begin a partition reset; a broken interface fails, with its
context fenced and reset; START's reset ends with conf set, and STOP's with the frames zero and released (19 R510 to
R514). Requests of the trusted domain about its own confidential context, inside a session: GET_RECORD gives the full
record that names it; SET_PTB moves its tables where the checks of 08 hold; UNSEAL and FLASH answer with their status,
an UNSEAL of length zero as a no-op (log entry 163); a request about another context is refused (19 R512, R513, R521). -/
def Obligations.TrustedDomainResults : Prop :=
  (∀ (s : State) (vf k : CtxId),
    (doeUp s = true → boundCtx s vf = some k → s.tdi vf = .unlocked → lockable s k = true →
      ∃ t, exec (.lockInterface vf) s = .next t ∧ t.tdi vf = .locked ∧ tdiContext t vf = some k ∧
        t.ctxs = (s.setCtx k.val { s.ctx k.val with frozen := true }).ctxs ∧ t.out = s.out ++ [.tdisp vf 0x03 []] ∧
        t.mem = s.mem) ∧
    (doeUp s = true → tdiContext s vf = some k → s.tdi vf = .locked →
      exec (.getDeviceInterfaceReport vf) s = .next (s.emit (.tdisp vf 0x04 (interfaceReport s k))) ∧
      (s.host.ideLink = true → s.host.ideCm = true → (s.ctx k.val).en = true →
        exec (.startInterface vf) s = .next ((startReset k .partition [] s).setTdi vf .starting)) ∧
      exec (.stopInterface vf) s = .next ((startReset k .partition [] s).setTdi vf (.stopping true))) ∧
    (tdiContext s vf = some k → s.tdi vf = .run → tdiBroken s k = true → (s.ctx k.val).conf = true →
      exec (.tdiError vf) s = .next (startReset k .context [] (fenceContext k (s.setTdi vf .error)))) ∧
    (∃ t, finishStart vf k s = t ∧ t.tdi vf = .run ∧ (t.ctx k.val).conf = true ∧ t.mem = s.mem) ∧
    (∀ reply, (s.ctx k.val).en = true → Table.wf s.sec.tdi .unlocked = true → ∃ t, finishStop vf k reply s = t ∧ t.tdi vf = .unlocked ∧ (t.ctx k.val).conf = false ∧
      (t.ctx k.val).frozen = false ∧ (Table.wf s.sec.tdiCtx none = true → tdiContext t vf = none) ∧
      (∀ b, b / 0x40000000 ∈ framesOf s k → t.byte b = 0) ∧
      (∀ b, b / 0x40000000 ∉ framesOf s k → t.byte b = s.byte b))) ∧
  (∀ (s : State) (vf k : CtxId), doeUp s = true → (∃ r ∈ s.sec.sessions.rows, r.2 = .established .doe) →
    let own : Prop := boundCtx s vf = some k ∧ (s.ctx k.val).conf = true
    let answers (i : Instr) (status : Nat) (data : Bytes) (t : State) : Prop :=
      exec i s = .next (t.emit (.secured vf status data))
    (own →
      (∀ (seq : BitVec 32) (b : Bytes), ctxRecord s k seq = some b →
        answers (.getRecord vf k seq) 0 b s ∧ leAt b 8 4 = seq.toNat ∧ (byteAt b 15).toNat = k.val) ∧
      (∀ v, ptbCheck s k v = .ok → (bitAt v 0 = true → frameOwned s k (bitsAt v 18 23 * 0x40000) = true) →
        answers (.setPtb vf k v) 0 [] (s.setCtx k.val { s.ctx k.val with atuPtb := v })) ∧
      (∀ args, s.latent = .empty → let r := unsealed k args s
        answers (.unseal vf k args) r.1 r.2.1 r.2.2 ∧ r.1 ≤ 3 ∧ r.2.1 = [] ∧
        r.2.2 = { s with mem := r.2.2.mem, poison := r.2.2.poison } ∧ (r.1 ≠ 0 → r.2.2 = s) ∧
        ((leAt args 16 8 = 0 ∨ leAt args 32 8 = 0) → s.sec.unsealing < 4 → r.1 = 0 ∧ r.2.2 = s)) ∧
      (∀ args, answers (.flash vf k args) (flashRequest k args s).1 [] (flashRequest k args s).2.2 ∧
        (flashRequest k args s).1 ≤ 3)) ∧
    (¬ own → ∀ seq v args, answers (.getRecord vf k seq) 2 [] s ∧ answers (.setPtb vf k v) 2 [] s ∧
      answers (.unseal vf k args) 2 [] s ∧ answers (.flash vf k args) 2 [] s))

/-- The responder of a transport that is up answers each request, once the negotiation has come so far: version 1.3,
capabilities, algorithms, digests, a chain, a challenge and measurements, signed, sessions up to four, and their ends,
which zeroise their keys; before that a request is unexpected. A message over MCTP raises an in-band interrupt (19
R499 to R502, R523, 13 R387). -/
def Obligations.AttestationResults : Prop :=
  ∀ (s : State) (t : Transport), spdmUp s t = true →
    let c := s.conn t
    let ready (u : State) : Answer := .next (match t, u.pins.i3cAddr with
      | .mctp, some a => u.emit (.inBandInterrupt a false)
      | _, _ => u)
    let large (code : Nat) (data : Bytes) (u : State) : Answer := ready (respondLarge t code data u)
    exec (.getVersion t) s =
      ready ((s.setConn t { SpdmConn.reset with version := true }).emit (.spdm t 0x04 (leBytes 2 0x1300))) ∧
    (c.version = true → exec (.getCapabilities t) s =
      ready ((s.setConn t { c with capabilities := true }).emit (.spdm t 0x61 (Config.spdmBody 0x61 [])))) ∧
    (c.capabilities = true → exec (.negotiateAlgorithms t true true) s =
      ready ((s.setConn t { c with algorithms := true }).emit (.spdm t 0x63 (Config.spdmBody 0x63 [])))) ∧
    (c.algorithms = true →
      exec (.getDigests t) s = ready (s.emit (.spdm t 0x01 (sha3_256 Config.certificateChain))) ∧
      (∀ off len,
        let part := (Config.certificateChain.drop off).take len
        exec (.getCertificate t 0 off len) s = if Config.certificateChain.length ≤ off then ready (s.emit (.spdmError t 0x01))
          else large 0x02 (leBytes 2 part.length
          ++ leBytes 2 (Config.certificateChain.length - off - part.length) ++ part) s) ∧
      (∀ nonce, nonce.length = 32 → exec (.challenge t 0 nonce) s =
        large 0x03 (signed s (Config.spdmBody 0x03 (sha3_256 Config.certificateChain ++ nonce))) s) ∧
      (∀ index nonce d, nonce.length = 32 → measurement s index = some d → index ≠ 0 →
        exec (.getMeasurements t index nonce) s = large 0x60 (signed s (leBytes 1 index ++ d ++ nonce)) s) ∧
      (∀ (key : Bytes) (i : Nat), key.length = 96 → (List.range 4).find? (fun i => s.session i == .closed) = some i →
        exec (.keyExchange t key) s = large 0x64 (signed s (leBytes 1 i ++ Config.spdmBody 0x64 key))
          (setSession i (.handshake t) s)) ∧
      (∀ (key : Bytes), key.length = 96 → (∀ i < 4, s.session i ≠ .closed) →
        exec (.keyExchange t key) s = ready (s.emit (.spdmError t 0x03)))) ∧
    (c.algorithms = false → exec (.getDigests t) s = ready (s.emit (.spdmError t 0x04))) ∧
    (∀ i : Fin 4,
      (s.session i.val = .handshake t → exec (.finish i true) s =
        ready ((setSession i.val (.established t) s).emit (.spdm t 0x65 []))) ∧
      (s.session i.val = .established t →
        exec (.heartbeat i) s = ready (s.emit (.spdm t 0x68 [])) ∧
        exec (.keyUpdate i) s = ready (s.emit (.spdm t 0x69 [])) ∧
        exec (.endSession i) s = ready ((setSession i.val .closed s).emit (.spdm t 0x6C [])))) ∧
    (∀ (handle chunk : Nat), c.version = true → c.large ≠ [] → handle = c.largeHandle → exec (.chunkGet t handle chunk) s =
      ready (s.emit (.spdm t 0x06 (Config.spdmBody 0x06 (leBytes 2 handle ++ leBytes 2 chunk ++ c.large))))) ∧
    (∀ i : Fin 4, ∃ u, exec (.heartbeatExpiry i) s = .next u ∧ u = { s with sec := u.sec } ∧
      (Table.wf s.sec.keys false = true → u.sec.keys.get false (0x58 + i.val) = false) ∧
      (Table.wf s.sec.sessions .closed = true → u.session i.val = .closed))

/-- The requests of a mailbox whose processor runs and holds a request with the bytes that the layout lists: each is
answered with its status and results, and its own effect and the answer are all that changes; a frame request waits
while an operation in progress uses a translation that it changes (log entry 154), and an OWNER_SET of length zero is
a no-op (log entry 163) (17 R473 to R478, R480, R482, 19 R505). The answer to a request: the response carries the
code, the status, the sequence number and the results; the window is free again; nothing but the mailbox and the
interrupt of err_vec changes (17 R472, R473, R476). -/
def Obligations.RequestResults : Prop :=
  (∀ (s : State) (m : Fin 19), powered s = true → s.latent = .empty →
    let holds (m op : Nat) : Prop := (s.proc m).busy = true ∧ (s.proc m).heldDb = false ∧ (s.proc m).down = false ∧
      (s.proc m).sound = true ∧ (s.proc m).op = op
    let answers (i : Instr) (m status : Nat) (results : Bytes) (t : State) : Prop :=
      exec i s = .next (respond m status results t)
    let x (lo n : Nat) : Nat := (s.proc 0).arg lo n
    (holds m.val 0x01 → answers (.ping m) m.val 0x00
      (leBytes 8 (runningVersion s (min (m.val + 1) 4)) ++ runningDigest s (min (m.val + 1) 4)) s) ∧
    (holds 0 0x10 →
      let inRange (f : Nat) : Prop := x 8 2 ≤ f ∧ f < x 8 2 + x 10 2
      (x 10 2 = 0 → answers .frameAssign 0 0x00 [] s) ∧
      (x 10 2 ≠ 0 → 1536 < x 8 2 + x 10 2 ∨ 63 < x 12 1 → answers .frameAssign 0 0x01 [] s) ∧
      (x 10 2 ≠ 0 → x 8 2 + x 10 2 ≤ 1536 → (h : x 12 1 < 64) → frameShut s ⟨x 12 1, h⟩ = false →
        (∀ f, inRange f → frameCtx s (f * 0x40000000) = none ∨ frameCtx s (f * 0x40000000) = some ⟨x 12 1, h⟩) →
        frameStopping s ⟨x 12 1, h⟩ = false →
        framesInUse s (x 8 2) (x 10 2) (fun _ => BitVec.ofNat 8 (0x80 + x 12 1)) = false →
        ∃ frm up, answers .frameAssign 0 0x00 [] { s with
            atu := { s.atu with frm := frm }, upsets := { s.upsets with frame := up } } ∧
          (s.upsets.frame = none → up = none) ∧ ∀ f, (inRange f → frm.get 0 f = BitVec.ofNat 8 (0x80 + x 12 1)) ∧
            (¬inRange f → frm.get 0 f = s.atu.frm.get 0 f))) ∧
    (holds 0 0x11 →
      let inRange (f : Nat) : Prop := x 8 2 ≤ f ∧ f < x 8 2 + x 10 2
      (x 10 2 = 0 → answers .frameRelease 0 0x00 [] s) ∧
      (x 10 2 ≠ 0 → x 8 2 + x 10 2 ≤ 1536 → s.atu.frm.wf 0 = true →
        (∀ f, inRange f → ∀ k, frameCtx s (f * 0x40000000) = some k → frameShut s k = false ∧ frameStopping s k = false) →
        framesInUse s (x 8 2) (x 10 2) (fun b => b &&& 0x7F) = false →
        ∃ frm up, answers .frameRelease 0 0x00 [] { s with
            atu := { s.atu with frm := frm }, upsets := { s.upsets with frame := up } } ∧
          (s.upsets.frame = none → up = none) ∧ ∀ f, (inRange f → frm.get 0 f = s.atu.frm.get 0 f &&& 0x7F) ∧
            (¬inRange f → frm.get 0 f = s.atu.frm.get 0 f))) ∧
    (holds 0 0x18 → 1 ≤ x 8 1 → x 8 1 ≤ 7 → x 24 8 ≠ 0 → x 24 8 ≤ 0x4000000 → looseExtent s (x 16 8) (x 24 8) = true →
      activating s (x 8 1) = false →
      let k := x 8 1
      let old := s.component k
      let image := s.bytes (x 16 8) (x 24 8)
      let rejects : Prop :=
        answers .fwStage 0 0x02 [] (s.setComponent k { old with bank := .noneStaged, stagedVersion := 0 })
      match (if s.poisonedIn (x 16 8) (x 24 8) then none else Config.firmwareVerify k image) with
      | none => rejects
      | some (version, svn) =>
        if svn < s.fuses.svnFloor then rejects
        else answers .fwStage 0 0x00 [] (s.setComponent k { old with
          bank := .staged, stagedVersion := version, stagedSvn := svn, stagedDigest := sha3_256 image })) ∧
    (holds 0 0x1A → 1 ≤ x 8 1 → x 8 1 ≤ 7 → answers .fwStatus 0 0x00
      (leBytes 1 (s.component (x 8 1)).bank.code ++ zeros 7 ++ leBytes 8 (s.component (x 8 1)).stagedVersion
        ++ leBytes 8 (runningVersion s (x 8 1))) s) ∧
    (holds 0 0x1B →
      (64 < x 8 1 → answers .svnRaise 0 0x01 [] s) ∧
      (x 8 1 ≤ 64 → x 8 1 ≤ s.fuses.svnFloor ∨ (s.component 1).runSvn < x 8 1 → answers .svnRaise 0 0x02 [] s) ∧
      (x 8 1 ≤ 64 → s.fuses.svnFloor < x 8 1 → x 8 1 ≤ (s.component 1).runSvn → s.power.emergency = false →
        answers .svnRaise 0 0x00 [] { s with fuses := { s.fuses with svnFloor := x 8 1 } })) ∧
    (holds 0 0x1C →
      let b := s.bytes (x 16 8) 3740
      (x 24 8 = 0 → answers .ownerSet 0 0x00 [] s) ∧
      (x 24 8 ≠ 0 → x 24 8 ≠ 3740 ∨ looseExtent s (x 16 8) 3740 = false → answers .ownerSet 0 0x01 [] s) ∧
      (x 24 8 = 3740 → looseExtent s (x 16 8) 3740 = true → s.poisonedIn (x 16 8) 3740 = false →
        (∀ k : CtxId, (s.ctx k.val).conf = false) →
        let owned : State := { s with sec := { s.sec with owner := some (b.take 1312, leAt b 1312 8) } }
        match s.sec.owner with
        | none =>
          if leAt b 1320 2420 = 0 then answers .ownerSet 0 0x00 [] owned else answers .ownerSet 0 0x01 [] s
        | some (key, counter) =>
          if counter < leAt b 1312 8 ∧ Config.mldsaVerify key (b.take 1320) (b.drop 1320) = true then
            answers .ownerSet 0 0x00 [] owned
          else answers .ownerSet 0 0x02 [] s)) ∧
    (holds 1 0x20 →
      let w := (s.proc 1).arg 8 2
      (w = 0 → answers .setCap 1 0x00 [] s) ∧
      (w ≠ 0 → w < 500 ∨ variantWatts s.fuses.variant < w → answers .setCap 1 0x01 [] s) ∧
      (500 ≤ w → w ≤ variantWatts s.fuses.variant →
        answers .setCap 1 0x00 [] { s with power := { s.power with cap := some w } })) ∧
    (holds 1 0x21 → ∃ why, answers .getPower 1 0x00 (leBytes 2 s.power.meanWatts ++ [why]) s)) ∧
  (∀ (s : State) (m status : Nat) (results : Bytes),
    let x := s.proc m
    let t := respond m status results s
    (t.proc m).busy = false ∧ (t.proc m).heldDb = false ∧ (t.proc m).rspNew = true ∧
    (t.proc m).seq.toNat = x.arg 2 2 % 2 ^ 16 ∧
    (t.proc m).req = x.req ∧ (t.proc m).down = x.down ∧
    (t.proc m).rsp.get 0 0 = BitVec.ofNat 8 x.op ∧ (t.proc m).rsp.get 0 1 = BitVec.ofNat 8 status ∧
    (∀ i, i < 56 → (t.proc m).rsp.get 0 (8 + i) = byteAt results i) ∧
    (∀ j, j ≠ m → t.proc j = s.proc j) ∧
    t = { s with fw := t.fw, host := t.host, out := t.out })

/-- Watchdogs, restarts and activation. A processor that is not kicked for 8 ms is held and restarts, with a record 0x18;
ready again, it answers RESTARTED for the request that was in progress and starts a held one; a second failure to be
ready within 10 s starts a chip reset. An activation swaps the banks of the staged components: a live one runs its new
image from the restart on, another waits for a chip reset. PLDM answers raise an in-band interrupt; an agent that is
idle says so (the completion codes are log entry 98) (13 R387, R391, 14 R408, 17 R472, R475, R481, R482). -/
def Obligations.FirmwareResults : Prop :=
  ∀ (s : State) (m : Fin 19),
    let x := s.proc m.val
    let reply (code : Nat) (t : State) : State := match t.pins.i3cAddr with
      | some a => { t with out := t.out ++ [.pldmReply code [], .inBandInterrupt a false] }
      | none => { t with out := t.out ++ [.pldmReply code []] }
    let record (failed : Nat) (t : State) : State := logError
      { cause := 0x18, sev := sevEvent, loc := 0x0D, sub := m.val, lidx := m.val, pidx := m.val, info0 := m.val, info1 := failed } t
    (powered s = true → s.boot.recovery = false → s.boot.done = true ∨ 3 < s.boot.phase → x.down = false →
      x.lastKick + 8 * 1200000 ≤ s.clk →
      ∃ u, exec (.watchdogExpiry m) s = .next (record 0 u) ∧ (u.proc m.val).down = true ∧
        (u.proc m.val).downClk = s.clk ∧ (u.proc m.val).live = false ∧
        (u.proc m.val).restarts = min 254 (x.restarts + 1)) ∧
    (x.down = true → x.live = false → s.fw.activation = none → s.fw.procs.wf .reset = true →
      ∃ u, (u.proc m.val).down = false ∧ (u.proc m.val).lastKick = s.clk ∧ (u.proc m.val).heldDb = false ∧
        (u.proc m.val).busy = x.busy ∧
        exec (.fwReady m) s = .next (if x.heldDb then startRequest m.val u
          else if x.busy then respond m.val 0x04 [] u else u)) ∧
    (x.down = true → x.downClk + 20 * 1200000 ≤ s.clk →
      ((∃ t ∈ x.fails, s.clk < t + 10000 * 1200000) → exec (.restartFail m) s = .next (chipReset 3 m.val (record 1 s))) ∧
      ((∀ t ∈ x.fails, t + 10000 * 1200000 ≤ s.clk) → x.live = false →
        ∃ u, exec (.restartFail m) s = .next u ∧ (u.proc m.val).down = true ∧ (u.proc m.val).downClk = s.clk ∧
          (u.proc m.val).fails = [s.clk])) ∧
    (let staged := (List.range' 1 7).filter fun k => (s.component k).bank == .staged
     let mayStart : Prop := s.fw.activation = none ∧ s.power.emergency = false ∧ (s.proc 1).down = false ∧ staged ≠ []
     let k := (s.proc 0).arg 8 1
     ((s.proc 0).busy = true → (s.proc 0).heldDb = false → (s.proc 0).down = false → (s.proc 0).op = 0x19 →
       powered s = true → (s.proc 0).sound = true → 1 ≤ k → k ≤ 7 → mayStart →
       ((s.component k).bank = .staged → exec .fwActivate s = .next (beginActivation false s)) ∧
       ((s.component k).bank ≠ .staged → exec .fwActivate s = .next (respond 0 0x02 [] s))) ∧
     (sidebandUp s = true → (s.proc 0).down = false →
       (s.fw.updating = true → mayStart → exec .activateFirmware s =
         .next (beginActivation true { s with fw := { s.fw with updating := false } })) ∧
       (s.fw.updating = true → s.fw.activation ≠ none → exec .activateFirmware s = .next (reply 0x04 s)) ∧
       (s.fw.updating = false → exec .activateFirmware s = .next (reply 0x80 s))) ∧
     (∀ pldm : Bool, s.fw.activation = none →
       (∀ k ∈ staged, (k = 1 ∨ 5 ≤ k) → ((beginActivation pldm s).component k).bank = .awaitingReset ∧
         runningVersion (beginActivation pldm s) k = runningVersion s k) ∧
       (∀ k ∈ staged, 2 ≤ k → k ≤ 4 →
         runningVersion (beginActivation pldm s) k = (s.component k).stagedVersion ∧
         ((beginActivation pldm s).component k).prevVersion = (s.component k).runVersion))) ∧
    (sidebandUp s = true → s.boot.recovery = false → (s.proc 0).down = false →
      let answer (code : Nat) (t : State) : Answer := .next (reply code t)
      let open' : State := { s with fw := { s.fw with updating := true } }
      let shut : State := { s with fw := { s.fw with updating := false } }
      (s.fw.updating = false → exec (.pldmFirmwareUpdate .requestUpdate) s = answer 0x00 open' ∧
        ∀ k image, exec (.pldmFirmwareUpdate (.transfer k image)) s = answer 0x80 s) ∧
      (s.fw.updating = true → exec (.pldmFirmwareUpdate .requestUpdate) s = answer 0x81 s) ∧
      (s.fw.updating = true → exec (.pldmFirmwareUpdate .cancel) s = answer 0x00 shut) ∧
      (s.fw.updating = false → exec (.pldmFirmwareUpdate .cancel) s = answer 0x80 s) ∧
      (∀ k image, s.fw.updating = true → 1 ≤ k → k ≤ 7 → activating s k = false →
        let rejected : State := s.setComponent k { s.component k with bank := .noneStaged, stagedVersion := 0 }
        exec (.pldmFirmwareUpdate (.transfer k image)) s = match Config.firmwareVerify k image with
          | none => answer 0x01 rejected
          | some (version, svn) =>
            if svn < s.fuses.svnFloor then answer 0x01 rejected
            else answer 0x00 (s.setComponent k { s.component k with
              bank := .staged, stagedVersion := version, stagedSvn := svn, stagedDigest := sha3_256 image })))

/-- The sideband of a module whose bus is powered and whose boot is past phase 0x3 takes its addresses and answers sensor
readings, with an in-band interrupt for each answer; a telemetry datagram leaves a port whose period has passed, and
the gateway forwards a notice by a port with a link (12 R351, 13 R382, R384, R385, R387, R389). -/
def Obligations.SidebandResults : Prop :=
  ∀ (s : State) (addr : BitVec 7) (eid : BitVec 8) (id : BitVec 16) (port : Fin 2) (payload : Bytes),
    (busUp s = true → s.boot.done = true ∨ 3 < s.boot.phase →
      let takes : Answer := .next { s with
        pins := { s.pins with i3cAddr := some addr }, out := s.out ++ [.i3cAck addr] }
      (s.pins.i3cAddr = none → exec (.entdaa addr) s = takes ∧ exec (.setdasa addr) s = takes) ∧
      (s.pins.i3cAddr ≠ none → exec (.entdaa addr) s = .next s ∧ exec (.setdasa addr) s = .next s)) ∧
    (sidebandUp s = true →
      (s.pins.i3cAddr ≠ none →
        exec (.endpointIdAssignment eid) s = .next { s with pins := { s.pins with mctpEid := some eid } }) ∧
      (let ready : List Out := match s.pins.i3cAddr with
        | some a => [.inBandInterrupt a false]
        | none => []
       let reads (n : Nat) : Prop := exec (.getSensorReading id) s =
        .next { s with out := s.out ++ .pldmReply 0x00 (leBytes 4 n) :: ready }
       (id = 1 → reads (BitVec.ofInt 32 s.power.compMax).toNat) ∧ (id = 2 → reads (BitVec.ofInt 32 s.power.memMax).toNat) ∧
       (id = 3 → reads s.power.inputMv) ∧ (id = 4 → reads s.power.inputMa) ∧ (id = 5 → reads s.power.meanWatts) ∧
       (id = 6 → reads s.ckg.current.mhz) ∧ (id = 7 → reads (effSource s)) ∧
       (id = 8 → reads (variantWatts s.fuses.variant)) ∧
       (id = 0 ∨ 8 < id.toNat →
         exec (.getSensorReading id) s = .next { s with out := s.out ++ .pldmReply 0x80 [] :: ready }))) ∧
    (gateway s = ownChip s → ownChip s ≠ 0xFFFF → s.ethFm = true → ethUp s 0 = true ∨ ethUp s 1 = true →
      ∃ (p : Nat) (t : State), exec (.eventNotice payload) s =
          .next (sendFrame p tagManagement (.datagram (portMac s p) (fmAddress s) payload) t) ∧
        { t with draws := s.draws } = s ∧ p < 2 ∧ ethUp s p = true) ∧
    (let x := s.ethPort port.val
     x.ctl.getLsbD 24 = true → x.up0 = true ∨ x.up1 = true → s.ethFm = true → x.paused.getLsbD 1 = false →
     x.telClk + x.ctl.toNat / 2 ^ 16 % 256 * 1200000 ≤ s.clk →
     ∃ (data : Bytes) (t : State), exec (.telemetrySend port) s = .next t ∧
       (let sent : State := s.setEth port.val { x with telSeq := x.telSeq + 1, telClk := s.clk }
        t = { sent with out := s.out ++
          [.frame port.val ⟨1, 10, some 47111⟩ (.datagram (portMac s port.val) (fmAddress s) data)] }) ∧
       data.length = 96 ∧ leAt data 0 2 = (ownChip s).toNat ∧ leAt data 8 8 = s.plumb.now.toNat ∧
       leAt data 16 4 = x.telSeq.toNat)

/-- The rotor. A visit falls due to the next unit of its kind when its interval expires, and the rotor moves on, counting
a core in a reset as visited; it starts when no other of its kind is under way, and a vector unit says that it is
busy; a start more than 100 ms after it fell due is recorded and is a breach, once; a passing visit forgets who ran on
the unit, and a failing one is recorded as UNCONTAINED and taints them; what the unit held then has its effect (15
R436 to R439, 05 R141). The other checks. A protection entry that differs from its locked copy is recorded and
rewritten; a coalescing window that has lasted 1 ms closes; hawk banks change places when both sides are done and the
counts agree, the lap bit inverting at every second change, and a queue whose counts differ, or whose pointer copies
do, starts empty; a consumer takes its words in order, one whose parity fails with a poison tag; the patrol reads the
next line of its stack; the sweep reads a store's word (08 R208, R216, 15 R423, R431 to R434, R445). -/
def Obligations.BackgroundCheckResults : Prop :=
  (∀ (s : State) (u : BstUnit) (path : Nat),
    let b := s.bst
    let expired : Prop := match u with
      | .engine c e => 4 * c.val + e.val = b.engNext ∧ b.engDue ≤ s.clk
      | .vector c => c.val = b.vecNext ∧ b.vecDue ≤ s.clk
      | .keccak k => k.val = b.stkNext ∧ b.stkDue ≤ s.clk
    let moved : Bst := match u with
      | .engine _ _ => { b with engNext := (b.engNext + 1) % 1024, engDue := b.engDue + 614400 }
      | .vector _ => { b with vecNext := (b.vecNext + 1) % 256, vecDue := b.vecDue + 2457600 }
      | .keccak _ => { b with stkNext := (b.stkNext + 1) % 16, stkDue := b.stkDue + 38400000 }
    let counted (x : Bst) : Bst := match u with
      | .engine _ _ => { x with passedEng := min 1024 (x.passedEng + 1) }
      | .vector _ => { x with passedVec := min 256 (x.passedVec + 1) }
      | .keccak _ => { x with passedStk := min 16 (x.passedStk + 1) }
    let busy (on : Bool) (t : State) : State := match u with
      | .vector c => t.setCore c.val { t.core c.val with stpBusy := on }
      | _ => t
    let lateRecord (r : ErrRec) : Prop := r.cause = 0x0C ∧ r.sev = sevEvent ∧ r.info1 = 1
    (b.intCtl.getLsbD 3 = false → s.boot.done = true → expired →
      exec (.bstDue u) s = .next { s with
        bst := if unitInReset s u = true then counted moved else { moved with due := b.due ++ [(u, s.clk, false)] } }) ∧
    (∀ early rest t late, b.due = early ++ (u, t, late) :: rest → (∀ d ∈ early, d.1 ≠ u) → unitInReset s u = false →
      ((∀ v ∈ b.visiting, sameLimit v.1 u = false) →
        let tardy : Prop := t + 100 * 1200000 < s.clk
        let started (late : Bool) : State := busy true { s with bst := { b with
          due := early ++ rest, visiting := b.visiting ++ [(u, late)] } }
        (late = true → exec (.bstVisitStart u) s = .next (started true)) ∧
        (late = false → ¬ tardy → exec (.bstVisitStart u) s = .next (started false)) ∧
        (late = false → tardy → ∃ r, lateRecord r ∧ exec (.bstVisitStart u) s = .next (logError r { started true with
          bst := { (started true).bst with late := true, passedEng := 0, passedVec := 0, passedStk := 0 } }))) ∧
      (late = false → t + 100 * 1200000 < s.clk → (∀ d ∈ early ++ rest, d.1 ≠ u) →
        ∃ r, lateRecord r ∧ exec (.bstLate u) s = .next (logError r { s with bst := { b with
          late := true, passedEng := 0, passedVec := 0, passedStk := 0, due := early ++ (u, t, true) :: rest } }))) ∧
    (∀ early rest late, b.visiting = early ++ (u, late) :: rest → (∀ d ∈ early, d.1 ≠ u) →
      let left : Bst := { b with visiting := early ++ rest }
      let b' : Bst := if late then left else counted left
      let passed : State := busy false { s with bst := b'.passed u (runsOnUnit s u) }
      let goesOn (pass : Bool) (t : State) : Prop :=
        ((∀ c i, visitCore u = some c → (s.core c.val).hold ≠ .visit i) → exec (.bstVisitEnd u pass path) s = .next t) ∧
        ∀ c vd vs vt pk, visitCore u = some c → (s.core c.val).hold = .visit (.vadd c vd vs vt pk) →
          exec (.bstVisitEnd u pass path) s = exec (.vadd c vd vs vt pk) t
      goesOn true passed ∧
      ∃ r, goesOn false (busy false (logError r { s with bst := { b' with fails := min 0xFFFE (b.fails + 1) } })) ∧
        r.cause = 0x0C ∧ r.sev = sevUncontained ∧ r.info0 = path ∧ r.taints = some (ranOnUnit s u))) ∧
  (∀ (s : State) (page index q addr : Nat) (stack : Fin 16) (w : ErrWindow),
    (s.sec.ownUpset = some page → s.sec.locked = true → (s.proc 0).down = false →
      ∃ r, exec .protectionCompare s = .next (logError r { s with sec := { s.sec with ownUpset := none } }) ∧
        r.cause = 0x1A ∧ r.sev = sevUncontained ∧ r.addr = 0x0C00000 + 4 * page) ∧
    (s.err.windows[index]? = some w → w.opened + 1200000 ≤ s.clk →
      let s' : State := { s with err := { s.err with windows := s.err.windows.filter fun x => x != w } }
      exec (.coalesceWindowEnd index) s = .next (closeWindow w s') ∧ (w.count = 0 → closeWindow w s' = s') ∧
      (0 < w.count → (closeWindow w s').err.seq = s.err.seq + 1)) ∧
    (let h := s.hawks.get .reset q
     let copies : Prop := h.writePtr = h.writeCopy ∧ h.readPtr = h.readCopy
     let empty : Hawk := { Hawk.reset with depth := h.depth, dual := h.dual, delivered := h.delivered, openAt := s.clk + 4 }
     (h.dual = true → ¬ copies → ∃ r u, exec (.hawkToggle q) s = .next (logError r u) ∧ r.cause = 0x0E ∧ r.sev = sevPoisoned ∧
        u.hawks = (s.setHawk q empty).hawks) ∧
     ((h.dual = false ∨ copies) → h.drain.length ≤ h.readPtr → (h.depth ≤ h.fill.length ∨ h.ended = true) →
      (h.drained = h.recorded → exec (.hawkToggle q) s = .next (s.setHawk q { h with
        fill := [], drain := h.fill, ended := false, recorded := h.fill.length, drained := 0, toggles := h.toggles + 1,
        lap := (if h.toggles % 2 = 1 then !h.lap else h.lap), drainLap := h.lap,
        writePtr := 0, writeCopy := 0, readPtr := 0, readCopy := 0,
        dual := decide ((Config.hawkGroup q).val < 3) && s.bst.intCtl.getLsbD (8 + (Config.hawkGroup q).val) })) ∧
      (h.drained ≠ h.recorded → ∃ t, exec (.hawkToggle q) s = .next t ∧ t.hawks = (s.setHawk q empty).hawks ∧
        ∀ k, h.ctxs = [k] → ∃ r u, t = logError r u ∧ r.cause = 0x0E ∧ r.sev = sevUncontained ∧ r.names = some k)) ∧
     (∀ x, (h.dual = false ∨ copies) → h.drain[h.readPtr]? = some x →
      let bad := hawkParity x.data h.drained h.drainLap != x.parity
      (drainHawk s q).hawks = (s.setHawk q { h with
        delivered := h.delivered ++ [(x.data, bad)], drained := h.drained + 1, readPtr := h.readPtr + 1, readCopy := h.readCopy + 1 }).hawks)) ∧
    (portsRun s = true → s.latent = .empty → ∃ x, exec (.patrolScrubRead stack) s = .next (s.setStack stack.val x) ∧
      x.patrolLine = (if (s.stack stack.val).patrolLine + 1 < 0x60000000 then (s.stack stack.val).patrolLine + 1 else 0)) ∧
    (powered s = true → (0x200000000000 ≤ addr ∧ addr < 0x200020000000) ∨ (0x210000000000 ≤ addr ∧ addr < 0x210080000000) →
      exec (.storeSweepRead addr) s = .next (s.touch (addr / 8 * 8) 8)))

/-! ## Links and the fabric -/

/-- Training of a port: each state goes to the next, and IDENTIFY sends this end's record; lane maps use the first 16
lanes, or 8, that passed in their direction, and fewer than 8 take the port DOWN; a fast retrain returns to the state
it left, with the groups it holds sent again; a training that takes too long ends in DOWN, a fast retrain in a full
one, and every 1 s a port that is DOWN trains again (11 R299 to R301, R305 to R307). Identity. A frame carries a
record and its CRC-32, and one whose CRC fails changes nothing. A record that passes R309's checks under the peer's
verdict makes the port ACTIVE at the version negotiated with what training offered; the first check that fails sends
it to QUARANTINE with its reason; a verdict against it, with reason 7; with version 2 and sealing at both ends key
agreement comes first, begun by the lower chip ID; a changed boot nonce sets peerReset and retrains with nothing kept
for the peer (11 R307 to R309, R311, R312, R319, 19 R517). -/
def Obligations.LinkTrainingResults : Prop :=
  (∀ (s : State) (p : PortId) (rx tx : BitVec 17), s.ports.wf .reset = true →
    let x := s.port p.val
    let r := rx &&& ~~~(s.fuses.apbRx.get 0 p.val) &&& ~~~x.degraded
    let w := tx &&& ~~~(s.fuses.apbTx.get 0 p.val)
    let mapped (next : LinkState) : Port := { x with
      state := next, rxUsed := usedLanes r, txUsed := usedLanes w, rxHalf := decide (laneCount r < 16),
      txHalf := decide (laneCount w < 16) }
    let own : IdRecord :=
      { chipId := ownChip s, port := p, epoch := BitVec.ofNat 32 (s.fab.active.topg.toNat / 2 ^ 32), verMin := 1,
        verMax := BitVec.ofNat 16 x.verOffer, sealCap := true, bootNonce := s.sec.ownNonce }
    let goesDown (i : Instr) : Prop := ∃ t, exec i s = .next t ∧ (t.port p.val).state = .down ∧
      (t.port p.val).downEv = true ∧ (t.port p.val).sealed = false ∧ (t.port p.val).replay = [] ∧
      (t.port p.val).rxUsed = 0 ∧ (t.port p.val).txUsed = 0 ∧ (t.port p.val).rxHalf = false ∧
      (t.port p.val).txHalf = false ∧ (t.port p.val).queued = x.queued ∧ (t.port p.val).credits = x.credits
    let retrains (i : Instr) : Prop := ∃ t, exec i s = .next t ∧ (t.port p.val).state = .detect ∧
      (t.port p.val).trainClk = s.clk ∧ (t.port p.val).sealed = false ∧
      (t.port p.val).verOffer = x.ctl.toNat / 16 % 4 ∧ (t.port p.val).fullRt = min 0xFFE (x.fullRt + 1) ∧
      t = { s with ports := t.ports, sec := { s.sec with keys := t.sec.keys } }
    (x.state = .detect → exec (.detectDone p) s = .next (s.setPort p.val { x with state := .equalise })) ∧
    (x.state = .equalise → exec (.equaliseDone p) s = .next (s.setPort p.val { x with state := .laneMap })) ∧
    (x.state = .laneMap →
      (8 ≤ laneCount r → 8 ≤ laneCount w → exec (.laneMapDone p rx tx) s =
        .next ((s.setPort p.val (mapped .identify)).emit (.identity p (recordFrame own)))) ∧
      (laneCount r < 8 ∨ laneCount w < 8 → goesDown (.laneMapDone p rx tx))) ∧
    (x.state = .fastRetrain →
      (8 ≤ laneCount r → 8 ≤ laneCount w → x.queued = [] → x.owes = false → x.pendCross = false →
        x.pendSwitch = false → x.pendRefresh = false → ∃ t, exec (.fastRetrainDone p true rx tx) s = .next t ∧
        t.port p.val = { mapped x.cameFrom with lastAckClk := if x.replay = [] then x.lastAckClk else s.clk } ∧
        t.out = s.out ++ x.replay.map fun g => .group p g.image g.starts) ∧
      retrains (.fastRetrainDone p false rx tx) ∧
      (laneCount r < 8 ∨ laneCount w < 8 → retrains (.fastRetrainDone p true rx tx)) ∧
      (s.boot.done = true → x.trainClk + 40 * 1200 ≤ s.clk → retrains (.trainingTimeout p))) ∧
    (s.boot.done = true → x.state = .detect ∨ x.state = .equalise ∨ x.state = .laneMap ∨ x.state = .identify →
      x.trainClk + (if x.ctl.toNat / 2 % 4 = 2 then 250 else 100) * 1200000 ≤ s.clk → goesDown (.trainingTimeout p)) ∧
    (x.state = .down → x.ctl.getLsbD 0 = true → x.trainClk + 1000 * 1200000 ≤ s.clk → retrains (.downRetry p))) ∧
  (∀ (s : State) (p : PortId) (frame : Bytes) (r : IdRecord) (verdict : Bool),
    let x := s.port p.val
    let t := s.fab.active
    let entry := (t.port.get Topo.noPort p.val).toNat
    let v := min x.verOffer r.verMax.toNat
    let version := if max 1 r.verMin.toNat ≤ v then v else 0
    let unfit : Nat :=
      if entry % 8 = 7 ∨ r.chipId = 0xFFFF ∨ r.chipId.getLsbD 15 = true then 1
      else if r.chipId.toNat ≠ entry / 256 % 65536 ∨ r.port.val ≠ entry / 16 % 16 then 2
      else if r.epoch.toNat ≠ t.topg.toNat / 2 ^ 32 % 2 ^ 32 then 3
      else if version = 0 then 4
      else if entry / 8 % 2 = 1 ∧ ¬(version = 2 ∧ r.sealCap = true) then 5
      else 0
    let why : Nat := if unfit = 0 ∧ verdict = false then 7 else unfit
    let seen (y : Port) : Prop := y.haveRecord = true ∧ y.nonce = r.bootNonce ∧
      y.peer = putAt 0 r.chipId.toNat ||| putAt 16 r.port.val ||| flagAt 20 r.sealCap ||| putAt 32 r.epoch.toNat ∧
      y.peerV = putAt 0 r.verMin.toNat ||| putAt 16 r.verMax.toNat
    let settles (i : Instr) : Prop := ∃ t, exec i s = .next t ∧ (t.port p.val).ver = BitVec.ofNat 2 version ∧
      (t.port p.val).record = some r ∧ seen (t.port p.val) ∧
      (why = 0 → (t.port p.val).state = .active) ∧
      (why ≠ 0 → (t.port p.val).state = .quarantine ∧ (t.port p.val).qReason = BitVec.ofNat 3 why)
    let noticesReset (i : Instr) : Prop := ∃ t, exec i s = .next t ∧ (t.port p.val).state = .detect ∧
      (t.port p.val).peerReset = true ∧ seen (t.port p.val) ∧ (t.port p.val).replay = [] ∧
      (t.port p.val).queued = [] ∧ (t.port p.val).rxSeq = 0
    let seed := s.draw.1
    let hello := Config.kemFresh seed ++ Config.linkNonce s.draw.2.draw.1 ++ Config.certificateChain
    frameRecord (recordFrame r) = some r ∧
    (frameRecord frame = none → exec (.identityRecord p frame verdict) s = .next s ∧
      exec (.refreshFrame p frame verdict) s = .next s) ∧
    (frameRecord frame = some r → s.ports.wf .reset = true →
      (x.state = .identify → (x.haveRecord = true → x.nonce = r.bootNonce) →
        x.pendCross = false → x.pendSwitch = false → x.pendRefresh = false →
        (¬(version = 2 ∧ r.sealCap = true ∧ r.chipId ≠ ownChip s) → settles (.identityRecord p frame verdict)) ∧
        (version = 2 → r.sealCap = true → r.chipId ≠ ownChip s → ∃ t, exec (.identityRecord p frame verdict) s = .next t ∧
          (t.port p.val).state = .identify ∧ seen (t.port p.val) ∧
          ((ownChip s).toNat < r.chipId.toNat → (t.port p.val).agreement = .awaitM2 ∧
            (t.port p.val).keySeed = seed ∧ (t.port p.val).keyHello = hello ∧
            t.out = s.out ++ .verdict p (unfit == 0) ::
              (keyFragments 1 hello).map fun f => .packet (some p) 3 (linkPkt s p 2 f)) ∧
          (r.chipId.toNat < (ownChip s).toNat → (t.port p.val).agreement = .awaitM1 ∧
            t.out = s.out ++ [.verdict p (unfit == 0)]))) ∧
      (x.state = .identify → x.haveRecord = true → x.nonce ≠ r.bootNonce → noticesReset (.identityRecord p frame verdict)) ∧
      (x.state = .active ∨ x.state = .quarantine →
        (x.nonce = r.bootNonce → ¬(x.state = .quarantine ∧ x.qReason = 6) → settles (.refreshFrame p frame verdict)) ∧
        (x.nonce = r.bootNonce → x.state = .quarantine → x.qReason = 6 →
          ∃ y, exec (.refreshFrame p frame verdict) s = .next (s.setPort p.val y) ∧ seen y ∧ y.state = .quarantine ∧
            y.qReason = 6) ∧
        (x.nonce ≠ r.bootNonce → noticesReset (.refreshFrame p frame verdict)))))

/-- Flit groups, replay and thresholds. A good group with the expected number is accepted once: the number moves on, acked
groups leave the replay buffer, credits are held, the stream's packets arrive, and the next group that leaves
acknowledges it. A group with a wrong CRC or number is discarded, with a nak in the next group that leaves; the eighth
failure in a row of one number starts a fast retrain; a second tag failure of one number ends in QUARANTINE with
reason 6. The replay timer sends held groups again; a window of plumb time is judged once: counts over a threshold set
degr, the third such window of a lane excludes it, and every window starts its counts again (11 R302 to R305, R314 to
R316, R321, 12 R334). -/
def Obligations.FlitGroupResults : Prop :=
  ∀ (s : State) (p : PortId) (g : FlitGroup), s.ports.wf .reset = true →
    let x := s.port p.val
    x.state = .active ∨ x.state = .quarantine →
    let t := g.trailer
    let sound : Prop := (∀ c ∈ g.codewords, c.2 ≤ 15) ∧ g.crcOk = true
    let current := t.keyPhase = x.rxPhase
    let opened : Option Bytes :=
      if x.sealed = false then some g.stream
      else if ¬current ∧ x.nextRx = false then none
      else Config.gcmOpen (x.keyBytes.get [] (2 + t.keyPhase.toNat))
        (x.salts.get [] (2 + t.keyPhase.toNat) ++ leBytes 8 (if current then x.rxGroups else 0))
        ((g.bytes.drop 5088).take 12) g.stream t.tag
    let room : Prop := x.replay.length < 1024 ∧ (x.sealed = true → x.txGroups < 2 ^ 36)
    let groupOut (e : SentGroup) : Out := .group p e.image e.starts
    let said (e : SentGroup) : Trailer := trailerOf (e.image.drop 5088)
    (∀ stream, sound → t.seq = x.rxSeq → opened = some stream → t.verdict = x.peerVerdict → x.queued = [] →
      x.credits.wf 0 = true →
      ∃ n, exec (.flitGroupReceive p g) s = .next n ∧
        (n.port p.val).rxSeq = x.rxSeq + 1 ∧ (n.port p.val).nakSent = false ∧ (n.port p.val).failCount = 0 ∧
        (n.port p.val).tagFailed = false ∧ (n.port p.val).state = x.state ∧
        (n.port p.val).arrived = (x.takeStream stream g.starts).arrived ∧
        (x.sealed = true → (n.port p.val).rxPhase = t.keyPhase ∧
          (n.port p.val).rxGroups = (if current then x.rxGroups else 0) + 1) ∧
        (∀ cls < 8, (n.port p.val).credits.get 0 cls = x.credits.get 0 cls + t.credits.getD cls 0) ∧
        (∀ left, (t.ackValid = false ∨ (∀ e ∈ x.replay, e.seq ≠ t.ack) → left = x.replay) →
          (t.ackValid = true → ∀ old e rest, x.replay = old ++ e :: rest → e.seq = t.ack →
            (∀ o ∈ old, o.seq ≠ t.ack) → left = rest) → room →
          ∃ e, e.seq = x.txSeq ∧ (n.port p.val).replay = left ++ [e] ∧ (n.port p.val).txSeq = x.txSeq + 1 ∧
            n.out = s.out ++ (if t.nak then left.map groupOut else []) ++ [groupOut e] ∧
            (x.sealed = false → (said e).seq = x.txSeq ∧ (said e).ack = x.rxSeq ∧ (said e).ackValid = true ∧
              (said e).nak = false)) ∧
        (∀ q, q ≠ p.val → n.port q = s.port q)) ∧
    (sound → t.seq ≠ x.rxSeq → ∃ n, exec (.flitGroupReceive p g) s = .next n ∧ (n.port p.val).rxSeq = x.rxSeq ∧
      (n.port p.val).nakSent = true ∧ (n.port p.val).crcFail = x.crcFail ∧ (n.port p.val).failCount = x.failCount ∧
      (n.port p.val).arrived = x.arrived ∧ (n.port p.val).state = x.state) ∧
    ((∀ c ∈ g.codewords, c.2 ≤ 15) → g.crcOk = false → t.seq = x.rxSeq →
      (x.failCount < 7 → ∃ n, exec (.flitGroupReceive p g) s = .next n ∧ (n.port p.val).rxSeq = x.rxSeq ∧
        (n.port p.val).nakSent = true ∧ (n.port p.val).failCount = x.failCount + 1 ∧
        (n.port p.val).crcFail = min 0xFFFFFFFE (x.crcFail + 1) ∧ (n.port p.val).arrived = x.arrived ∧
        (n.port p.val).state = x.state ∧
        (x.queued = [] → x.nakSent = true → x.owes = false → n.out = s.out) ∧
        (x.queued = [] → x.nakSent = false → room → ∃ e, n.out = s.out ++ [groupOut e] ∧
          (x.sealed = false → (said e).nak = true))) ∧
      (7 ≤ x.failCount → (∀ t ∈ x.fastTimes, t + 1000 * 1200000 ≤ s.clk) →
        ∃ n, exec (.flitGroupReceive p g) s = .next n ∧ (n.port p.val).state = .fastRetrain ∧
          (n.port p.val).cameFrom = x.state ∧ (n.port p.val).failCount = 0)) ∧
    ((∃ c ∈ g.codewords, 15 < c.2) → x.failCount < 7 → ∃ n, exec (.flitGroupReceive p g) s = .next n ∧
      (n.port p.val).rxSeq = x.rxSeq ∧ (n.port p.val).nakSent = true ∧ (n.port p.val).crcFail = x.crcFail ∧
      (n.port p.val).ueCw = min 0xFFFFFE (x.ueCw + (g.codewords.filter fun c => decide (15 < c.2)).length)) ∧
    (sound → t.seq = x.rxSeq → opened = none →
      (x.tagFailed = true → ∃ n, exec (.flitGroupReceive p g) s = .next n ∧ (n.port p.val).state = .quarantine ∧
        (n.port p.val).qReason = 6 ∧ (n.port p.val).crcFail = min 0xFFFFFFFE (x.crcFail + 1)) ∧
      (x.tagFailed = false → x.failCount < 7 → ∃ n, exec (.flitGroupReceive p g) s = .next n ∧
        (n.port p.val).tagFailed = true ∧ (n.port p.val).rxSeq = x.rxSeq)) ∧
    (x.replay ≠ [] → x.lastAckClk + (if x.ctl.toNat / 2 % 4 = 2 then 4 else 2) * 1200 ≤ s.clk →
      exec (.replayTimeout p) s = .next { s.setPort p.val { x with lastAckClk := s.clk } with
        out := s.out ++ x.replay.map groupOut }) ∧
    (let n := s.plumb.now.toNat / 1200000
     let most := x.ctl.toNat / 2 ^ 16 % 2 ^ 24
     (n = x.msWindow → exec (.linkThresholdWindow p .oneMs) s = .next s) ∧
     (n ≠ x.msWindow → x.laneCe.wf 0 = true → x.laneOver.wf 0 = true →
      ((∀ l < 17, x.laneCe.get 0 l ≤ most) → x.retryCount ≤ x.ctl.toNat / 2 ^ 40 % 256 →
        ∃ y, exec (.linkThresholdWindow p .oneMs) s = .next (s.setPort p.val y) ∧ y.retryCount = 0 ∧ y.msWindow = n ∧
          (∀ l < 17, y.laneCe.get 0 l = 0 ∧ y.laneOver.get 0 l = 0) ∧ y.degr = x.degr ∧ y.state = x.state) ∧
      ((∀ l < 17, x.laneCe.get 0 l ≤ most) → x.ctl.toNat / 2 ^ 40 % 256 < x.retryCount →
        ∃ t, exec (.linkThresholdWindow p .oneMs) s = .next t ∧ (t.port p.val).degr = true ∧
          (t.port p.val).retryCount = 0) ∧
      (∀ l < 17, most < x.laneCe.get 0 l → x.laneOver.get 0 l = 2 → (∀ m < 17, m ≠ l → x.laneCe.get 0 m ≤ most) →
        x.retryCount ≤ x.ctl.toNat / 2 ^ 40 % 256 → (∀ t ∈ x.fastTimes, t + 1000 * 1200000 ≤ s.clk) →
        ∃ t, exec (.linkThresholdWindow p .oneMs) s = .next t ∧ (t.port p.val).degr = true ∧
          (t.port p.val).state = .fastRetrain ∧ (t.port p.val).cameFrom = x.state ∧
          (t.port p.val).degraded = x.degraded ||| (1#17 <<< l)))) ∧
    (let n := s.plumb.now.toNat / 1200000000
     (n = x.secondWindow → exec (.linkThresholdWindow p .oneSecond) s = .next s) ∧
     (n ≠ x.secondWindow → x.ueCount ≤ x.ctl.toNat / 2 ^ 48 % 256 → exec (.linkThresholdWindow p .oneSecond) s =
       .next (s.setPort p.val { x with ueCount := 0, secondWindow := n })) ∧
     (n ≠ x.secondWindow → x.ctl.toNat / 2 ^ 48 % 256 < x.ueCount →
       ∃ t, exec (.linkThresholdWindow p .oneSecond) s = .next t ∧ (t.port p.val).degr = true ∧
         (t.port p.val).ueCount = 0))

/-- Link keys. With the security core up, a responder answers M1 with M2; a good proof in M2 or M3 puts the keys derived
from the secret and the transcript in force, at once in IDENTIFY and as the next keys elsewhere, and a bad one ends
the exchange; a failed exchange of a sealed port is tried again 1 ms later. A switch zeroises the superseded key and
flips the phase, once per agreed key; during training it waits; a key at the end of its life with no next key ends in
QUARANTINE with reason 6 (11 R306, R315, 19 R517 to R519, R523). -/
def Obligations.LinkKeyResults : Prop :=
  ∀ (s : State) (p : PortId) (frags : List Bytes) (proof : PeerProof) (m : Bytes), s.ports.wf .reset = true →
    (s.proc 0).down = false → s.sec.keys.wf false = true →
    let x := s.port p.val
    let good : Prop := proof.chainOk = true ∧ s.fuses.svnFloor ≤ proof.svn ∧ proof.signatureOk = true
    let slot (receive phase : Bool) : Nat := 0x10 + 4 * p.val + (if receive then 2 else 0) + (if phase then 1 else 0)
    let place (receive phase : Bool) : Nat := (if receive then 2 else 0) + (if phase then 1 else 0)
    let signature (th : Bytes) : Bytes := Config.aliasSign (runningDigest s 1) (s.component 1).runSvn th
    let sends (t : State) (n : Nat) (body : Bytes) : Prop := x.state = .identify → ∀ f ∈ keyFragments n body,
      Out.packet (some p) 3 (linkPkt s p 2 f) ∈ t.out
    let ended (y : Port) : Prop := y.agreement = .none ∧ y.keySeed = 0 ∧ y.keySecret = [] ∧ y.keyTranscript = []
    let key (secret th : Bytes) (n : Nat) : Bytes := sha3_256 (secret ++ th ++ leBytes 1 n)
    let holds (t : State) (receive phase : Bool) (secret th : Bytes) (n : Nat) : Prop :=
      t.sec.keys.get false (slot receive phase) = true ∧
        (t.port p.val).keyBytes.get [] (place receive phase) = key secret th n ∧
        (t.port p.val).salts.get [] (place receive phase) = (key secret th (n + 2)).take 4
    let quiet : Prop := x.pendCross = false ∧ x.pendSwitch = false ∧ x.pendRefresh = false
    let agreed (i : Instr) (secret th : Bytes) (toMe fromMe : Nat) : Prop := quiet → x.keyBytes.wf [] = true →
      x.salts.wf [] = true → ∃ t, exec i s = .next t ∧ ended (t.port p.val) ∧
      (x.state = .identify → (t.port p.val).sealed = true ∧
        holds t true x.rxPhase secret th toMe ∧ holds t false x.txPhase secret th fromMe) ∧
      (x.state ≠ .identify → (t.port p.val).nextTx = true ∧ (t.port p.val).nextRx = true ∧
        (t.port p.val).txPhase = x.txPhase ∧ (t.port p.val).rxPhase = x.rxPhase ∧
        holds t true (!x.rxPhase) secret th toMe ∧ holds t false (!x.txPhase) secret th fromMe)
    let failed (i : Instr) : Prop := quiet → ∃ t, exec i s = .next t ∧ ended (t.port p.val) ∧
      (x.state ≠ .identify → (t.port p.val).retryKeyAt = some (s.clk + 1200000) ∧ (t.port p.val).sealed = x.sealed) ∧
      (x.state = .identify → (t.port p.val).sealed = false ∧
        ((s.fab.active.port.get Topo.noPort p.val).toNat / 8 % 2 = 1 →
          (t.port p.val).state = .quarantine ∧ (t.port p.val).qReason = 6))
    let seed := s.draw.1
    let nonce := Config.linkNonce s.draw.2.draw.1
    let starts (i : Instr) (y : Port) : Prop := ∀ r, x.record = some r →
      ((ownChip s).toNat < r.chipId.toNat → ∃ t, exec i s = .next t ∧ (t.port p.val).agreement = .awaitM2 ∧
        (t.port p.val).keySeed = seed ∧
        (t.port p.val).keyHello = Config.kemFresh seed ++ nonce ++ Config.certificateChain ∧
        (t.port p.val).retryKeyAt = y.retryKeyAt) ∧
      (r.chipId.toNat ≤ (ownChip s).toNat → exec i s = .next (s.setPort p.val { y with agreement := .awaitM1 }))
    let switched (receive phase : Bool) (y : Port) : Answer := .next (setKey (slot receive phase) false
      (s.setPort p.val { y with
        keyBytes := x.keyBytes.set [] (place receive phase) [], salts := x.salts.set [] (place receive phase) [] }))
    (x.agreement = .awaitM1 → keyBody 1 frags = some m →
      let answer := Config.kemCipher seed (m.take 1184) ++ nonce ++ Config.certificateChain
      let th := sha3_256 (m.take (1216 + Config.chainLength (m.drop 1216)) ++ answer)
      ∃ t, exec (.keyAgreementM1 ⟨p, frags⟩) s = .next t ∧ (t.port p.val).agreement = .awaitM3 ∧
        (t.port p.val).keyTranscript = th ∧ (t.port p.val).keySecret = Config.kemSecretSent seed (m.take 1184) ∧
        sends t 2 (answer ++ signature th)) ∧
    (x.agreement = .awaitM2 → keyBody 2 frags = some m →
      let th := sha3_256 (x.keyHello ++ m.take (1120 + Config.chainLength (m.drop 1120)))
      (good → agreed (.keyAgreementM2 ⟨p, frags⟩ proof) (Config.kemSecretGot x.keySeed (m.take 1088)) th 2 1 ∧
        (quiet → ∃ t, exec (.keyAgreementM2 ⟨p, frags⟩ proof) s = .next t ∧ sends t 3 (signature th))) ∧
      (¬good → failed (.keyAgreementM2 ⟨p, frags⟩ proof) ∧
        (quiet → ∃ t, exec (.keyAgreementM2 ⟨p, frags⟩ proof) s = .next t ∧ sends t 4 []))) ∧
    (x.agreement = .awaitM3 → keyBody 3 frags = some m →
      (good → agreed (.keyAgreementM3 ⟨p, frags⟩ proof) x.keySecret x.keyTranscript 1 2) ∧
      (¬good → failed (.keyAgreementM3 ⟨p, frags⟩ proof))) ∧
    (x.agreement ≠ .none → failed (.keyAgreementAbort p)) ∧
    (∀ transmit, x.state = .fastRetrain ∨ x.state = .identify →
      exec (.keySwitch p transmit) s = .next (s.setPort p.val { x with pendSwitch := true })) ∧
    (x.sealed = true → x.state = .active ∨ x.state = .quarantine →
      (x.nextTx = true → x.queued = [] → x.owes = false → exec (.keySwitch p true) s =
        switched false x.txPhase { x with txPhase := !x.txPhase, txGroups := 0, nextTx := false }) ∧
      (x.nextRx = true → exec (.keySwitch p false) s =
        switched true x.rxPhase { x with rxPhase := !x.rxPhase, rxGroups := 0, nextRx := false }) ∧
      (x.nextTx = false → x.nextRx = true → exec (.keySwitch p true) s = .next s) ∧
      (x.nextTx = true → x.nextRx = false → exec (.keySwitch p false) s = .next s) ∧
      (∀ transmit, x.nextTx = false → x.nextRx = false →
        (x.txGroups < 2 ^ 36 → x.rxGroups < 2 ^ 36 → x.agreement = .none → starts (.keySwitch p transmit) x) ∧
        (2 ^ 36 ≤ x.txGroups ∨ 2 ^ 36 ≤ x.rxGroups →
          ∃ t, exec (.keySwitch p transmit) s = .next t ∧ (t.port p.val).state = .quarantine ∧
            (t.port p.val).qReason = 6))) ∧
    (∀ due, x.sealed = true → x.retryKeyAt = some due → due ≤ s.clk →
      starts (.keySwitchRetry p) { x with retryKeyAt := none })

/-- The choice of a port: among the candidates of the route that are usable for the packet's channel, the one with the
most credits for the channel and class of its own hop, ties to the lower number; without a usable candidate there is
none (12 R337 to R341). -/
def Obligations.RouteTakesMostCredits : Prop :=
  ∀ (s : State) (inPort : Option PortId) (k : Pkt) (own : Nat) (ps : List PortId),
    typeVc k.ptype = some own → candidates s k.dstChip k.dir = some ps → ps.Pairwise (fun a b => a < b) →
    let held (p : PortId) : Nat := (s.port p.val).creditFor (hopVc s k p own) (hopDl s inPort p k.dl).toNat
    (choosePort s inPort k = none ↔ ∀ p ∈ ps, (s.port p.val).usable own = false) ∧
    (∀ p vc dl, choosePort s inPort k = some (p, vc, dl) →
      p ∈ ps ∧ (s.port p.val).usable own = true ∧ vc = hopVc s k p own ∧ dl = hopDl s inPort p k.dl ∧
      ∀ q ∈ ps, (s.port q.val).usable own = true → held q < held p ∨ (held q = held p ∧ p ≤ q))

/-- Packets at this chip. One that starts here joins the queue of the port its route chooses: it leaves at once, in a flit
group of its own, where its channel is open, nothing waits and the port holds credits for all of it, and waits where
they are short. The next one that a port's groups have brought is delivered, goes on or is discarded with
FAB_STAT.drops one higher (up to its top), and its buffer units go back with the next group; a discard within 1 ms of
a record at the same port makes no other. An echo sets the level of its chip to max(1, q − ceil(q/4)), and a step
without one raises it to 64 at most. A peer-down notice lists the chip, closes the ports that lead to it and frees its
message entries (12 R332, R334, R336, R337, R340, R348, R350, 14 R412). -/
def Obligations.RoutingResults : Prop :=
  ∀ (s : State) (vc : Fin 4) (q : PortId) (k : Pkt), s.ports.wf .reset = true →
    let isHere (t : Fin 16) : Prop := k.ptype = t ∧ firstAxis s k.dstChip = none ∧ k.crc = k.crcOf
    let drops := min 0xFFFFFE (s.fab.drops + 1)
    let dropsOne (i : Instr) : Prop := ∃ t, exec i s = .next t ∧ t.fab.drops = drops
    let leaves (p : PortId) (ch : Nat) (k' : Pkt) : Prop := ∃ t e, exec (.packetRoute none vc k) s = .next t ∧
      t = { s with ports := t.ports, out := s.out ++ [.packet (some p) ch k', .group p e.image e.starts] } ∧
      (t.port p.val).queued = [] ∧ (t.port p.val).replay = (s.port p.val).replay ++ [e] ∧ e.starts = [0] ∧
      ((s.port p.val).sealed = false → e.image.take k'.image.length = k'.image)
    (∀ own p ch dl, typeVc k.ptype = some own → k.ptype.val ≠ 9 → firstAxis s k.dstChip ≠ none →
      choosePort s none k = some (p, ch, dl) →
      let x := s.port p.val
      x.queued = [] → x.credits.wf 0 = true →
      (x.state = .active ∨ (x.state = .quarantine ∧ ch = 3) → k.units ≤ x.creditFor ch dl.toNat →
        k.payload.length ≤ 5056 → x.groupRoom ≠ 0 → leaves p ch { k with dl := dl }) ∧
      (x.creditFor ch dl.toNat < k.units → x.owes = false → exec (.packetRoute none vc k) s =
        .next (s.setPort p.val { x with queued := [⟨ch, { k with dl := dl }⟩] }))) ∧
    (∀ own, typeVc k.ptype = some own → k.ptype.val ≠ 9 → firstAxis s k.dstChip ≠ none →
      choosePort s none k = none → dropsOne (.packetRoute none vc k)) ∧
    (typeVc k.ptype = none → dropsOne (.packetRoute none vc k)) ∧
    (let x := s.port q.val
     let units := x.freed.get 0 (2 * vc.val + k.dl.toNat) + k.units
     (∀ next rest, x.arrived = next :: rest → next ≠ k → exec (.packetRoute (some q) vc k) s = .next s) ∧
     (∀ rest, x.arrived = k :: rest → x.freed.wf 0 = true →
      (firstAxis s k.dstChip = none → (typeVc k.ptype = some 3 ∧ vc = 3) ∨
        (∃ own, own ≤ 1 ∧ typeVc k.ptype = some own ∧ (vc.val = own ∨ vc = 2) ∧ x.forData = true) →
        ∃ t, exec (.packetRoute (some q) vc k) s = .next t ∧ t = { s with ports := t.ports, out := t.out } ∧
          (t.port q.val).arrived = rest ∧
          (x.queued = [] → x.state = .active ∨ x.state = .quarantine → x.sealed = false → x.groupRoom ≠ 0 →
            ∃ e, t.out = s.out ++ [.group q e.image e.starts] ∧ (t.port q.val).replay = x.replay ++ [e] ∧
              (trailerOf (e.image.drop 5088)).credits.getD (2 * vc.val + k.dl.toNat) 0 = min 127 units)) ∧
      (typeVc k.ptype = some 0 → vc = 1 ∨ vc = 3 → dropsOne (.packetRoute (some q) vc k)))) ∧
    (k.ptype = 7 → firstAxis s k.dstChip = none → k.crc ≠ k.crcOf → dropsOne (.echo ⟨q, k⟩) ∧
      (∀ c, (s.port q.val).routeClk = some c → s.clk < c + 1200000 → exec (.echo ⟨q, k⟩) s =
        .next { s.setPort q.val { s.port q.val with routeDrops := (s.port q.val).routeDrops + 1 } with
          fab := { s.fab with drops := drops } })) ∧
    (isHere 7 →
      ∃ t, exec (.echo ⟨q, k⟩) s = .next t ∧ t = { s with fab := { s.fab with limiters := t.fab.limiters, uses := s.fab.uses + 1 } } ∧
        (∃ l ∈ t.fab.limiters, l.chip = k.srcChip) ∧
        (∀ l ∈ t.fab.limiters, l.chip = k.srcChip → l.lastClk = s.clk ∧
          ∃ q, (q = 64 ∨ ∃ l₀ ∈ s.fab.limiters, l₀.chip = k.srcChip ∧ l₀.q = q) ∧ l.q = max 1 (q - (q + 3) / 4))) ∧
    (∃ t, exec (.limiterStep k.srcChip) s = .next t ∧
      t = { s with fab := { s.fab with limiters := s.fab.limiters.map fun l =>
        if l.chip = k.srcChip ∧ l.q < 64 ∧ l.lastClk + s.fab.ctl.toNat / 2 ^ 48 % 256 * 1200 ≤ s.clk then
          { l with q := l.q + 1, lastClk := s.clk } else l } }) ∧
    (let chip := BitVec.ofNat 16 (leAt k.payload 0 2)
     isHere 8 → k.aux = 4 → (∀ o ∈ s.fab.ops, o.dst ≠ chip) → s.fab.entries.wf none = true →
      (∃ i < 64, s.fab.peerDown.get none i = none) →
      ∃ t, exec (.peerDownNotice ⟨q, k⟩) s = .next t ∧ peerListed t chip = true ∧
        (∀ p : PortId, (s.port p.val).haveRecord = true → (s.port p.val).peer.toNat % 65536 = chip.toNat →
          (t.port p.val).closed = true) ∧
        (∀ h e, t.fab.entries.get none h = some e → h < 65536 → e.srcChip ≠ chip))

/-- At the source of a message or add: a reply that matches an operation of the context's generation does its part. GRANT
sends every DATA packet; REFUSE 0x09 waits and another reason faults the core with it; a retry comes 2 µs later and
leaves the last answer as it is; RESEND sends one packet again, at most 3 times; ACK ends the operation and adds 1 to
its semaphore; the end-to-end timer ends in PEER_LOST, or TRANSFER 0x09 while busy; an unmatched reply of a known
context counts as late (12 R342 to R346, 14 R400). At the destination: OPEN that passes its checks takes a free entry
and is granted, else it is refused with its reason; a DATA packet in order is written inside the extent and counted
once; a wrong CRC asks for it again three times and then poisons its bytes; a message whose packets have all been
accepted adds 1 to gdsem, is acknowledged and freed; SEMADD is applied once and acknowledged; an idle entry is freed;
a DATA packet without an entry is discarded at its port (12 R340, R343 to R346, 09 R256, 15 R428). -/
def Obligations.MessageResults : Prop :=
  (∀ (s : State) (p : PortId) (k : Pkt) (o : RemoteOp), firstAxis s k.dstChip = none → k.crc = k.crcOf →
    let sendsAll (h : BitVec 16) (u : State) : State :=
      (List.range o.dstDesc.messageRuns.length).foldl (sendData o h) u
    let faults (cause detail : Nat) : Answer := .next (failOp cause detail o s)
    (replyOp s k = some o →
      (k.ptype = 1 → (∀ h, o.phase ≠ .granted h) → (∀ name v, o.kind ≠ .semAdd name v) →
        exec (.grant ⟨p, k⟩) s = .next (sendsAll k.handle
          (changeLimiter o.dst id (changeOp o.msgId (fun o => { o with phase := .granted k.handle }) s)))) ∧
      (k.ptype = 2 → k.aux = 9 →
        exec (.refuse ⟨p, k⟩) s = .next (changeOp o.msgId (fun o => { o with phase := .busy, openClk := s.clk }) s)) ∧
      (k.ptype = 2 → k.aux ≠ 9 → k.aux.toNat < 256 → exec (.refuse ⟨p, k⟩) s = faults 0x08 k.aux.toNat) ∧
      (∀ h, k.ptype = 6 → o.phase = .granted h → o.resends.get 0 k.pktIndex.toNat < 3 →
        exec (.resend ⟨p, k⟩) s = .next (sendData o h (changeOp o.msgId (fun o => { o with
          resends := o.resends.update 0 k.pktIndex.toNat fun n => n + 1 }) s) k.pktIndex.toNat)) ∧
      (∀ h, k.ptype = 6 → o.phase = .granted h → 3 ≤ o.resends.get 0 k.pktIndex.toNat →
        exec (.resend ⟨p, k⟩) s = .next s) ∧
      (k.ptype = 4 → k.aux = 0 →
        exec (.ack ⟨p, k⟩) s = .next (sendHeld (signal o.core o.ctx o.gsem (dropOp o.msgId s))))) ∧
    (∀ j, replyOp s k = none → s.fab.active.entryOfJob k.job = some j →
      let c := s.fab.active.jobCtx j
      let late : Answer := .next (s.setCtx c.val { s.ctx c.val with late := min 0xFFFE ((s.ctx c.val).late + 1) })
      (k.ptype = 1 → exec (.grant ⟨p, k⟩) s = late) ∧ (k.ptype = 2 → exec (.refuse ⟨p, k⟩) s = late) ∧
      (k.ptype = 6 → exec (.resend ⟨p, k⟩) s = late) ∧ (k.ptype = 4 → exec (.ack ⟨p, k⟩) s = late)) ∧
    (o ∈ s.fab.ops → (∀ x ∈ s.fab.ops, x.msgId = o.msgId → x = o) → o.discarded s = false →
      (o.phase = .busy → o.openClk + 2 * 1200 ≤ s.clk → exec (.openRetry o.msgId) s =
        .next (sendPkt (openPkt o) (changeOp o.msgId (fun o => { o with openClk := s.clk }) s))) ∧
      (o.startClk + s.fab.ctl.toNat / 256 % 2 ^ 24 * 1200 ≤ s.clk →
        (o.phase = .busy → exec (.e2eTimeout o.msgId) s = faults 0x08 0x09) ∧
        (o.phase ≠ .busy → o.phase ≠ .held → exec (.e2eTimeout o.msgId) s = faults 0x07 0)))) ∧
  (∀ (s : State) (p : PortId) (k : Pkt), firstAxis s k.dstChip = none →
    let intact : Prop := k.crc = k.crcOf
    let refuses (i : Instr) (why : BitVec 16) : Prop := exec i s = .next (sendPkt { Pkt.blank with
      ptype := ptRefuse, dstChip := k.srcChip, job := k.job, gen := k.gen, msgId := k.msgId, aux := why } s)
    let reply (t : Fin 16) : Pkt :=
      { Pkt.blank with ptype := t, dstChip := k.srcChip, job := k.job, gen := k.gen, msgId := k.msgId }
    (intact → s.fab.active.entryOfJob k.job = none →
      (k.ptype = 0 → refuses (.openMsg p k) 0x04) ∧ (k.ptype = 5 → refuses (.semadd p k) 0x04)) ∧
    (∀ j, intact → s.fab.active.entryOfJob k.job = some j →
      let c := s.fab.active.jobCtx j
      (s.ctxFenced c.val = true →
        (k.ptype = 0 → refuses (.openMsg p k) 0x08) ∧ (k.ptype = 5 → refuses (.semadd p k) 0x08)) ∧
      (∀ e, k.ptype = 0 → openChecks s p k = .ok e → s.fab.entries.wf none = true →
        ∃ h : BitVec 16, s.fab.entries.get none h.toNat = none ∧
          exec (.openMsg p k) s = .next (sendPkt { reply ptGrant with handle := h } { s with
            fab := { s.fab with entries := s.fab.entries.set none h.toNat (some e) } }) ∧
          e.ctx = c ∧ e.srcChip = k.srcChip ∧ e.accepted = [] ∧ e.total = k.pktTotal.toNat) ∧
      (∀ why, k.ptype = 0 → openChecks s p k = .error why → refuses (.openMsg p k) (BitVec.ofNat 16 why)) ∧
      (k.ptype = 5 → shutToChips s c = false → ((s.ctx c.val).conf = true → (s.port p.val).sealed = true) →
        let name := BitVec.ofNat 64 (leAt k.payload 0 8)
        let value := BitVec.ofNat 64 (leAt k.payload 8 8)
        (frontSem s c name = none → refuses (.semadd p k) 0x07) ∧
        (∀ n, frontSem s c name = some n → outsideBox s k.job k.srcChip = false →
          exec (.semadd p k) s =
            .next (sendPkt (reply ptAck) (remoteAddHere n (rankPorts + p.val) c name value s))))) ∧
    (k.ptype = 3 → s.fab.entries.get none k.handle.toNat = none → ∀ c, (s.port p.val).routeClk = some c →
      s.clk < c + 1200000 → exec (.dataPkt ⟨p, k⟩) s =
        .next { s.setPort p.val { s.port p.val with routeDrops := (s.port p.val).routeDrops + 1 } with
          fab := { s.fab with drops := min 0xFFFFFE (s.fab.drops + 1) } }) ∧
    (∀ e, s.fab.entries.get none k.handle.toNat = some e →
      let i := k.pktIndex.toNat
      let a := k.dstAddr.toNat
      let keep (e : MsgEntry) (s : State) : State :=
        { s with fab := { s.fab with entries := s.fab.entries.set none k.handle.toNat (some e) } }
      k.ptype = 3 → shutToChips s e.ctx = false → e.outside = false → k.ce = false → e.srcChip = k.srcChip →
      e.gen = k.gen → e.msgId = k.msgId → e.total = k.pktTotal.toNat → i < e.total → i ∉ e.accepted →
      0 < k.payload.length → k.payload.length ≤ 8192 →
      (∃ r ∈ e.desc.runs, r.1 ≤ a ∧ a + k.payload.length ≤ r.1 + r.2) →
      (intact → e.reduce = false → exec (.dataPkt ⟨p, k⟩) s =
        .next (keep { e with accepted := e.accepted ++ [i], lastClk := s.clk }
          (s.writeVia e.pages a k.payload fun _ => false))) ∧
      (¬intact → e.crcFails.get 0 i < 3 → exec (.dataPkt ⟨p, k⟩) s =
        .next (sendPkt { reply ptResend with handle := k.handle, pktIndex := k.pktIndex }
          (keep { e with crcFails := e.crcFails.update 0 i fun n => n + 1 } s))) ∧
      (¬intact → 3 ≤ e.crcFails.get 0 i → ∃ r t, exec (.dataPkt ⟨p, k⟩) s = .next (logError r t) ∧ r.cause = 0x11 ∧
        r.sev = sevPoisoned ∧ t = keep { e with accepted := e.accepted ++ [i], poisoned := true, lastClk := s.clk }
          (s.writeVia e.pages a (s.bytesVia e.pages a k.payload.length) fun _ => true))) ∧
    (∀ e, s.fab.entries.get none k.handle.toNat = some e →
      let freed (u : State) : Answer :=
        .next { u with fab := { u.fab with entries := u.fab.entries.set none k.handle.toNat none } }
      let ack : Pkt := { Pkt.blank with
        ptype := ptAck, dstChip := e.srcChip, job := e.job, gen := e.gen, msgId := e.msgId, handle := k.handle,
        aux := BitVec.ofNat 16 (e.poisoned.toNat + 2 * e.echo.toNat) }
      (e.accepted.length = e.total → shutToChips s e.ctx = false → e.outside = false →
        exec (.messageComplete k.handle) s = freed (sendPkt ack (match e.gdsem with
          | none => s
          | some n => remoteAddHere n rankPorts e.ctx e.gdsemName 1 s))) ∧
      (e.accepted.length ≠ e.total → e.lastClk + s.fab.ctl.toNat / 256 % 2 ^ 24 * 1200 ≤ s.clk →
        ∃ r u, exec (.entryIdleTimeout k.handle) s = .next (logError r u) ∧ freed s = .next u ∧ r.cause = 0x11)))

/-- Plumb frames and what they bring. An ACTIVE port sends a LINK packet of 32 bytes, at most every 1 µs, that echoes its
last frame and says how long it held it; a master that is not valid yet tells no distance; a chip follows the valid
sender with the least hops, ties to the lower port; a valid chip takes the offset of its parent's frame into the mean
of the last eight; a chip without a parent for 100 µs and a replica that differs lose validity and set lost; a master
that hears no valid neighbour for 100 µs becomes valid; the root and a chip without a named master keep their own
count (12 R326, R330, R354 to R358, 15 R423). -/
def Obligations.PlumbTimeResults : Prop :=
  ∀ (s : State) (p : PortId) (k : Pkt) (f : PlumbInfo), s.ports.wf .reset = true →
    let x := s.port p.val
    let b := s.plumb
    plumbOf (plumbPayload f) = f ∧ (plumbPayload f).length = 32 ∧
    (x.state = .active → (∀ h, x.plumb = some h → (∀ t, x.plumbSent = some t → t + 1200 ≤ s.clk) →
        exec (.plumbFrameSend p) s = .next (putOnPort p 3 (linkPkt s p 1 (plumbPayload
          { tTx := b.now, tEcho := h.info.tTx, tHold := b.now - h.arrive,
            hops := Fin.ofNat 256 (if isMaster s = true ∧ b.valid = false then 255 else b.hops), valid := b.valid,
            master := masterChip s })) (s.setPort p.val { x with plumbSent := some s.clk }))) ∧
      (∀ t, x.plumbSent = some t → s.clk < t + 1200 → exec (.plumbFrameSend p) s = .next s)) ∧
    (isPlumb k = false → exec (.plumbFrame p k) s = .next s) ∧
    (x.state = .active → isPlumb k = true → f = plumbOf k.payload → masterChip s ≠ 0xFFFF → isRoot s = false →
      f.valid = true → f.master = masterChip s → f.hops.val < 255 →
      (∀ q : PortId, ∀ g, q ≠ p → parentFrame s q = some g →
        f.hops.val < g.info.hops.val ∨ (f.hops.val = g.info.hops.val ∧ p < q)) →
      ∃ t, exec (.plumbFrame p k) s = .next t ∧
        (t.port p.val).plumb = some ⟨f, b.now, s.clk⟩ ∧
        (let rtt := (b.now - f.tEcho - f.tHold).toInt
         let theta := (f.tTx - b.now).toInt + rtt / 2
         let seen := (b.thetas.drop (b.thetas.length - 7)) ++ [theta]
         b.valid = true →
         t.plumb.parent = some p ∧ t.plumb.hops = f.hops.val + 1 ∧ t.plumb.thetas = seen ∧ t.plumb.now = b.now ∧
           (2 * seen.sum > seen.length → t.plumb.slew = 1) ∧ (2 * seen.sum < -seen.length → t.plumb.slew = -1) ∧
           t.plumb.valid = decide ((seen.map Int.natAbs).sum ≤ 60 * seen.length) ∧
           (t.plumb.valid = false → t.plumb.lost = true))) ∧
    (masterChip s ≠ 0xFFFF → isRoot s = false → (∀ q, parentFrame s q = none) → ∃ t,
      exec .plumbParentLoss s = .next t ∧ t.plumb.parent = none ∧ t.plumb.hops = 255 ∧
      (∀ since, b.noParentSince = some since → since + 100 * 1200 ≤ s.clk → b.valid = true →
        t.plumb.valid = false ∧ t.plumb.lost = true) ∧
      (b.noParentSince = none → t.plumb.noParentSince = some s.clk ∧ t.plumb.valid = b.valid)) ∧
    (∀ since, b.commitClk = some since → since + 100 * 1200 ≤ s.clk → isMaster s = true → b.valid = false →
      b.heardValid = false → ∃ t, exec .masterWaitExpiry s = .next t ∧ t.plumb.valid = true ∧ t.plumb.hops = 0 ∧
        t.plumb.parent = none ∧ t.plumb.now = b.now ∧ t.plumb.slew = 0 ∧ t = { s with plumb := t.plumb }) ∧
    (masterChip s = 0xFFFF → ∃ t, exec .plumbParentLoss s = .next t ∧ t.plumb.slew = 0 ∧ t.plumb.parent = none ∧
      t.plumb.now = b.now ∧ t = { s with plumb := t.plumb }) ∧
    (∃ r t, exec .plumbReplicaMismatch s = .next t ∧ t.plumb.valid = false ∧ t.plumb.lost = (b.lost || b.valid) ∧
      t.plumb.now = b.now ∧ r.cause = 0x1B ∧ r.sev = sevEvent ∧
      t.err = (logError r { s with plumb := { b with valid := false, lost := b.lost || b.valid, calm := 0 } }).err)

/-- Link state and flow control of an Ethernet port: an enabled port's link comes up and goes down by sub-port; a lossless
priority of a port with a link pauses, and as it resumes the frames that it held leave in order; a port that loses its
link loses them. The flow-control state of the other priorities is unchanged (13 R381, R382). Work requests of a queue
pair. A request at the head of the ring of a valid queue pair ends with LOCAL_ERROR for the reserved length and at
once for length 0; SEND and WRITE send their local data, in packets no longer than the MTU, once the link, the class
and the rate allow; READ asks for its data and writes what comes back; RECV posts its buffer; an inbound SEND of the
store's class fills the oldest posted buffer that can hold it, and one that came marked is answered with a
notification; a request for device memory is answered with a NAK. Nothing outside the request's local bytes, the queue
pair and the journal changes (13 R382, R383, R386, 16 R462). The end of a work request: its status byte is written
into its entry, its queue pair's semaphore is signalled if it asks for it, and any status but success sets err; while
err is 1 what is left is flushed, oldest first. A congestion notification lowers the rate (13 R383, 16 R463). -/
def Obligations.EthernetResults : Prop :=
  (∀ (s : State) (port : Fin 2) (prio : Fin 8), s.eth.wf .reset = true →
    let x := s.ethPort port.val
    let becomes (i : Instr) (y : EthPort) : Prop := exec i s = .next { s with eth := s.eth.set .reset port.val y }
    (portsRun s = true → x.ctl.getLsbD 0 = true → becomes (.ethLinkUp port false) { x with up0 := true } ∧
      (x.ctl.getLsbD 1 = true → becomes (.ethLinkUp port true) { x with up1 := true })) ∧
    (x.up1 = false → becomes (.ethLinkDown port false) { x with up0 := false, waiting := [] }) ∧
    (x.up0 = false → becomes (.ethLinkDown port true) { x with up1 := false, waiting := [] }) ∧
    ((∀ w ∈ x.waiting, x.paused.getLsbD w.1.prio = true) →
      (x.up1 = true → becomes (.ethLinkDown port false) { x with up0 := false }) ∧
      (x.up0 = true → becomes (.ethLinkDown port true) { x with up1 := false }) ∧
      (x.ctl.getLsbD (8 + prio.val) = true → x.up0 = true ∨ x.up1 = true →
        (∃ y, becomes (.priorityFlowControlFrame port prio true) y ∧ y = { x with paused := y.paused } ∧
          ∀ i < 8, y.paused.getLsbD i = (i == prio.val || x.paused.getLsbD i)) ∧
        (∃ y, exec (.priorityFlowControlFrame port prio false) s =
            .next { s with eth := s.eth.set .reset port.val y, out := s.out ++
              (x.waiting.filter fun w => w.1.prio == prio.val).map fun w => .frame port.val w.1 w.2 } ∧
          y = { x with paused := y.paused, waiting := x.waiting.filter fun w => w.1.prio != prio.val } ∧
          ∀ i < 8, y.paused.getLsbD i = (i != prio.val && x.paused.getLsbD i))))) ∧
  (∀ (s : State) (q : Fin 1024) (marked : Bool) (data : Bytes), s.qps.wf .reset = true →
    let x := s.qp q.val
    let put (y : Qp) (s : State) : State := { s with qps := s.qps.set .reset q.val y }
    let next : Nat := (x.head + 1) % 2 ^ x.field 48 1
    let ends (status : BitVec 8) (u : State) : State := put { x with head := next, ended := x.ended ++ [(x.head, status)] } u
    let mtu := 512 * 2 ^ x.field 3 1
    let packets (n : Nat) : Nat := (n + mtu - 1) / mtu
    let link : Bool := if x.upper then (s.ethPort x.port).up1 else (s.ethPort x.port).up0
    let store (k : RocePkt) : Out := .frame x.port ⟨3, 26, none⟩ (.roce q.val k)
    x.valid = true →
    (∀ r op i, (op = 0 ∧ i = .roceSend q) ∨ (op = 1 ∧ i = .rdmaWrite q) ∨ (op = 2 ∧ i = .rdmaRead q ⟨marked, data⟩) ∨
        (op = 3 ∧ i = .recv q) → headReq s q.val op = some r →
      (r.len = 2 ^ 64 - 1 → exec i s = .next (ends 0x04 s)) ∧
      (r.len = 0 → exec i s = .next (ends 0x01 s))) ∧
    (∀ r op i pages, (op = 0 ∧ i = .roceSend q) ∨ (op = 1 ∧ i = .rdmaWrite q) → headReq s q.val op = some r →
      0 < r.len → r.len ≠ 2 ^ 64 - 1 → qpCanSend s x = true → x.sendAt ≤ s.clk → s.latent = .empty →
      localPages s x.ctx r r.len { r := true } = some pages →
      (s.poisonedVia pages r.laddr r.len = true → exec i s = .next (ends 0x04 s)) ∧
      (s.poisonedVia pages r.laddr r.len = false → ∃ t y, exec i s = .next t ∧
        t = { put y s with
          draws := t.draws
          out := s.out ++ (List.range (packets r.len)).map (fun i => store ⟨op, x.psn + BitVec.ofNat 24 i, i == 0,
            i + 1 == packets r.len, (if i = 0 ∧ op = 1 then r.rest else []) ++
              ((s.bytesVia pages r.laddr r.len).drop (mtu * i)).take mtu⟩) } ∧
        y = { x with head := next, flight := some x.head, psn := x.psn + BitVec.ofNat 24 (packets r.len), rate := y.rate,
                     sendAt := y.sendAt } ∧
        x.rate ≤ y.rate ∧ (0 < x.rate → s.clk * y.rate + 8 * r.len * 1200 ≤ y.sendAt * y.rate))) ∧
    (∀ r pages, headReq s q.val 2 = some r → 0 < r.len → r.len ≠ 2 ^ 64 - 1 → qpCanSend s x = true → data.length = r.len →
      (s.ctx x.ctx.val).recording = false → localPages s x.ctx r r.len { w := true } = some pages →
      ∃ t, exec (.rdmaRead q ⟨false, data⟩) s = .next t ∧
        t.mem = (s.writeVia pages r.laddr data fun _ => false).mem ∧
        t.out = s.out ++ [store ⟨2, x.psn, true, true, r.rest⟩] ∧ t.qp q.val = { x with
          head := next, ended := x.ended ++ [(x.head, 0x01)], psn := x.psn + BitVec.ofNat 24 (packets r.len) }) ∧
    (∀ r, headReq s q.val 3 = some r → 0 < r.len → r.len ≠ 2 ^ 64 - 1 →
      exec (.recv q) s = .next (put { x with head := next, posted := x.posted ++ [x.head] } s)) ∧
    (∀ i rest r pages, x.posted = i :: rest → x.err = false → s.ctxFenced x.ctx.val = false → workReq s x i = some r →
      r.bad = false → link = true →
      (r.len < data.length → exec (.inboundSend ⟨q, 26⟩ ⟨false, data⟩) s =
        .next (put { x with posted := rest, ended := x.ended ++ [(i, 0x04)] } s)) ∧
      (data.length ≤ r.len → (s.ctx x.ctx.val).recording = false → localPages s x.ctx r data.length { w := true } = some pages →
        ∃ t, exec (.inboundSend ⟨q, 26⟩ ⟨false, data⟩) s = .next t ∧ t.mem = (s.writeVia pages r.laddr data fun _ => false).mem ∧
          t.qp q.val = { x with posted := rest, ended := x.ended ++ [(i, 0x01)] }) ∧
      (x.cnpClk = none → (s.ethPort x.port).paused.getLsbD 6 = false →
        ∃ t, exec (.inboundSend ⟨q, 26⟩ ⟨true, data⟩) s = .next t ∧ (t.qp q.val).posted = rest ∧
          Out.frame x.port ⟨6, 48, none⟩ (.congestion q.val) ∈ t.out)) ∧
    (∀ w, link = true → (s.ethPort x.port).paused.getLsbD 3 = false → exec (.inboundRdmaRequest ⟨q, 26⟩ w) s =
      .next { s with out := s.out ++ [.frame x.port ⟨3, 26, none⟩ (.roceReply q.val 0x62)] }) ∧
    (∀ w (dscp : BitVec 6), dscp ≠ 26 → exec (.inboundRdmaRequest ⟨q, dscp⟩ w) s = .next s ∧
      exec (.inboundSend ⟨q, dscp⟩ ⟨marked, data⟩) s = .next s)) ∧
  (∀ (s : State) (q : Fin 1024) (outcome : BitVec 8),
    let x := s.qp q.val
    let put (y : Qp) : State := { s with qps := s.qps.set .reset q.val y }
    x.valid = true → s.ctxFenced x.ctx.val = false →
    (∀ i st rest, x.ended = (i, st) :: rest →
      exec (.workRequestComplete q outcome) s =
        .next (completeEntry q.val i (if x.err then 0x05 else st) (put { x with ended := rest }))) ∧
    (∀ i, x.ended = [] → x.flight = some i →
      (x.err = true → exec (.workRequestComplete q outcome) s =
        .next (completeEntry q.val i 0x05 (put { x with flight := none }))) ∧
      (x.err = false → 1 ≤ outcome.toNat → outcome.toNat ≤ 3 → exec (.workRequestComplete q outcome) s =
        .next (completeEntry q.val i outcome (put { x with flight := none })))) ∧
    (∀ i rest, x.ended = [] → x.flight = none → x.posted = i :: rest → x.err = true →
      exec (.workRequestComplete q outcome) s =
        .next (completeEntry q.val i 0x05 (put { x with posted := rest }))) ∧
    (∀ pages r i, entryMap s x i = some pages → workReq s x i = some r → r.sig = false →
      completeEntry q.val i 0x01 s = s.writeVia pages (x.field 40 8 + 64 * i + 2) [0x01] fun _ => false) ∧
    (∀ i st, entryMap s x i = none → st ≠ 0x01 → (((completeEntry q.val i st s).qp q.val).field 0 1).testBit 2 = true) ∧
    (1 < x.rate → (if x.upper then (s.ethPort x.port).up1 else (s.ethPort x.port).up0) = true → s.qps.wf .reset = true →
      ∃ t, exec (.congestionNotificationPacket ⟨q, 48⟩) s = .next t ∧ (t.qp q.val).rate < x.rate ∧ 0 < (t.qp q.val).rate ∧
        t = { s with qps := t.qps, draws := t.draws }))

/-! ## Instruction words, reset and the invariant -/

/-- Words written out from the tables of 07 decode to the instruction they stand for, one or more of each class (07 R171
to R190). -/
def Obligations.FzWordsDecode : Prop :=
  ∀ c : CoreId,
    decodeFz c 0x0000_0000_0000_0000 = .ok (.nop c) ∧
    decodeFz c 0x0080_0C40_FFFF_FFFF = .ok (.beq c 3 2 0xFFFF_FFFF) ∧
    decodeFz c 0x1000_8860_0000_0000 = .ok (.add c 1 2 3) ∧
    decodeFz c 0x1600_8000_0000_002A = .ok (.movi c 1 42) ∧
    decodeFz c 0x2061_0800_0000_0010 = .ok (.ldD c 2 2 16) ∧
    decodeFz c 0x3101_1400_4020_0204 = .ok (.mma c 1 2 32 5 .e4m3 .g16 false) ∧
    decodeFz c 0x3180_0D20_0000_0003 = .ok (.mdrain c 0 0 0 3 9 0 .bf16 false false) ∧
    decodeFz c 0x4000_8860_2000_0000 = .ok (.vadd c 1 2 3 1) ∧
    decodeFz c 0x5000_8800_0000_0030 = .ok (.xcvt c .fp32 .bf16 1 2 0 0 0 false false false) ∧
    decodeFz c 0x6000_8860_0000_0000 = .ok (.dcopy c 1 2 3) ∧
    decodeFz c 0x7000_0860_0000_0000 = .ok (.semAdd c 2 3) ∧
    decodeFz c 0x8100_0800_0000_0000 = .ok (.lstat c 2) ∧
    decodeFz c 0xFFFF_FFFF_FFFF_FFFF = .error 0x02

/-- If prc is 1 in an MMA whose fmt is FP16 or BF16, the word is an illegal encoding (07 R178). -/
def Obligations.PreciseSixteenBitIsIllegal : Prop :=
  ∀ (c : CoreId) (w : Nat) (fmt : Fmt), field w 60 4 = 0x3 → field w 52 8 = 0x10 → Fmt.ofCode (field w 0 4) = some fmt →
    fmt = .fp16 ∨ fmt = .bf16 → field w 10 1 = 1 → ∃ detail, decodeFz c w = .error detail

/-- Every well-formed FZ instruction is what its word decodes to, with every operand at every value, and every 64-bit word
that decodes is the word of the well-formed instruction that it decodes to: no bit of a word is dropped or ignored (07
R171 to R190). -/
def Obligations.FzWordsAndInstructionsAgree : Prop :=
  (∀ (i : Instr) (w : Nat), i.wf = true → encodeFz i = some w → w < 2 ^ 64 ∧ ∃ c, decodeFz c w = .ok i) ∧
  (∀ (c : CoreId) (w : Nat) (i : Instr), w < 2 ^ 64 → decodeFz c w = .ok i → i.wf = true ∧ encodeFz i = some w)

/-- What reset leaves, by the values that the manual states: cores idle with every register zero and every descriptor
empty, generators zero and unseeded, counters zero; semaphores zero; contexts and queues disabled; an empty error log
and an invalid plumb counter at zero; ports in DETECT; no table committed (02 R57, 05 R139, 06 R149, R150, R170, 09
R244, 10 R262, R266, 11 R317, 12 R326, 15 R448). Its tables of bytes and marks are canonical, which is the model's own
form (log entry 5). -/
def Obligations.ResetValues : Prop :=
  (∀ c : CoreId, let v := State.reset.core c.val
    (∀ r, v.gread r = 0) ∧ (∀ r, v.tread r = none) ∧ (∀ r i, v.lane r i = 0 ∧ v.lanePoison r i = false) ∧
    (∀ i, v.stipple.get 0 i = 0) ∧ v.seeded = false ∧ v.ntmSat = 0 ∧ v.ntmFlush = 0 ∧ v.ntmNan = 0 ∧ v.ntmInf = 0 ∧
    v.seqState = .idle ∧ v.poisonSeen = false) ∧
  (∀ n, (State.reset.sem n).value = 0 ∧ (State.reset.sem n).waiters = []) ∧
  (∀ k : CtxId, (State.reset.ctx k.val).en = false ∧ (State.reset.ctx k.val).tainted = false) ∧
  (∀ q : SqId, (State.reset.sq q.val).state = .disabled ∧ bitsAt (State.reset.sq q.val).ctl 32 22 = 60000) ∧
  (∀ p : PortId, (State.reset.port p.val).state = .detect ∧ (State.reset.port p.val).ctl = 0x00104000_50000021 ∧
    (State.reset.port p.val).sealed = false) ∧
  State.reset.plumb.now = 0 ∧ State.reset.plumb.valid = false ∧ State.reset.plumb.hops = 255 ∧
  State.reset.err.head = 0 ∧ State.reset.err.tail = 0 ∧ State.reset.err.seq = 0 ∧
  bitsAt State.reset.fab.active.topg 0 16 = 0xFFFF ∧ State.reset.fab.drops = 0 ∧
  State.reset.pending = [] ∧ State.reset.out = [] ∧ State.reset.canonical = true

/-- Every step that answers a next state keeps the canonical form of the tables of bytes and poison marks, so that equal
memories are equal data in every run; the form is the model's (log entry 5). -/
def Obligations.StepsKeepTheCanonicalForm : Prop :=
  ∀ s t : State, s.canonical = true → step s = .next t → t.canonical = true
end

