-- ==== Sys2Proof/Laws/Table.lean ====
section
/-! SUPPORT. Laws of sparse tables: a read after a write, and that every operation keeps the canonical form. -/

namespace Sys2Proof.Machine

variable {α : Type} [DecidableEq α]

/-! ## Reads after writes -/

theorem Table.find_put_ne (d : α) {j k : Nat} (h : j ≠ k) (v : α) (rows : List (Nat × α)) :
    Table.find d j (Table.put d k v rows) = Table.find d j rows := by
  induction rows with
  | nil => by_cases hv : v = d <;> simp [Table.put, Table.find, hv, h.symm]
  | cons r rest ih =>
    obtain ⟨i, w⟩ := r
    simp only [Table.put]
    split
    · split <;> simp [Table.find, h.symm]
    · split
      · subst_vars
        split <;> simp [Table.find, h.symm]
      · simp [Table.find, ih]

/-- Another key reads as before. -/
@[simp] theorem Table.get_set_ne (t : Table α) (d : α) {j k : Nat} (h : j ≠ k) (v : α) :
    (t.set d k v).get d j = t.get d j := Table.find_put_ne d h v t.rows

theorem Table.find_put_self (d : α) (k : Nat) {v : α} (h : v ≠ d) (rows : List (Nat × α)) :
    Table.find d k (Table.put d k v rows) = v := by
  induction rows with
  | nil => simp [Table.put, Table.find, h]
  | cons r rest ih =>
    obtain ⟨i, w⟩ := r
    simp only [Table.put, h, if_false]
    split
    · simp [Table.find]
    · split
      · simp [Table.find]
      · next _ hne => simp [Table.find, Ne.symm hne, ih]

/-- A key set to a value that is not the default reads as that value, in every table. -/
theorem Table.get_set_self (t : Table α) (d : α) (k : Nat) {v : α} (h : v ≠ d) : (t.set d k v).get d k = v :=
  Table.find_put_self d k h t.rows

theorem Table.put_put (d : α) (k : Nat) {w : α} (h : w ≠ d) (v : α) (rows : List (Nat × α)) :
    Table.put d k v (Table.put d k w rows) = Table.put d k v rows := by
  induction rows with
  | nil => simp [Table.put, h]
  | cons r rest ih =>
    obtain ⟨i, x⟩ := r
    simp only [Table.put, h, if_false]
    split
    · simp [Table.put]
    · split
      · simp [Table.put]
      · next h1 h2 => simp [Table.put, h1, h2, ih]

/-- The last of two writes of a key stands, where the first did not write the default. -/
theorem Table.set_set (t : Table α) (d : α) (k : Nat) {w : α} (h : w ≠ d) (v : α) :
    (t.set d k w).set d k v = t.set d k v := congrArg Table.mk (Table.put_put d k h v t.rows)

/-! ## The canonical form -/

omit [DecidableEq α] in
theorem Table.rising_cons {r : Nat × α} {rest : List (Nat × α)} :
    Table.rising (r :: rest) = true ↔ (∀ q ∈ rest, r.1 < q.1) ∧ Table.rising rest = true := by
  induction rest generalizing r with
  | nil => simp [Table.rising]
  | cons q rest ih =>
    constructor
    · intro h
      simp only [Table.rising, Bool.and_eq_true, decide_eq_true_eq] at h
      refine ⟨?_, h.2⟩
      intro p hp
      rcases List.mem_cons.mp hp with rfl | hp
      · exact h.1
      · exact h.1.trans ((ih.mp h.2).1 p hp)
    · rintro ⟨h1, h2⟩
      simp only [Table.rising, Bool.and_eq_true, decide_eq_true_eq]
      exact ⟨h1 q (by simp), h2⟩

theorem Table.mem_put {d : α} {k : Nat} {v : α} {rows : List (Nat × α)} {q : Nat × α}
    (h : q ∈ Table.put d k v rows) : q = (k, v) ∧ v ≠ d ∨ q ∈ rows := by
  induction rows with
  | nil =>
    by_cases hv : v = d
    · simp [Table.put, hv] at h
    · simp [Table.put, hv] at h; exact .inl ⟨h, hv⟩
  | cons r rest ih =>
    obtain ⟨i, w⟩ := r
    simp only [Table.put] at h
    by_cases hv : v = d
    · simp only [hv, if_true] at h
      split at h
      · exact .inr h
      · split at h
        · exact .inr (List.mem_cons_of_mem _ h)
        · rcases List.mem_cons.mp h with rfl | h
          · exact .inr (by simp)
          · subst hv
            rcases ih h with ⟨_, hc⟩ | h
            · exact absurd rfl hc
            · exact .inr (List.mem_cons_of_mem _ h)
    · simp only [hv, if_false] at h
      split at h
      · rcases List.mem_cons.mp h with rfl | h
        · exact .inl ⟨rfl, hv⟩
        · exact .inr h
      · split at h
        · rcases List.mem_cons.mp h with rfl | h
          · exact .inl ⟨rfl, hv⟩
          · exact .inr (List.mem_cons_of_mem _ h)
        · rcases List.mem_cons.mp h with rfl | h
          · exact .inr (by simp)
          · rcases ih h with h | h
            · exact .inl h
            · exact .inr (List.mem_cons_of_mem _ h)

theorem Table.rising_put {d : α} {k : Nat} {v : α} {rows : List (Nat × α)} (h : Table.rising rows = true) :
    Table.rising (Table.put d k v rows) = true := by
  induction rows with
  | nil => by_cases hv : v = d <;> simp [Table.put, hv, Table.rising]
  | cons r rest ih =>
    obtain ⟨i, w⟩ := r
    have hr := Table.rising_cons.mp h
    simp only [Table.put]
    split
    · next hk =>
      split
      · exact h
      · refine Table.rising_cons.mpr ⟨?_, h⟩
        intro q hq
        rcases List.mem_cons.mp hq with rfl | hq
        · exact hk
        · exact hk.trans (hr.1 q hq)
    · split
      · next _ hk =>
        split
        · exact hr.2
        · exact Table.rising_cons.mpr ⟨fun q hq => by simpa [hk] using hr.1 q hq, hr.2⟩
      · next h1 h2 =>
        refine Table.rising_cons.mpr ⟨?_, ih hr.2⟩
        intro q hq
        rcases Table.mem_put hq with ⟨rfl, _⟩ | hq
        · simp only; omega
        · exact hr.1 q hq

/-- An empty table is canonical. -/
@[simp] theorem Table.wf_empty (d : α) : (Table.empty : Table α).wf d = true := rfl

/-- A write keeps the canonical form. -/
theorem Table.wf_set {t : Table α} {d : α} (h : t.wf d = true) (k : Nat) (v : α) : (t.set d k v).wf d = true := by
  simp only [Table.wf, Bool.and_eq_true, List.all_eq_true, decide_eq_true_eq] at h ⊢
  refine ⟨Table.rising_put h.1, ?_⟩
  intro q hq
  rcases Table.mem_put hq with ⟨rfl, hv⟩ | hq
  · exact hv
  · exact h.2 q hq

/-- Writes of many keys keep the canonical form. -/
theorem Table.wf_foldl {β : Type} {d : α} (key : β → Nat) (val : β → α) (xs : List β) {t : Table α} (h : t.wf d = true) :
    (xs.foldl (fun t x => t.set d (key x) (val x)) t).wf d = true := by
  induction xs generalizing t with
  | nil => exact h
  | cons x xs ih => exact ih (Table.wf_set h _ _)

/-- `setAll` keeps the canonical form. -/
theorem Table.wf_setAll {t : Table α} {d : α} (h : t.wf d = true) (ks : List Nat) (f : Nat → α) :
    (t.setAll d ks f).wf d = true := Table.wf_foldl id f ks h

omit [DecidableEq α] in
/-- In a canonical table a key below the first row's reads as the default. -/
theorem Table.find_of_lt {d : α} {k : Nat} {rows : List (Nat × α)} (h : ∀ q ∈ rows, k < q.1) : Table.find d k rows = d := by
  induction rows with
  | nil => rfl
  | cons r rest ih =>
    obtain ⟨i, w⟩ := r
    have hi : k < i := h (i, w) (by simp)
    simp only [Table.find, if_neg (Nat.ne_of_gt hi)]
    exact ih fun q hq => h q (List.mem_cons_of_mem _ hq)

/-- A key set in a canonical table reads as the value set, the default too. -/
theorem Table.get_set {t : Table α} {d : α} (h : t.wf d = true) (k : Nat) (v : α) : (t.set d k v).get d k = v := by
  by_cases hv : v = d
  · obtain ⟨rows⟩ := t
    simp only [Table.wf, Bool.and_eq_true] at h
    replace h := h.1
    simp only [Table.set, Table.get]
    subst hv
    induction rows with
    | nil => simp [Table.put, Table.find]
    | cons r rest ih =>
      obtain ⟨i, w⟩ := r
      have hr := Table.rising_cons.mp h
      simp only [Table.put, if_true]
      split
      · next hk =>
        refine Table.find_of_lt fun q hq => ?_
        rcases List.mem_cons.mp hq with rfl | hq
        · exact hk
        · exact hk.trans (hr.1 q hq)
      · split
        · next _ hk => exact Table.find_of_lt fun q hq => by simpa [hk] using hr.1 q hq
        · next h1 h2 => simp only [Table.find, if_neg (Ne.symm h2)]; exact ih hr.2
  · exact Table.get_set_self t d k hv

omit [DecidableEq α] in
/-- Rows kept from a canonical table stay canonical. -/
theorem Table.rising_filter {p : Nat × α → Bool} {rows : List (Nat × α)} (h : Table.rising rows = true) :
    Table.rising (rows.filter p) = true := by
  induction rows with
  | nil => rfl
  | cons r rest ih =>
    have hr := Table.rising_cons.mp h
    simp only [List.filter_cons]
    split
    · exact Table.rising_cons.mpr ⟨fun q hq => hr.1 q (List.mem_of_mem_filter hq), ih hr.2⟩
    · exact ih hr.2

/-- Dropping keys keeps the canonical form. -/
theorem Table.wf_drop {t : Table α} {d : α} (h : t.wf d = true) (p : Nat → Bool) : (t.drop p).wf d = true := by
  simp only [Table.wf, Bool.and_eq_true, List.all_eq_true, decide_eq_true_eq, Table.drop] at h ⊢
  exact ⟨Table.rising_filter h.1, fun q hq => h.2 q (List.mem_of_mem_filter hq)⟩

end Sys2Proof.Machine
end

