-- ==== Sys2Proof/Laws/State.lean ====
section
/-! SUPPORT. One lemma per field per update of the state: what each named update leaves as it is, and what it sets. -/

namespace Sys2Proof.Machine

variable (s : State)

/-! ## `setCore` -/

@[simp] theorem State.setCore_pending (k : Nat) (v : CoreSt) : (s.setCore k v).pending = s.pending := rfl
@[simp] theorem State.setCore_clk (k : Nat) (v : CoreSt) : (s.setCore k v).clk = s.clk := rfl
@[simp] theorem State.setCore_draws (k : Nat) (v : CoreSt) : (s.setCore k v).draws = s.draws := rfl
@[simp] theorem State.setCore_stamps (k : Nat) (v : CoreSt) : (s.setCore k v).stamps = s.stamps := rfl
@[simp] theorem State.setCore_out (k : Nat) (v : CoreSt) : (s.setCore k v).out = s.out := rfl
@[simp] theorem State.setCore_pins (k : Nat) (v : CoreSt) : (s.setCore k v).pins = s.pins := rfl
@[simp] theorem State.setCore_ckg (k : Nat) (v : CoreSt) : (s.setCore k v).ckg = s.ckg := rfl
@[simp] theorem State.setCore_plumb (k : Nat) (v : CoreSt) : (s.setCore k v).plumb = s.plumb := rfl
@[simp] theorem State.setCore_mem (k : Nat) (v : CoreSt) : (s.setCore k v).mem = s.mem := rfl
@[simp] theorem State.setCore_poison (k : Nat) (v : CoreSt) : (s.setCore k v).poison = s.poison := rfl
@[simp] theorem State.setCore_latent (k : Nat) (v : CoreSt) : (s.setCore k v).latent = s.latent := rfl
@[simp] theorem State.setCore_sems (k : Nat) (v : CoreSt) : (s.setCore k v).sems = s.sems := rfl
@[simp] theorem State.setCore_dlkCtl (k : Nat) (v : CoreSt) : (s.setCore k v).dlkCtl = s.dlkCtl := rfl
@[simp] theorem State.setCore_dlkStat (k : Nat) (v : CoreSt) : (s.setCore k v).dlkStat = s.dlkStat := rfl
@[simp] theorem State.setCore_dlkSnap (k : Nat) (v : CoreSt) : (s.setCore k v).dlkSnap = s.dlkSnap := rfl
@[simp] theorem State.setCore_ctxs (k : Nat) (v : CoreSt) : (s.setCore k v).ctxs = s.ctxs := rfl
@[simp] theorem State.setCore_sqs (k : Nat) (v : CoreSt) : (s.setCore k v).sqs = s.sqs := rfl
@[simp] theorem State.setCore_cqs (k : Nat) (v : CoreSt) : (s.setCore k v).cqs = s.cqs := rfl
@[simp] theorem State.setCore_orphans (k : Nat) (v : CoreSt) : (s.setCore k v).orphans = s.orphans := rfl
@[simp] theorem State.setCore_heldCount (k : Nat) (v : CoreSt) : (s.setCore k v).heldCount = s.heldCount := rfl
@[simp] theorem State.setCore_err (k : Nat) (v : CoreSt) : (s.setCore k v).err = s.err := rfl
@[simp] theorem State.setCore_bst (k : Nat) (v : CoreSt) : (s.setCore k v).bst = s.bst := rfl
@[simp] theorem State.setCore_hawks (k : Nat) (v : CoreSt) : (s.setCore k v).hawks = s.hawks := rfl
@[simp] theorem State.setCore_ports (k : Nat) (v : CoreSt) : (s.setCore k v).ports = s.ports := rfl
@[simp] theorem State.setCore_fab (k : Nat) (v : CoreSt) : (s.setCore k v).fab = s.fab := rfl
@[simp] theorem State.setCore_host (k : Nat) (v : CoreSt) : (s.setCore k v).host = s.host := rfl
@[simp] theorem State.setCore_eth (k : Nat) (v : CoreSt) : (s.setCore k v).eth = s.eth := rfl
@[simp] theorem State.setCore_ethFm (k : Nat) (v : CoreSt) : (s.setCore k v).ethFm = s.ethFm := rfl
@[simp] theorem State.setCore_ethFma0 (k : Nat) (v : CoreSt) : (s.setCore k v).ethFma0 = s.ethFma0 := rfl
@[simp] theorem State.setCore_ethFma1 (k : Nat) (v : CoreSt) : (s.setCore k v).ethFma1 = s.ethFma1 := rfl
@[simp] theorem State.setCore_qps (k : Nat) (v : CoreSt) : (s.setCore k v).qps = s.qps := rfl
@[simp] theorem State.setCore_flashSlots (k : Nat) (v : CoreSt) : (s.setCore k v).flashSlots = s.flashSlots := rfl
@[simp] theorem State.setCore_flashMem (k : Nat) (v : CoreSt) : (s.setCore k v).flashMem = s.flashMem := rfl
@[simp] theorem State.setCore_flashBad (k : Nat) (v : CoreSt) : (s.setCore k v).flashBad = s.flashBad := rfl
@[simp] theorem State.setCore_sec (k : Nat) (v : CoreSt) : (s.setCore k v).sec = s.sec := rfl
@[simp] theorem State.setCore_fw (k : Nat) (v : CoreSt) : (s.setCore k v).fw = s.fw := rfl
@[simp] theorem State.setCore_power (k : Nat) (v : CoreSt) : (s.setCore k v).power = s.power := rfl
@[simp] theorem State.setCore_boot (k : Nat) (v : CoreSt) : (s.setCore k v).boot = s.boot := rfl
@[simp] theorem State.setCore_fuses (k : Nat) (v : CoreSt) : (s.setCore k v).fuses = s.fuses := rfl
@[simp] theorem State.setCore_rst (k : Nat) (v : CoreSt) : (s.setCore k v).rst = s.rst := rfl
@[simp] theorem State.setCore_atu (k : Nat) (v : CoreSt) : (s.setCore k v).atu = s.atu := rfl
@[simp] theorem State.setCore_stackCtl (k : Nat) (v : CoreSt) : (s.setCore k v).stackCtl = s.stackCtl := rfl
@[simp] theorem State.setCore_own (k : Nat) (v : CoreSt) : (s.setCore k v).own = s.own := rfl
@[simp] theorem State.setCore_cspRfl (k : Nat) (v : CoreSt) : (s.setCore k v).cspRfl = s.cspRfl := rfl
@[simp] theorem State.setCore_upsets (k : Nat) (v : CoreSt) : (s.setCore k v).upsets = s.upsets := rfl

/-! ## `setCtx` -/

@[simp] theorem State.setCtx_pending (k : Nat) (v : Ctx) : (s.setCtx k v).pending = s.pending := rfl
@[simp] theorem State.setCtx_clk (k : Nat) (v : Ctx) : (s.setCtx k v).clk = s.clk := rfl
@[simp] theorem State.setCtx_draws (k : Nat) (v : Ctx) : (s.setCtx k v).draws = s.draws := rfl
@[simp] theorem State.setCtx_stamps (k : Nat) (v : Ctx) : (s.setCtx k v).stamps = s.stamps := rfl
@[simp] theorem State.setCtx_out (k : Nat) (v : Ctx) : (s.setCtx k v).out = s.out := rfl
@[simp] theorem State.setCtx_pins (k : Nat) (v : Ctx) : (s.setCtx k v).pins = s.pins := rfl
@[simp] theorem State.setCtx_ckg (k : Nat) (v : Ctx) : (s.setCtx k v).ckg = s.ckg := rfl
@[simp] theorem State.setCtx_plumb (k : Nat) (v : Ctx) : (s.setCtx k v).plumb = s.plumb := rfl
@[simp] theorem State.setCtx_mem (k : Nat) (v : Ctx) : (s.setCtx k v).mem = s.mem := rfl
@[simp] theorem State.setCtx_poison (k : Nat) (v : Ctx) : (s.setCtx k v).poison = s.poison := rfl
@[simp] theorem State.setCtx_latent (k : Nat) (v : Ctx) : (s.setCtx k v).latent = s.latent := rfl
@[simp] theorem State.setCtx_cores (k : Nat) (v : Ctx) : (s.setCtx k v).cores = s.cores := rfl
@[simp] theorem State.setCtx_sems (k : Nat) (v : Ctx) : (s.setCtx k v).sems = s.sems := rfl
@[simp] theorem State.setCtx_dlkCtl (k : Nat) (v : Ctx) : (s.setCtx k v).dlkCtl = s.dlkCtl := rfl
@[simp] theorem State.setCtx_dlkStat (k : Nat) (v : Ctx) : (s.setCtx k v).dlkStat = s.dlkStat := rfl
@[simp] theorem State.setCtx_dlkSnap (k : Nat) (v : Ctx) : (s.setCtx k v).dlkSnap = s.dlkSnap := rfl
@[simp] theorem State.setCtx_sqs (k : Nat) (v : Ctx) : (s.setCtx k v).sqs = s.sqs := rfl
@[simp] theorem State.setCtx_cqs (k : Nat) (v : Ctx) : (s.setCtx k v).cqs = s.cqs := rfl
@[simp] theorem State.setCtx_orphans (k : Nat) (v : Ctx) : (s.setCtx k v).orphans = s.orphans := rfl
@[simp] theorem State.setCtx_heldCount (k : Nat) (v : Ctx) : (s.setCtx k v).heldCount = s.heldCount := rfl
@[simp] theorem State.setCtx_err (k : Nat) (v : Ctx) : (s.setCtx k v).err = s.err := rfl
@[simp] theorem State.setCtx_bst (k : Nat) (v : Ctx) : (s.setCtx k v).bst = s.bst := rfl
@[simp] theorem State.setCtx_hawks (k : Nat) (v : Ctx) : (s.setCtx k v).hawks = s.hawks := rfl
@[simp] theorem State.setCtx_ports (k : Nat) (v : Ctx) : (s.setCtx k v).ports = s.ports := rfl
@[simp] theorem State.setCtx_fab (k : Nat) (v : Ctx) : (s.setCtx k v).fab = s.fab := rfl
@[simp] theorem State.setCtx_host (k : Nat) (v : Ctx) : (s.setCtx k v).host = s.host := rfl
@[simp] theorem State.setCtx_eth (k : Nat) (v : Ctx) : (s.setCtx k v).eth = s.eth := rfl
@[simp] theorem State.setCtx_ethFm (k : Nat) (v : Ctx) : (s.setCtx k v).ethFm = s.ethFm := rfl
@[simp] theorem State.setCtx_ethFma0 (k : Nat) (v : Ctx) : (s.setCtx k v).ethFma0 = s.ethFma0 := rfl
@[simp] theorem State.setCtx_ethFma1 (k : Nat) (v : Ctx) : (s.setCtx k v).ethFma1 = s.ethFma1 := rfl
@[simp] theorem State.setCtx_qps (k : Nat) (v : Ctx) : (s.setCtx k v).qps = s.qps := rfl
@[simp] theorem State.setCtx_flashSlots (k : Nat) (v : Ctx) : (s.setCtx k v).flashSlots = s.flashSlots := rfl
@[simp] theorem State.setCtx_flashMem (k : Nat) (v : Ctx) : (s.setCtx k v).flashMem = s.flashMem := rfl
@[simp] theorem State.setCtx_flashBad (k : Nat) (v : Ctx) : (s.setCtx k v).flashBad = s.flashBad := rfl
@[simp] theorem State.setCtx_sec (k : Nat) (v : Ctx) : (s.setCtx k v).sec = s.sec := rfl
@[simp] theorem State.setCtx_fw (k : Nat) (v : Ctx) : (s.setCtx k v).fw = s.fw := rfl
@[simp] theorem State.setCtx_power (k : Nat) (v : Ctx) : (s.setCtx k v).power = s.power := rfl
@[simp] theorem State.setCtx_boot (k : Nat) (v : Ctx) : (s.setCtx k v).boot = s.boot := rfl
@[simp] theorem State.setCtx_fuses (k : Nat) (v : Ctx) : (s.setCtx k v).fuses = s.fuses := rfl
@[simp] theorem State.setCtx_rst (k : Nat) (v : Ctx) : (s.setCtx k v).rst = s.rst := rfl
@[simp] theorem State.setCtx_atu (k : Nat) (v : Ctx) : (s.setCtx k v).atu = s.atu := rfl
@[simp] theorem State.setCtx_stackCtl (k : Nat) (v : Ctx) : (s.setCtx k v).stackCtl = s.stackCtl := rfl
@[simp] theorem State.setCtx_own (k : Nat) (v : Ctx) : (s.setCtx k v).own = s.own := rfl
@[simp] theorem State.setCtx_cspRfl (k : Nat) (v : Ctx) : (s.setCtx k v).cspRfl = s.cspRfl := rfl
@[simp] theorem State.setCtx_upsets (k : Nat) (v : Ctx) : (s.setCtx k v).upsets = s.upsets := rfl

/-! ## `setSq` -/

@[simp] theorem State.setSq_pending (k : Nat) (v : Sq) : (s.setSq k v).pending = s.pending := rfl
@[simp] theorem State.setSq_clk (k : Nat) (v : Sq) : (s.setSq k v).clk = s.clk := rfl
@[simp] theorem State.setSq_draws (k : Nat) (v : Sq) : (s.setSq k v).draws = s.draws := rfl
@[simp] theorem State.setSq_stamps (k : Nat) (v : Sq) : (s.setSq k v).stamps = s.stamps := rfl
@[simp] theorem State.setSq_out (k : Nat) (v : Sq) : (s.setSq k v).out = s.out := rfl
@[simp] theorem State.setSq_pins (k : Nat) (v : Sq) : (s.setSq k v).pins = s.pins := rfl
@[simp] theorem State.setSq_ckg (k : Nat) (v : Sq) : (s.setSq k v).ckg = s.ckg := rfl
@[simp] theorem State.setSq_plumb (k : Nat) (v : Sq) : (s.setSq k v).plumb = s.plumb := rfl
@[simp] theorem State.setSq_mem (k : Nat) (v : Sq) : (s.setSq k v).mem = s.mem := rfl
@[simp] theorem State.setSq_poison (k : Nat) (v : Sq) : (s.setSq k v).poison = s.poison := rfl
@[simp] theorem State.setSq_latent (k : Nat) (v : Sq) : (s.setSq k v).latent = s.latent := rfl
@[simp] theorem State.setSq_cores (k : Nat) (v : Sq) : (s.setSq k v).cores = s.cores := rfl
@[simp] theorem State.setSq_sems (k : Nat) (v : Sq) : (s.setSq k v).sems = s.sems := rfl
@[simp] theorem State.setSq_dlkCtl (k : Nat) (v : Sq) : (s.setSq k v).dlkCtl = s.dlkCtl := rfl
@[simp] theorem State.setSq_dlkStat (k : Nat) (v : Sq) : (s.setSq k v).dlkStat = s.dlkStat := rfl
@[simp] theorem State.setSq_dlkSnap (k : Nat) (v : Sq) : (s.setSq k v).dlkSnap = s.dlkSnap := rfl
@[simp] theorem State.setSq_ctxs (k : Nat) (v : Sq) : (s.setSq k v).ctxs = s.ctxs := rfl
@[simp] theorem State.setSq_cqs (k : Nat) (v : Sq) : (s.setSq k v).cqs = s.cqs := rfl
@[simp] theorem State.setSq_orphans (k : Nat) (v : Sq) : (s.setSq k v).orphans = s.orphans := rfl
@[simp] theorem State.setSq_heldCount (k : Nat) (v : Sq) : (s.setSq k v).heldCount = s.heldCount := rfl
@[simp] theorem State.setSq_err (k : Nat) (v : Sq) : (s.setSq k v).err = s.err := rfl
@[simp] theorem State.setSq_bst (k : Nat) (v : Sq) : (s.setSq k v).bst = s.bst := rfl
@[simp] theorem State.setSq_hawks (k : Nat) (v : Sq) : (s.setSq k v).hawks = s.hawks := rfl
@[simp] theorem State.setSq_ports (k : Nat) (v : Sq) : (s.setSq k v).ports = s.ports := rfl
@[simp] theorem State.setSq_fab (k : Nat) (v : Sq) : (s.setSq k v).fab = s.fab := rfl
@[simp] theorem State.setSq_host (k : Nat) (v : Sq) : (s.setSq k v).host = s.host := rfl
@[simp] theorem State.setSq_eth (k : Nat) (v : Sq) : (s.setSq k v).eth = s.eth := rfl
@[simp] theorem State.setSq_ethFm (k : Nat) (v : Sq) : (s.setSq k v).ethFm = s.ethFm := rfl
@[simp] theorem State.setSq_ethFma0 (k : Nat) (v : Sq) : (s.setSq k v).ethFma0 = s.ethFma0 := rfl
@[simp] theorem State.setSq_ethFma1 (k : Nat) (v : Sq) : (s.setSq k v).ethFma1 = s.ethFma1 := rfl
@[simp] theorem State.setSq_qps (k : Nat) (v : Sq) : (s.setSq k v).qps = s.qps := rfl
@[simp] theorem State.setSq_flashSlots (k : Nat) (v : Sq) : (s.setSq k v).flashSlots = s.flashSlots := rfl
@[simp] theorem State.setSq_flashMem (k : Nat) (v : Sq) : (s.setSq k v).flashMem = s.flashMem := rfl
@[simp] theorem State.setSq_flashBad (k : Nat) (v : Sq) : (s.setSq k v).flashBad = s.flashBad := rfl
@[simp] theorem State.setSq_sec (k : Nat) (v : Sq) : (s.setSq k v).sec = s.sec := rfl
@[simp] theorem State.setSq_fw (k : Nat) (v : Sq) : (s.setSq k v).fw = s.fw := rfl
@[simp] theorem State.setSq_power (k : Nat) (v : Sq) : (s.setSq k v).power = s.power := rfl
@[simp] theorem State.setSq_boot (k : Nat) (v : Sq) : (s.setSq k v).boot = s.boot := rfl
@[simp] theorem State.setSq_fuses (k : Nat) (v : Sq) : (s.setSq k v).fuses = s.fuses := rfl
@[simp] theorem State.setSq_rst (k : Nat) (v : Sq) : (s.setSq k v).rst = s.rst := rfl
@[simp] theorem State.setSq_atu (k : Nat) (v : Sq) : (s.setSq k v).atu = s.atu := rfl
@[simp] theorem State.setSq_stackCtl (k : Nat) (v : Sq) : (s.setSq k v).stackCtl = s.stackCtl := rfl
@[simp] theorem State.setSq_own (k : Nat) (v : Sq) : (s.setSq k v).own = s.own := rfl
@[simp] theorem State.setSq_cspRfl (k : Nat) (v : Sq) : (s.setSq k v).cspRfl = s.cspRfl := rfl
@[simp] theorem State.setSq_upsets (k : Nat) (v : Sq) : (s.setSq k v).upsets = s.upsets := rfl

/-! ## `setCq` -/

@[simp] theorem State.setCq_pending (k : Nat) (v : Cq) : (s.setCq k v).pending = s.pending := rfl
@[simp] theorem State.setCq_clk (k : Nat) (v : Cq) : (s.setCq k v).clk = s.clk := rfl
@[simp] theorem State.setCq_draws (k : Nat) (v : Cq) : (s.setCq k v).draws = s.draws := rfl
@[simp] theorem State.setCq_stamps (k : Nat) (v : Cq) : (s.setCq k v).stamps = s.stamps := rfl
@[simp] theorem State.setCq_out (k : Nat) (v : Cq) : (s.setCq k v).out = s.out := rfl
@[simp] theorem State.setCq_pins (k : Nat) (v : Cq) : (s.setCq k v).pins = s.pins := rfl
@[simp] theorem State.setCq_ckg (k : Nat) (v : Cq) : (s.setCq k v).ckg = s.ckg := rfl
@[simp] theorem State.setCq_plumb (k : Nat) (v : Cq) : (s.setCq k v).plumb = s.plumb := rfl
@[simp] theorem State.setCq_mem (k : Nat) (v : Cq) : (s.setCq k v).mem = s.mem := rfl
@[simp] theorem State.setCq_poison (k : Nat) (v : Cq) : (s.setCq k v).poison = s.poison := rfl
@[simp] theorem State.setCq_latent (k : Nat) (v : Cq) : (s.setCq k v).latent = s.latent := rfl
@[simp] theorem State.setCq_cores (k : Nat) (v : Cq) : (s.setCq k v).cores = s.cores := rfl
@[simp] theorem State.setCq_sems (k : Nat) (v : Cq) : (s.setCq k v).sems = s.sems := rfl
@[simp] theorem State.setCq_dlkCtl (k : Nat) (v : Cq) : (s.setCq k v).dlkCtl = s.dlkCtl := rfl
@[simp] theorem State.setCq_dlkStat (k : Nat) (v : Cq) : (s.setCq k v).dlkStat = s.dlkStat := rfl
@[simp] theorem State.setCq_dlkSnap (k : Nat) (v : Cq) : (s.setCq k v).dlkSnap = s.dlkSnap := rfl
@[simp] theorem State.setCq_ctxs (k : Nat) (v : Cq) : (s.setCq k v).ctxs = s.ctxs := rfl
@[simp] theorem State.setCq_sqs (k : Nat) (v : Cq) : (s.setCq k v).sqs = s.sqs := rfl
@[simp] theorem State.setCq_orphans (k : Nat) (v : Cq) : (s.setCq k v).orphans = s.orphans := rfl
@[simp] theorem State.setCq_heldCount (k : Nat) (v : Cq) : (s.setCq k v).heldCount = s.heldCount := rfl
@[simp] theorem State.setCq_err (k : Nat) (v : Cq) : (s.setCq k v).err = s.err := rfl
@[simp] theorem State.setCq_bst (k : Nat) (v : Cq) : (s.setCq k v).bst = s.bst := rfl
@[simp] theorem State.setCq_hawks (k : Nat) (v : Cq) : (s.setCq k v).hawks = s.hawks := rfl
@[simp] theorem State.setCq_ports (k : Nat) (v : Cq) : (s.setCq k v).ports = s.ports := rfl
@[simp] theorem State.setCq_fab (k : Nat) (v : Cq) : (s.setCq k v).fab = s.fab := rfl
@[simp] theorem State.setCq_host (k : Nat) (v : Cq) : (s.setCq k v).host = s.host := rfl
@[simp] theorem State.setCq_eth (k : Nat) (v : Cq) : (s.setCq k v).eth = s.eth := rfl
@[simp] theorem State.setCq_ethFm (k : Nat) (v : Cq) : (s.setCq k v).ethFm = s.ethFm := rfl
@[simp] theorem State.setCq_ethFma0 (k : Nat) (v : Cq) : (s.setCq k v).ethFma0 = s.ethFma0 := rfl
@[simp] theorem State.setCq_ethFma1 (k : Nat) (v : Cq) : (s.setCq k v).ethFma1 = s.ethFma1 := rfl
@[simp] theorem State.setCq_qps (k : Nat) (v : Cq) : (s.setCq k v).qps = s.qps := rfl
@[simp] theorem State.setCq_flashSlots (k : Nat) (v : Cq) : (s.setCq k v).flashSlots = s.flashSlots := rfl
@[simp] theorem State.setCq_flashMem (k : Nat) (v : Cq) : (s.setCq k v).flashMem = s.flashMem := rfl
@[simp] theorem State.setCq_flashBad (k : Nat) (v : Cq) : (s.setCq k v).flashBad = s.flashBad := rfl
@[simp] theorem State.setCq_sec (k : Nat) (v : Cq) : (s.setCq k v).sec = s.sec := rfl
@[simp] theorem State.setCq_fw (k : Nat) (v : Cq) : (s.setCq k v).fw = s.fw := rfl
@[simp] theorem State.setCq_power (k : Nat) (v : Cq) : (s.setCq k v).power = s.power := rfl
@[simp] theorem State.setCq_boot (k : Nat) (v : Cq) : (s.setCq k v).boot = s.boot := rfl
@[simp] theorem State.setCq_fuses (k : Nat) (v : Cq) : (s.setCq k v).fuses = s.fuses := rfl
@[simp] theorem State.setCq_rst (k : Nat) (v : Cq) : (s.setCq k v).rst = s.rst := rfl
@[simp] theorem State.setCq_atu (k : Nat) (v : Cq) : (s.setCq k v).atu = s.atu := rfl
@[simp] theorem State.setCq_stackCtl (k : Nat) (v : Cq) : (s.setCq k v).stackCtl = s.stackCtl := rfl
@[simp] theorem State.setCq_own (k : Nat) (v : Cq) : (s.setCq k v).own = s.own := rfl
@[simp] theorem State.setCq_cspRfl (k : Nat) (v : Cq) : (s.setCq k v).cspRfl = s.cspRfl := rfl
@[simp] theorem State.setCq_upsets (k : Nat) (v : Cq) : (s.setCq k v).upsets = s.upsets := rfl

/-! ## `setPort` -/

@[simp] theorem State.setPort_pending (k : Nat) (v : Port) : (s.setPort k v).pending = s.pending := rfl
@[simp] theorem State.setPort_clk (k : Nat) (v : Port) : (s.setPort k v).clk = s.clk := rfl
@[simp] theorem State.setPort_draws (k : Nat) (v : Port) : (s.setPort k v).draws = s.draws := rfl
@[simp] theorem State.setPort_stamps (k : Nat) (v : Port) : (s.setPort k v).stamps = s.stamps := rfl
@[simp] theorem State.setPort_out (k : Nat) (v : Port) : (s.setPort k v).out = s.out := rfl
@[simp] theorem State.setPort_pins (k : Nat) (v : Port) : (s.setPort k v).pins = s.pins := rfl
@[simp] theorem State.setPort_ckg (k : Nat) (v : Port) : (s.setPort k v).ckg = s.ckg := rfl
@[simp] theorem State.setPort_plumb (k : Nat) (v : Port) : (s.setPort k v).plumb = s.plumb := rfl
@[simp] theorem State.setPort_mem (k : Nat) (v : Port) : (s.setPort k v).mem = s.mem := rfl
@[simp] theorem State.setPort_poison (k : Nat) (v : Port) : (s.setPort k v).poison = s.poison := rfl
@[simp] theorem State.setPort_latent (k : Nat) (v : Port) : (s.setPort k v).latent = s.latent := rfl
@[simp] theorem State.setPort_cores (k : Nat) (v : Port) : (s.setPort k v).cores = s.cores := rfl
@[simp] theorem State.setPort_sems (k : Nat) (v : Port) : (s.setPort k v).sems = s.sems := rfl
@[simp] theorem State.setPort_dlkCtl (k : Nat) (v : Port) : (s.setPort k v).dlkCtl = s.dlkCtl := rfl
@[simp] theorem State.setPort_dlkStat (k : Nat) (v : Port) : (s.setPort k v).dlkStat = s.dlkStat := rfl
@[simp] theorem State.setPort_dlkSnap (k : Nat) (v : Port) : (s.setPort k v).dlkSnap = s.dlkSnap := rfl
@[simp] theorem State.setPort_ctxs (k : Nat) (v : Port) : (s.setPort k v).ctxs = s.ctxs := rfl
@[simp] theorem State.setPort_sqs (k : Nat) (v : Port) : (s.setPort k v).sqs = s.sqs := rfl
@[simp] theorem State.setPort_cqs (k : Nat) (v : Port) : (s.setPort k v).cqs = s.cqs := rfl
@[simp] theorem State.setPort_orphans (k : Nat) (v : Port) : (s.setPort k v).orphans = s.orphans := rfl
@[simp] theorem State.setPort_heldCount (k : Nat) (v : Port) : (s.setPort k v).heldCount = s.heldCount := rfl
@[simp] theorem State.setPort_err (k : Nat) (v : Port) : (s.setPort k v).err = s.err := rfl
@[simp] theorem State.setPort_bst (k : Nat) (v : Port) : (s.setPort k v).bst = s.bst := rfl
@[simp] theorem State.setPort_hawks (k : Nat) (v : Port) : (s.setPort k v).hawks = s.hawks := rfl
@[simp] theorem State.setPort_fab (k : Nat) (v : Port) : (s.setPort k v).fab = s.fab := rfl
@[simp] theorem State.setPort_host (k : Nat) (v : Port) : (s.setPort k v).host = s.host := rfl
@[simp] theorem State.setPort_eth (k : Nat) (v : Port) : (s.setPort k v).eth = s.eth := rfl
@[simp] theorem State.setPort_ethFm (k : Nat) (v : Port) : (s.setPort k v).ethFm = s.ethFm := rfl
@[simp] theorem State.setPort_ethFma0 (k : Nat) (v : Port) : (s.setPort k v).ethFma0 = s.ethFma0 := rfl
@[simp] theorem State.setPort_ethFma1 (k : Nat) (v : Port) : (s.setPort k v).ethFma1 = s.ethFma1 := rfl
@[simp] theorem State.setPort_qps (k : Nat) (v : Port) : (s.setPort k v).qps = s.qps := rfl
@[simp] theorem State.setPort_flashSlots (k : Nat) (v : Port) : (s.setPort k v).flashSlots = s.flashSlots := rfl
@[simp] theorem State.setPort_flashMem (k : Nat) (v : Port) : (s.setPort k v).flashMem = s.flashMem := rfl
@[simp] theorem State.setPort_flashBad (k : Nat) (v : Port) : (s.setPort k v).flashBad = s.flashBad := rfl
@[simp] theorem State.setPort_sec (k : Nat) (v : Port) : (s.setPort k v).sec = s.sec := rfl
@[simp] theorem State.setPort_fw (k : Nat) (v : Port) : (s.setPort k v).fw = s.fw := rfl
@[simp] theorem State.setPort_power (k : Nat) (v : Port) : (s.setPort k v).power = s.power := rfl
@[simp] theorem State.setPort_boot (k : Nat) (v : Port) : (s.setPort k v).boot = s.boot := rfl
@[simp] theorem State.setPort_fuses (k : Nat) (v : Port) : (s.setPort k v).fuses = s.fuses := rfl
@[simp] theorem State.setPort_rst (k : Nat) (v : Port) : (s.setPort k v).rst = s.rst := rfl
@[simp] theorem State.setPort_atu (k : Nat) (v : Port) : (s.setPort k v).atu = s.atu := rfl
@[simp] theorem State.setPort_stackCtl (k : Nat) (v : Port) : (s.setPort k v).stackCtl = s.stackCtl := rfl
@[simp] theorem State.setPort_own (k : Nat) (v : Port) : (s.setPort k v).own = s.own := rfl
@[simp] theorem State.setPort_cspRfl (k : Nat) (v : Port) : (s.setPort k v).cspRfl = s.cspRfl := rfl
@[simp] theorem State.setPort_upsets (k : Nat) (v : Port) : (s.setPort k v).upsets = s.upsets := rfl

/-! ## `setStack` -/

@[simp] theorem State.setStack_pending (k : Nat) (v : Stack) : (s.setStack k v).pending = s.pending := rfl
@[simp] theorem State.setStack_clk (k : Nat) (v : Stack) : (s.setStack k v).clk = s.clk := rfl
@[simp] theorem State.setStack_draws (k : Nat) (v : Stack) : (s.setStack k v).draws = s.draws := rfl
@[simp] theorem State.setStack_stamps (k : Nat) (v : Stack) : (s.setStack k v).stamps = s.stamps := rfl
@[simp] theorem State.setStack_out (k : Nat) (v : Stack) : (s.setStack k v).out = s.out := rfl
@[simp] theorem State.setStack_pins (k : Nat) (v : Stack) : (s.setStack k v).pins = s.pins := rfl
@[simp] theorem State.setStack_ckg (k : Nat) (v : Stack) : (s.setStack k v).ckg = s.ckg := rfl
@[simp] theorem State.setStack_plumb (k : Nat) (v : Stack) : (s.setStack k v).plumb = s.plumb := rfl
@[simp] theorem State.setStack_mem (k : Nat) (v : Stack) : (s.setStack k v).mem = s.mem := rfl
@[simp] theorem State.setStack_poison (k : Nat) (v : Stack) : (s.setStack k v).poison = s.poison := rfl
@[simp] theorem State.setStack_latent (k : Nat) (v : Stack) : (s.setStack k v).latent = s.latent := rfl
@[simp] theorem State.setStack_cores (k : Nat) (v : Stack) : (s.setStack k v).cores = s.cores := rfl
@[simp] theorem State.setStack_sems (k : Nat) (v : Stack) : (s.setStack k v).sems = s.sems := rfl
@[simp] theorem State.setStack_dlkCtl (k : Nat) (v : Stack) : (s.setStack k v).dlkCtl = s.dlkCtl := rfl
@[simp] theorem State.setStack_dlkStat (k : Nat) (v : Stack) : (s.setStack k v).dlkStat = s.dlkStat := rfl
@[simp] theorem State.setStack_dlkSnap (k : Nat) (v : Stack) : (s.setStack k v).dlkSnap = s.dlkSnap := rfl
@[simp] theorem State.setStack_ctxs (k : Nat) (v : Stack) : (s.setStack k v).ctxs = s.ctxs := rfl
@[simp] theorem State.setStack_sqs (k : Nat) (v : Stack) : (s.setStack k v).sqs = s.sqs := rfl
@[simp] theorem State.setStack_cqs (k : Nat) (v : Stack) : (s.setStack k v).cqs = s.cqs := rfl
@[simp] theorem State.setStack_orphans (k : Nat) (v : Stack) : (s.setStack k v).orphans = s.orphans := rfl
@[simp] theorem State.setStack_heldCount (k : Nat) (v : Stack) : (s.setStack k v).heldCount = s.heldCount := rfl
@[simp] theorem State.setStack_err (k : Nat) (v : Stack) : (s.setStack k v).err = s.err := rfl
@[simp] theorem State.setStack_bst (k : Nat) (v : Stack) : (s.setStack k v).bst = s.bst := rfl
@[simp] theorem State.setStack_hawks (k : Nat) (v : Stack) : (s.setStack k v).hawks = s.hawks := rfl
@[simp] theorem State.setStack_ports (k : Nat) (v : Stack) : (s.setStack k v).ports = s.ports := rfl
@[simp] theorem State.setStack_fab (k : Nat) (v : Stack) : (s.setStack k v).fab = s.fab := rfl
@[simp] theorem State.setStack_host (k : Nat) (v : Stack) : (s.setStack k v).host = s.host := rfl
@[simp] theorem State.setStack_eth (k : Nat) (v : Stack) : (s.setStack k v).eth = s.eth := rfl
@[simp] theorem State.setStack_ethFm (k : Nat) (v : Stack) : (s.setStack k v).ethFm = s.ethFm := rfl
@[simp] theorem State.setStack_ethFma0 (k : Nat) (v : Stack) : (s.setStack k v).ethFma0 = s.ethFma0 := rfl
@[simp] theorem State.setStack_ethFma1 (k : Nat) (v : Stack) : (s.setStack k v).ethFma1 = s.ethFma1 := rfl
@[simp] theorem State.setStack_qps (k : Nat) (v : Stack) : (s.setStack k v).qps = s.qps := rfl
@[simp] theorem State.setStack_flashSlots (k : Nat) (v : Stack) : (s.setStack k v).flashSlots = s.flashSlots := rfl
@[simp] theorem State.setStack_flashMem (k : Nat) (v : Stack) : (s.setStack k v).flashMem = s.flashMem := rfl
@[simp] theorem State.setStack_flashBad (k : Nat) (v : Stack) : (s.setStack k v).flashBad = s.flashBad := rfl
@[simp] theorem State.setStack_sec (k : Nat) (v : Stack) : (s.setStack k v).sec = s.sec := rfl
@[simp] theorem State.setStack_fw (k : Nat) (v : Stack) : (s.setStack k v).fw = s.fw := rfl
@[simp] theorem State.setStack_power (k : Nat) (v : Stack) : (s.setStack k v).power = s.power := rfl
@[simp] theorem State.setStack_boot (k : Nat) (v : Stack) : (s.setStack k v).boot = s.boot := rfl
@[simp] theorem State.setStack_fuses (k : Nat) (v : Stack) : (s.setStack k v).fuses = s.fuses := rfl
@[simp] theorem State.setStack_rst (k : Nat) (v : Stack) : (s.setStack k v).rst = s.rst := rfl
@[simp] theorem State.setStack_atu (k : Nat) (v : Stack) : (s.setStack k v).atu = s.atu := rfl
@[simp] theorem State.setStack_own (k : Nat) (v : Stack) : (s.setStack k v).own = s.own := rfl
@[simp] theorem State.setStack_cspRfl (k : Nat) (v : Stack) : (s.setStack k v).cspRfl = s.cspRfl := rfl
@[simp] theorem State.setStack_upsets (k : Nat) (v : Stack) : (s.setStack k v).upsets = s.upsets := rfl

/-! ## `setProc` -/

@[simp] theorem State.setProc_pending (k : Nat) (v : Proc) : (s.setProc k v).pending = s.pending := rfl
@[simp] theorem State.setProc_clk (k : Nat) (v : Proc) : (s.setProc k v).clk = s.clk := rfl
@[simp] theorem State.setProc_draws (k : Nat) (v : Proc) : (s.setProc k v).draws = s.draws := rfl
@[simp] theorem State.setProc_stamps (k : Nat) (v : Proc) : (s.setProc k v).stamps = s.stamps := rfl
@[simp] theorem State.setProc_out (k : Nat) (v : Proc) : (s.setProc k v).out = s.out := rfl
@[simp] theorem State.setProc_pins (k : Nat) (v : Proc) : (s.setProc k v).pins = s.pins := rfl
@[simp] theorem State.setProc_ckg (k : Nat) (v : Proc) : (s.setProc k v).ckg = s.ckg := rfl
@[simp] theorem State.setProc_plumb (k : Nat) (v : Proc) : (s.setProc k v).plumb = s.plumb := rfl
@[simp] theorem State.setProc_mem (k : Nat) (v : Proc) : (s.setProc k v).mem = s.mem := rfl
@[simp] theorem State.setProc_poison (k : Nat) (v : Proc) : (s.setProc k v).poison = s.poison := rfl
@[simp] theorem State.setProc_latent (k : Nat) (v : Proc) : (s.setProc k v).latent = s.latent := rfl
@[simp] theorem State.setProc_cores (k : Nat) (v : Proc) : (s.setProc k v).cores = s.cores := rfl
@[simp] theorem State.setProc_sems (k : Nat) (v : Proc) : (s.setProc k v).sems = s.sems := rfl
@[simp] theorem State.setProc_dlkCtl (k : Nat) (v : Proc) : (s.setProc k v).dlkCtl = s.dlkCtl := rfl
@[simp] theorem State.setProc_dlkStat (k : Nat) (v : Proc) : (s.setProc k v).dlkStat = s.dlkStat := rfl
@[simp] theorem State.setProc_dlkSnap (k : Nat) (v : Proc) : (s.setProc k v).dlkSnap = s.dlkSnap := rfl
@[simp] theorem State.setProc_ctxs (k : Nat) (v : Proc) : (s.setProc k v).ctxs = s.ctxs := rfl
@[simp] theorem State.setProc_sqs (k : Nat) (v : Proc) : (s.setProc k v).sqs = s.sqs := rfl
@[simp] theorem State.setProc_cqs (k : Nat) (v : Proc) : (s.setProc k v).cqs = s.cqs := rfl
@[simp] theorem State.setProc_orphans (k : Nat) (v : Proc) : (s.setProc k v).orphans = s.orphans := rfl
@[simp] theorem State.setProc_heldCount (k : Nat) (v : Proc) : (s.setProc k v).heldCount = s.heldCount := rfl
@[simp] theorem State.setProc_err (k : Nat) (v : Proc) : (s.setProc k v).err = s.err := rfl
@[simp] theorem State.setProc_bst (k : Nat) (v : Proc) : (s.setProc k v).bst = s.bst := rfl
@[simp] theorem State.setProc_hawks (k : Nat) (v : Proc) : (s.setProc k v).hawks = s.hawks := rfl
@[simp] theorem State.setProc_ports (k : Nat) (v : Proc) : (s.setProc k v).ports = s.ports := rfl
@[simp] theorem State.setProc_fab (k : Nat) (v : Proc) : (s.setProc k v).fab = s.fab := rfl
@[simp] theorem State.setProc_host (k : Nat) (v : Proc) : (s.setProc k v).host = s.host := rfl
@[simp] theorem State.setProc_eth (k : Nat) (v : Proc) : (s.setProc k v).eth = s.eth := rfl
@[simp] theorem State.setProc_ethFm (k : Nat) (v : Proc) : (s.setProc k v).ethFm = s.ethFm := rfl
@[simp] theorem State.setProc_ethFma0 (k : Nat) (v : Proc) : (s.setProc k v).ethFma0 = s.ethFma0 := rfl
@[simp] theorem State.setProc_ethFma1 (k : Nat) (v : Proc) : (s.setProc k v).ethFma1 = s.ethFma1 := rfl
@[simp] theorem State.setProc_qps (k : Nat) (v : Proc) : (s.setProc k v).qps = s.qps := rfl
@[simp] theorem State.setProc_flashSlots (k : Nat) (v : Proc) : (s.setProc k v).flashSlots = s.flashSlots := rfl
@[simp] theorem State.setProc_flashMem (k : Nat) (v : Proc) : (s.setProc k v).flashMem = s.flashMem := rfl
@[simp] theorem State.setProc_flashBad (k : Nat) (v : Proc) : (s.setProc k v).flashBad = s.flashBad := rfl
@[simp] theorem State.setProc_sec (k : Nat) (v : Proc) : (s.setProc k v).sec = s.sec := rfl
@[simp] theorem State.setProc_power (k : Nat) (v : Proc) : (s.setProc k v).power = s.power := rfl
@[simp] theorem State.setProc_boot (k : Nat) (v : Proc) : (s.setProc k v).boot = s.boot := rfl
@[simp] theorem State.setProc_fuses (k : Nat) (v : Proc) : (s.setProc k v).fuses = s.fuses := rfl
@[simp] theorem State.setProc_rst (k : Nat) (v : Proc) : (s.setProc k v).rst = s.rst := rfl
@[simp] theorem State.setProc_atu (k : Nat) (v : Proc) : (s.setProc k v).atu = s.atu := rfl
@[simp] theorem State.setProc_stackCtl (k : Nat) (v : Proc) : (s.setProc k v).stackCtl = s.stackCtl := rfl
@[simp] theorem State.setProc_own (k : Nat) (v : Proc) : (s.setProc k v).own = s.own := rfl
@[simp] theorem State.setProc_cspRfl (k : Nat) (v : Proc) : (s.setProc k v).cspRfl = s.cspRfl := rfl
@[simp] theorem State.setProc_upsets (k : Nat) (v : Proc) : (s.setProc k v).upsets = s.upsets := rfl

/-! ## `setSem` -/

@[simp] theorem State.setSem_pending (k : SemId) (v : Sem) : (s.setSem k v).pending = s.pending := rfl
@[simp] theorem State.setSem_clk (k : SemId) (v : Sem) : (s.setSem k v).clk = s.clk := rfl
@[simp] theorem State.setSem_draws (k : SemId) (v : Sem) : (s.setSem k v).draws = s.draws := rfl
@[simp] theorem State.setSem_stamps (k : SemId) (v : Sem) : (s.setSem k v).stamps = s.stamps := rfl
@[simp] theorem State.setSem_out (k : SemId) (v : Sem) : (s.setSem k v).out = s.out := rfl
@[simp] theorem State.setSem_pins (k : SemId) (v : Sem) : (s.setSem k v).pins = s.pins := rfl
@[simp] theorem State.setSem_ckg (k : SemId) (v : Sem) : (s.setSem k v).ckg = s.ckg := rfl
@[simp] theorem State.setSem_plumb (k : SemId) (v : Sem) : (s.setSem k v).plumb = s.plumb := rfl
@[simp] theorem State.setSem_mem (k : SemId) (v : Sem) : (s.setSem k v).mem = s.mem := rfl
@[simp] theorem State.setSem_poison (k : SemId) (v : Sem) : (s.setSem k v).poison = s.poison := rfl
@[simp] theorem State.setSem_latent (k : SemId) (v : Sem) : (s.setSem k v).latent = s.latent := rfl
@[simp] theorem State.setSem_cores (k : SemId) (v : Sem) : (s.setSem k v).cores = s.cores := rfl
@[simp] theorem State.setSem_dlkCtl (k : SemId) (v : Sem) : (s.setSem k v).dlkCtl = s.dlkCtl := rfl
@[simp] theorem State.setSem_dlkStat (k : SemId) (v : Sem) : (s.setSem k v).dlkStat = s.dlkStat := rfl
@[simp] theorem State.setSem_dlkSnap (k : SemId) (v : Sem) : (s.setSem k v).dlkSnap = s.dlkSnap := rfl
@[simp] theorem State.setSem_ctxs (k : SemId) (v : Sem) : (s.setSem k v).ctxs = s.ctxs := rfl
@[simp] theorem State.setSem_sqs (k : SemId) (v : Sem) : (s.setSem k v).sqs = s.sqs := rfl
@[simp] theorem State.setSem_cqs (k : SemId) (v : Sem) : (s.setSem k v).cqs = s.cqs := rfl
@[simp] theorem State.setSem_orphans (k : SemId) (v : Sem) : (s.setSem k v).orphans = s.orphans := rfl
@[simp] theorem State.setSem_heldCount (k : SemId) (v : Sem) : (s.setSem k v).heldCount = s.heldCount := rfl
@[simp] theorem State.setSem_err (k : SemId) (v : Sem) : (s.setSem k v).err = s.err := rfl
@[simp] theorem State.setSem_bst (k : SemId) (v : Sem) : (s.setSem k v).bst = s.bst := rfl
@[simp] theorem State.setSem_hawks (k : SemId) (v : Sem) : (s.setSem k v).hawks = s.hawks := rfl
@[simp] theorem State.setSem_ports (k : SemId) (v : Sem) : (s.setSem k v).ports = s.ports := rfl
@[simp] theorem State.setSem_fab (k : SemId) (v : Sem) : (s.setSem k v).fab = s.fab := rfl
@[simp] theorem State.setSem_host (k : SemId) (v : Sem) : (s.setSem k v).host = s.host := rfl
@[simp] theorem State.setSem_eth (k : SemId) (v : Sem) : (s.setSem k v).eth = s.eth := rfl
@[simp] theorem State.setSem_ethFm (k : SemId) (v : Sem) : (s.setSem k v).ethFm = s.ethFm := rfl
@[simp] theorem State.setSem_ethFma0 (k : SemId) (v : Sem) : (s.setSem k v).ethFma0 = s.ethFma0 := rfl
@[simp] theorem State.setSem_ethFma1 (k : SemId) (v : Sem) : (s.setSem k v).ethFma1 = s.ethFma1 := rfl
@[simp] theorem State.setSem_qps (k : SemId) (v : Sem) : (s.setSem k v).qps = s.qps := rfl
@[simp] theorem State.setSem_flashSlots (k : SemId) (v : Sem) : (s.setSem k v).flashSlots = s.flashSlots := rfl
@[simp] theorem State.setSem_flashMem (k : SemId) (v : Sem) : (s.setSem k v).flashMem = s.flashMem := rfl
@[simp] theorem State.setSem_flashBad (k : SemId) (v : Sem) : (s.setSem k v).flashBad = s.flashBad := rfl
@[simp] theorem State.setSem_sec (k : SemId) (v : Sem) : (s.setSem k v).sec = s.sec := rfl
@[simp] theorem State.setSem_fw (k : SemId) (v : Sem) : (s.setSem k v).fw = s.fw := rfl
@[simp] theorem State.setSem_power (k : SemId) (v : Sem) : (s.setSem k v).power = s.power := rfl
@[simp] theorem State.setSem_boot (k : SemId) (v : Sem) : (s.setSem k v).boot = s.boot := rfl
@[simp] theorem State.setSem_fuses (k : SemId) (v : Sem) : (s.setSem k v).fuses = s.fuses := rfl
@[simp] theorem State.setSem_rst (k : SemId) (v : Sem) : (s.setSem k v).rst = s.rst := rfl
@[simp] theorem State.setSem_atu (k : SemId) (v : Sem) : (s.setSem k v).atu = s.atu := rfl
@[simp] theorem State.setSem_stackCtl (k : SemId) (v : Sem) : (s.setSem k v).stackCtl = s.stackCtl := rfl
@[simp] theorem State.setSem_own (k : SemId) (v : Sem) : (s.setSem k v).own = s.own := rfl
@[simp] theorem State.setSem_cspRfl (k : SemId) (v : Sem) : (s.setSem k v).cspRfl = s.cspRfl := rfl
@[simp] theorem State.setSem_upsets (k : SemId) (v : Sem) : (s.setSem k v).upsets = s.upsets := rfl

/-! ## `emit` -/

@[simp] theorem State.emit_pending (o : Out) : (s.emit o).pending = s.pending := rfl
@[simp] theorem State.emit_clk (o : Out) : (s.emit o).clk = s.clk := rfl
@[simp] theorem State.emit_draws (o : Out) : (s.emit o).draws = s.draws := rfl
@[simp] theorem State.emit_stamps (o : Out) : (s.emit o).stamps = s.stamps := rfl
@[simp] theorem State.emit_pins (o : Out) : (s.emit o).pins = s.pins := rfl
@[simp] theorem State.emit_ckg (o : Out) : (s.emit o).ckg = s.ckg := rfl
@[simp] theorem State.emit_plumb (o : Out) : (s.emit o).plumb = s.plumb := rfl
@[simp] theorem State.emit_mem (o : Out) : (s.emit o).mem = s.mem := rfl
@[simp] theorem State.emit_poison (o : Out) : (s.emit o).poison = s.poison := rfl
@[simp] theorem State.emit_latent (o : Out) : (s.emit o).latent = s.latent := rfl
@[simp] theorem State.emit_cores (o : Out) : (s.emit o).cores = s.cores := rfl
@[simp] theorem State.emit_sems (o : Out) : (s.emit o).sems = s.sems := rfl
@[simp] theorem State.emit_dlkCtl (o : Out) : (s.emit o).dlkCtl = s.dlkCtl := rfl
@[simp] theorem State.emit_dlkStat (o : Out) : (s.emit o).dlkStat = s.dlkStat := rfl
@[simp] theorem State.emit_dlkSnap (o : Out) : (s.emit o).dlkSnap = s.dlkSnap := rfl
@[simp] theorem State.emit_ctxs (o : Out) : (s.emit o).ctxs = s.ctxs := rfl
@[simp] theorem State.emit_sqs (o : Out) : (s.emit o).sqs = s.sqs := rfl
@[simp] theorem State.emit_cqs (o : Out) : (s.emit o).cqs = s.cqs := rfl
@[simp] theorem State.emit_orphans (o : Out) : (s.emit o).orphans = s.orphans := rfl
@[simp] theorem State.emit_heldCount (o : Out) : (s.emit o).heldCount = s.heldCount := rfl
@[simp] theorem State.emit_err (o : Out) : (s.emit o).err = s.err := rfl
@[simp] theorem State.emit_bst (o : Out) : (s.emit o).bst = s.bst := rfl
@[simp] theorem State.emit_hawks (o : Out) : (s.emit o).hawks = s.hawks := rfl
@[simp] theorem State.emit_ports (o : Out) : (s.emit o).ports = s.ports := rfl
@[simp] theorem State.emit_fab (o : Out) : (s.emit o).fab = s.fab := rfl
@[simp] theorem State.emit_host (o : Out) : (s.emit o).host = s.host := rfl
@[simp] theorem State.emit_eth (o : Out) : (s.emit o).eth = s.eth := rfl
@[simp] theorem State.emit_ethFm (o : Out) : (s.emit o).ethFm = s.ethFm := rfl
@[simp] theorem State.emit_ethFma0 (o : Out) : (s.emit o).ethFma0 = s.ethFma0 := rfl
@[simp] theorem State.emit_ethFma1 (o : Out) : (s.emit o).ethFma1 = s.ethFma1 := rfl
@[simp] theorem State.emit_qps (o : Out) : (s.emit o).qps = s.qps := rfl
@[simp] theorem State.emit_flashSlots (o : Out) : (s.emit o).flashSlots = s.flashSlots := rfl
@[simp] theorem State.emit_flashMem (o : Out) : (s.emit o).flashMem = s.flashMem := rfl
@[simp] theorem State.emit_flashBad (o : Out) : (s.emit o).flashBad = s.flashBad := rfl
@[simp] theorem State.emit_sec (o : Out) : (s.emit o).sec = s.sec := rfl
@[simp] theorem State.emit_fw (o : Out) : (s.emit o).fw = s.fw := rfl
@[simp] theorem State.emit_power (o : Out) : (s.emit o).power = s.power := rfl
@[simp] theorem State.emit_boot (o : Out) : (s.emit o).boot = s.boot := rfl
@[simp] theorem State.emit_fuses (o : Out) : (s.emit o).fuses = s.fuses := rfl
@[simp] theorem State.emit_rst (o : Out) : (s.emit o).rst = s.rst := rfl
@[simp] theorem State.emit_atu (o : Out) : (s.emit o).atu = s.atu := rfl
@[simp] theorem State.emit_stackCtl (o : Out) : (s.emit o).stackCtl = s.stackCtl := rfl
@[simp] theorem State.emit_own (o : Out) : (s.emit o).own = s.own := rfl
@[simp] theorem State.emit_cspRfl (o : Out) : (s.emit o).cspRfl = s.cspRfl := rfl
@[simp] theorem State.emit_upsets (o : Out) : (s.emit o).upsets = s.upsets := rfl

/-! ## Reads of indexed parts -/

@[simp] theorem State.setCore_cores (k : Nat) (v : CoreSt) : (s.setCore k v).cores = s.cores.set .reset k v := rfl
theorem State.core_setCore (k : Nat) {v : CoreSt} (h : v ≠ .reset) : (s.setCore k v).core k = v := Table.get_set_self _ _ k h
@[simp] theorem State.core_setCore_ne {j k : Nat} (h : j ≠ k) (v : CoreSt) : (s.setCore k v).core j = s.core j :=
  Table.get_set_ne _ _ h v
theorem State.setCore_setCore (k : Nat) {w : CoreSt} (h : w ≠ .reset) (v : CoreSt) :
    (s.setCore k w).setCore k v = s.setCore k v := by
  simp only [State.setCore, Table.set_set _ _ k h]
@[simp] theorem State.setCore_ctx (k j : Nat) (v : CoreSt) : (s.setCore k v).ctx j = s.ctx j := rfl
@[simp] theorem State.setCore_sq (k j : Nat) (v : CoreSt) : (s.setCore k v).sq j = s.sq j := rfl
@[simp] theorem State.setCore_cq (k j : Nat) (v : CoreSt) : (s.setCore k v).cq j = s.cq j := rfl
@[simp] theorem State.setCore_port (k j : Nat) (v : CoreSt) : (s.setCore k v).port j = s.port j := rfl
@[simp] theorem State.setCore_stack (k j : Nat) (v : CoreSt) : (s.setCore k v).stack j = s.stack j := rfl
@[simp] theorem State.setCore_sem (k : Nat) (n : SemId) (v : CoreSt) : (s.setCore k v).sem n = s.sem n := rfl
@[simp] theorem State.emit_core (o : Out) (j : Nat) : (s.emit o).core j = s.core j := rfl

@[simp] theorem State.setCtx_ctxs (k : Nat) (v : Ctx) : (s.setCtx k v).ctxs = s.ctxs.set .reset k v := rfl
theorem State.ctx_setCtx (k : Nat) {v : Ctx} (h : v ≠ .reset) : (s.setCtx k v).ctx k = v := Table.get_set_self _ _ k h
@[simp] theorem State.ctx_setCtx_ne {j k : Nat} (h : j ≠ k) (v : Ctx) : (s.setCtx k v).ctx j = s.ctx j :=
  Table.get_set_ne _ _ h v
theorem State.setCtx_setCtx (k : Nat) {w : Ctx} (h : w ≠ .reset) (v : Ctx) :
    (s.setCtx k w).setCtx k v = s.setCtx k v := by
  simp only [State.setCtx, Table.set_set _ _ k h]
@[simp] theorem State.setCtx_core (k j : Nat) (v : Ctx) : (s.setCtx k v).core j = s.core j := rfl
@[simp] theorem State.setCtx_sq (k j : Nat) (v : Ctx) : (s.setCtx k v).sq j = s.sq j := rfl
@[simp] theorem State.setCtx_cq (k j : Nat) (v : Ctx) : (s.setCtx k v).cq j = s.cq j := rfl
@[simp] theorem State.setCtx_port (k j : Nat) (v : Ctx) : (s.setCtx k v).port j = s.port j := rfl
@[simp] theorem State.setCtx_stack (k j : Nat) (v : Ctx) : (s.setCtx k v).stack j = s.stack j := rfl
@[simp] theorem State.setCtx_sem (k : Nat) (n : SemId) (v : Ctx) : (s.setCtx k v).sem n = s.sem n := rfl
@[simp] theorem State.emit_ctx (o : Out) (j : Nat) : (s.emit o).ctx j = s.ctx j := rfl

@[simp] theorem State.setSq_sqs (k : Nat) (v : Sq) : (s.setSq k v).sqs = s.sqs.set .reset k v := rfl
theorem State.sq_setSq (k : Nat) {v : Sq} (h : v ≠ .reset) : (s.setSq k v).sq k = v := Table.get_set_self _ _ k h
@[simp] theorem State.sq_setSq_ne {j k : Nat} (h : j ≠ k) (v : Sq) : (s.setSq k v).sq j = s.sq j :=
  Table.get_set_ne _ _ h v
theorem State.setSq_setSq (k : Nat) {w : Sq} (h : w ≠ .reset) (v : Sq) :
    (s.setSq k w).setSq k v = s.setSq k v := by
  simp only [State.setSq, Table.set_set _ _ k h]
@[simp] theorem State.setSq_core (k j : Nat) (v : Sq) : (s.setSq k v).core j = s.core j := rfl
@[simp] theorem State.setSq_ctx (k j : Nat) (v : Sq) : (s.setSq k v).ctx j = s.ctx j := rfl
@[simp] theorem State.setSq_cq (k j : Nat) (v : Sq) : (s.setSq k v).cq j = s.cq j := rfl
@[simp] theorem State.setSq_port (k j : Nat) (v : Sq) : (s.setSq k v).port j = s.port j := rfl
@[simp] theorem State.setSq_stack (k j : Nat) (v : Sq) : (s.setSq k v).stack j = s.stack j := rfl
@[simp] theorem State.setSq_sem (k : Nat) (n : SemId) (v : Sq) : (s.setSq k v).sem n = s.sem n := rfl
@[simp] theorem State.emit_sq (o : Out) (j : Nat) : (s.emit o).sq j = s.sq j := rfl

@[simp] theorem State.setCq_cqs (k : Nat) (v : Cq) : (s.setCq k v).cqs = s.cqs.set .reset k v := rfl
theorem State.cq_setCq (k : Nat) {v : Cq} (h : v ≠ .reset) : (s.setCq k v).cq k = v := Table.get_set_self _ _ k h
@[simp] theorem State.cq_setCq_ne {j k : Nat} (h : j ≠ k) (v : Cq) : (s.setCq k v).cq j = s.cq j :=
  Table.get_set_ne _ _ h v
theorem State.setCq_setCq (k : Nat) {w : Cq} (h : w ≠ .reset) (v : Cq) :
    (s.setCq k w).setCq k v = s.setCq k v := by
  simp only [State.setCq, Table.set_set _ _ k h]
@[simp] theorem State.setCq_core (k j : Nat) (v : Cq) : (s.setCq k v).core j = s.core j := rfl
@[simp] theorem State.setCq_ctx (k j : Nat) (v : Cq) : (s.setCq k v).ctx j = s.ctx j := rfl
@[simp] theorem State.setCq_sq (k j : Nat) (v : Cq) : (s.setCq k v).sq j = s.sq j := rfl
@[simp] theorem State.setCq_port (k j : Nat) (v : Cq) : (s.setCq k v).port j = s.port j := rfl
@[simp] theorem State.setCq_stack (k j : Nat) (v : Cq) : (s.setCq k v).stack j = s.stack j := rfl
@[simp] theorem State.setCq_sem (k : Nat) (n : SemId) (v : Cq) : (s.setCq k v).sem n = s.sem n := rfl
@[simp] theorem State.emit_cq (o : Out) (j : Nat) : (s.emit o).cq j = s.cq j := rfl

@[simp] theorem State.setPort_ports (k : Nat) (v : Port) : (s.setPort k v).ports = s.ports.set .reset k v := rfl
theorem State.port_setPort (k : Nat) {v : Port} (h : v ≠ .reset) : (s.setPort k v).port k = v := Table.get_set_self _ _ k h
@[simp] theorem State.port_setPort_ne {j k : Nat} (h : j ≠ k) (v : Port) : (s.setPort k v).port j = s.port j :=
  Table.get_set_ne _ _ h v
theorem State.setPort_setPort (k : Nat) {w : Port} (h : w ≠ .reset) (v : Port) :
    (s.setPort k w).setPort k v = s.setPort k v := by
  simp only [State.setPort, Table.set_set _ _ k h]
@[simp] theorem State.setPort_core (k j : Nat) (v : Port) : (s.setPort k v).core j = s.core j := rfl
@[simp] theorem State.setPort_ctx (k j : Nat) (v : Port) : (s.setPort k v).ctx j = s.ctx j := rfl
@[simp] theorem State.setPort_sq (k j : Nat) (v : Port) : (s.setPort k v).sq j = s.sq j := rfl
@[simp] theorem State.setPort_cq (k j : Nat) (v : Port) : (s.setPort k v).cq j = s.cq j := rfl
@[simp] theorem State.setPort_stack (k j : Nat) (v : Port) : (s.setPort k v).stack j = s.stack j := rfl
@[simp] theorem State.setPort_sem (k : Nat) (n : SemId) (v : Port) : (s.setPort k v).sem n = s.sem n := rfl
@[simp] theorem State.emit_port (o : Out) (j : Nat) : (s.emit o).port j = s.port j := rfl

@[simp] theorem State.setStack_stackCtl (k : Nat) (v : Stack) : (s.setStack k v).stackCtl = s.stackCtl.set .reset k v := rfl
theorem State.stack_setStack (k : Nat) {v : Stack} (h : v ≠ .reset) : (s.setStack k v).stack k = v := Table.get_set_self _ _ k h
@[simp] theorem State.stack_setStack_ne {j k : Nat} (h : j ≠ k) (v : Stack) : (s.setStack k v).stack j = s.stack j :=
  Table.get_set_ne _ _ h v
theorem State.setStack_setStack (k : Nat) {w : Stack} (h : w ≠ .reset) (v : Stack) :
    (s.setStack k w).setStack k v = s.setStack k v := by
  simp only [State.setStack, Table.set_set _ _ k h]
@[simp] theorem State.setStack_core (k j : Nat) (v : Stack) : (s.setStack k v).core j = s.core j := rfl
@[simp] theorem State.setStack_ctx (k j : Nat) (v : Stack) : (s.setStack k v).ctx j = s.ctx j := rfl
@[simp] theorem State.setStack_sq (k j : Nat) (v : Stack) : (s.setStack k v).sq j = s.sq j := rfl
@[simp] theorem State.setStack_cq (k j : Nat) (v : Stack) : (s.setStack k v).cq j = s.cq j := rfl
@[simp] theorem State.setStack_port (k j : Nat) (v : Stack) : (s.setStack k v).port j = s.port j := rfl
@[simp] theorem State.setStack_sem (k : Nat) (n : SemId) (v : Stack) : (s.setStack k v).sem n = s.sem n := rfl
@[simp] theorem State.emit_stack (o : Out) (j : Nat) : (s.emit o).stack j = s.stack j := rfl

@[simp] theorem State.setSem_core (n : SemId) (v : Sem) (j : Nat) : (s.setSem n v).core j = s.core j := rfl
@[simp] theorem State.setSem_ctx (n : SemId) (v : Sem) (j : Nat) : (s.setSem n v).ctx j = s.ctx j := rfl
@[simp] theorem State.setSem_sq (n : SemId) (v : Sem) (j : Nat) : (s.setSem n v).sq j = s.sq j := rfl
@[simp] theorem State.setSem_cq (n : SemId) (v : Sem) (j : Nat) : (s.setSem n v).cq j = s.cq j := rfl
@[simp] theorem State.setSem_port (n : SemId) (v : Sem) (j : Nat) : (s.setSem n v).port j = s.port j := rfl
@[simp] theorem State.setSem_stack (n : SemId) (v : Sem) (j : Nat) : (s.setSem n v).stack j = s.stack j := rfl
theorem State.sem_setSem (n : SemId) {v : Sem} (h : v ≠ .reset) : (s.setSem n v).sem n = v := Table.get_set_self _ _ _ h
@[simp] theorem State.emit_out (o : Out) : (s.emit o).out = s.out ++ [o] := rfl
@[simp] theorem State.draw_snd : s.draw.2 = { s with draws := s.draws + 1 } := rfl
@[simp] theorem State.choose_snd : s.choose.2 = { s with draws := s.draws + 1 } := rfl
@[simp] theorem State.stamp_snd : s.stamp.2 = { s with stamps := s.stamps + 1 } := rfl

end Sys2Proof.Machine
end

