-- ==== Sys2Proof/Laws/Issue.lean ====
section
/-! SUPPORT. What issue does: one lemma for an instruction of a ready core, and what follows for an instruction that
only changes its core's registers. -/

namespace Sys2Proof.Machine

/-- A core that can issue is not in its reset state. -/
theorem CoreSt.running_ne_reset {v : CoreSt} (h : v.seqState = .running) : v ≠ .reset := by
  rintro rfl
  simp [CoreSt.reset] at h

theorem CoreSt.canIssue_running {v : CoreSt} (h : v.canIssue = true) : v.seqState = .running := by
  simp only [CoreSt.canIssue, Bool.and_eq_true, beq_iff_eq] at h
  exact h.1.1.1

theorem Ready.running {s : State} {c : CoreId} (h : Ready s c) : (s.core c.val).seqState = .running := by
  have h1 := h.1
  simp only [State.coreIssues, Bool.and_eq_true] at h1
  exact CoreSt.canIssue_running h1.1

/-- The core that control has moved on, and its replacement, in any state where it runs. -/
theorem core_goTo_running {s : State} {c : CoreId} (h : (s.core c.val).seqState = .running) (a : Addr) :
    (s.goTo c a).core c.val = { s.core c.val with pc := a } :=
  State.core_setCore _ _ (CoreSt.running_ne_reset h)

theorem goTo_setCore_running {s : State} {c : CoreId} (h : (s.core c.val).seqState = .running) (a : Addr) (v : CoreSt) :
    (s.goTo c a).setCore c.val v = s.setCore c.val v :=
  State.setCore_setCore _ _ (CoreSt.running_ne_reset (v := { s.core c.val with pc := a }) h) v

theorem Ready.core_goTo {s : State} {c : CoreId} (h : Ready s c) (a : Addr) :
    (s.goTo c a).core c.val = { s.core c.val with pc := a } := core_goTo_running h.running a

theorem Ready.goTo_setCore {s : State} {c : CoreId} (h : Ready s c) (a : Addr) (v : CoreSt) :
    (s.goTo c a).setCore c.val v = s.setCore c.val v := goTo_setCore_running h.running a v

/-- Everything that issue can do on a ready core. -/
theorem issue_ready {i : Instr} {c : CoreId} {s : State} (h : Ready s c) (hw : i.wf = true)
    (body : CoreSt → State → Effect) :
    issue i c s body =
      match body (s.core c.val) (s.goTo c ((s.core c.val).pc + 8)) with
      | .done t => .next t
      | .trap t u =>
        .next (takeFault c t (s.core c.val).pc (fzWord i)
          (if t.prec = 0 then u.setCore c.val { u.core c.val with pc := (s.core c.val).pc } else u)) := by
  unfold issue State.goTo
  rw [h.1, h.2, hw]
  dsimp only
  generalize body (s.core c.val) (s.setCore c.val { s.core c.val with pc := (s.core c.val).pc + 8 }) = r
  cases r <;> rfl

/-- An instruction that only changes registers of a ready core retires. -/
theorem issueCore_ready {i : Instr} {c : CoreId} {s : State} (h : Ready s c) (hw : i.wf = true) (f : CoreSt → CoreSt) :
    issueCore i c s f = .next (s.retire c f) := by
  rw [issueCore, issue_ready h hw]
  simp only [h.core_goTo, h.goTo_setCore, State.retire]

/-- A core that cannot issue does nothing. -/
theorem issue_held {i : Instr} {c : CoreId} {s : State} (h : s.coreIssues c = false) (body : CoreSt → State → Effect) :
    issue i c s body = .next s := by
  simp [issue, h]

end Sys2Proof.Machine
end

