-- ==== Sys2Proof/Laws/LoadStore.lean ====
section
/-! SUPPORT. What a scalar load and a scalar store of a ready core do, once for every width; bytes written and read
back. -/

namespace Sys2Proof.Machine

@[simp] theorem scalarReach_goTo (s : State) (c : CoreId) (p : Addr) (v : CoreSt) (a n : Nat) (need : Need) :
    scalarReach (s.goTo c p) v a n need = scalarReach s v a n need := rfl

theorem touch_none {s : State} (h : s.latent = .empty) (a n : Nat) : s.touch a n = s := by
  simp [State.touch, h, Table.empty]

/-- Without a fault the network changes nothing. -/
theorem networkFault_none {s : State} (h : s.upsets.network = none) (a n : Nat) : networkFault a n s = (none, s) := by
  simp only [networkFault, h]

/-- A write of a core over a sound network. -/
theorem coreWrite_sound {s : State} (h : s.upsets.network = none) (c : CoreId) (a : Nat) (bs : Bytes) (bad : Nat → Bool) :
    coreWrite c a bs bad s = (s.write a bs bad).setCore c.val ((s.core c.val).dropLines a bs.length) := by
  have hb : (fun w => bad w || (none : Option Nat) == some w) = bad := by
    funext w; simp
  simp only [coreWrite, networkFault_none h, hb]
  rfl

/-- A scalar read that no line of the buffer serves, where no error is latent. -/
theorem scalarRead_memory {s : State} {c : CoreId} {a n : Nat} (hl : s.latent = .empty) (hu : s.upsets.network = none)
    (hb : ∀ l ∈ (s.core c.val).readBuf, l.line ≠ a / 64) :
    scalarRead c a n s =
      ((s.bytes a n, s.poisonedIn a n), s.setCore c.val ((s.core c.val).fill (fillLine s a))) := by
  have hf : (s.core c.val).readBuf.find? (fun b => b.line == a / 64) = none := by
    simpa using hb
  simp only [scalarRead, hf, touch_none hl, networkFault_none hu, Option.isSome_none, Bool.or_false]

/-- A scalar load that reads sound words from memory. -/
theorem loadOp_ready {s : State} {c : CoreId} {gd gs : GReg} {off : BitVec 32} {pa n : Nat} {i : Instr} {ext : Nat → Word}
    (h : Ready s c) (hw : i.wf = true) (hl : s.latent = .empty) (hu : s.upsets.network = none)
    (ha : scalarReach s (s.core c.val) (displaced ((s.core c.val).gread gs) off) n { r := true } = .ok pa)
    (hp : s.poisonedIn pa n = false) (hb : ∀ l ∈ (s.core c.val).readBuf, l.line ≠ pa / 64) :
    loadOp i c gd gs off n ext s =
      .next (s.retire c fun v => (v.fill (fillLine s pa)).gwrite gd (ext (leNat (s.bytes pa n)))) := by
  have hc := h.core_goTo ((s.core c.val).pc + 8)
  have hr := scalarRead_memory (s := s.goTo c ((s.core c.val).pc + 8)) (c := c) (a := pa) (n := n) hl hu (by rw [hc]; exact hb)
  rw [hc, h.goTo_setCore] at hr
  have hne : CoreSt.fill { s.core c.val with pc := (s.core c.val).pc + 8 } (fillLine s pa) ≠ .reset :=
    CoreSt.running_ne_reset h.running
  rw [loadOp, issue_ready h hw]
  simp only [scalarReach_goTo, ha, hr]
  have hq : (s.goTo c ((s.core c.val).pc + 8)).poisonedIn pa n = false := hp
  have hx : fillLine (s.goTo c ((s.core c.val).pc + 8)) pa = fillLine s pa := rfl
  simp only [hq, hx, Bool.false_eq_true, if_false, State.core_setCore _ _ hne, State.setCore_setCore _ _ hne, State.retire]
  rfl

/-- A scalar store at an address that the core may write. -/
theorem storeOp_ready {s : State} {c : CoreId} {gs gt : GReg} {off : BitVec 32} {pa n : Nat} {i : Instr}
    (h : Ready s c) (hw : i.wf = true) (hu : s.upsets.network = none)
    (ha : scalarReach s (s.core c.val) (displaced ((s.core c.val).gread gs) off) n { w := true } = .ok pa) :
    storeOp i c gs gt off n s =
      .next ((s.writeClean pa (leBytes n ((s.core c.val).gread gt).toNat)).setCore c.val
        (CoreSt.dropLines { s.core c.val with pc := (s.core c.val).pc + 8 } pa
          (leBytes n ((s.core c.val).gread gt).toNat).length)) := by
  have hn : (s.goTo c ((s.core c.val).pc + 8)).upsets.network = none := hu
  have hg : ∀ bs, (s.goTo c ((s.core c.val).pc + 8)).write pa bs (fun _ => false)
      = (s.writeClean pa bs).goTo c ((s.core c.val).pc + 8) := fun _ => rfl
  have hr : ∀ bs, ((s.writeClean pa bs).core c.val).seqState = .running := fun _ => h.running
  rw [storeOp, issue_ready h hw]
  simp only [scalarReach_goTo, ha, scalarWrite, coreWrite_sound hn, hg, goTo_setCore_running (hr _), h.core_goTo]

/-- Bytes below or above those written read as before. -/
theorem putBytes_get_ne (m : Memory) (a b : Nat) (bs : Bytes) (h : b < a ∨ a + bs.length ≤ b) :
    (putBytes m a bs).get Memory.unlisted b = m.get Memory.unlisted b := by
  induction bs generalizing m a with
  | nil => rfl
  | cons x xs ih =>
    simp only [List.length_cons] at h
    rw [putBytes, ih _ _ (by omega)]
    exact Table.get_set_ne _ _ (by omega) _

/-- Memory operations keep the canonical form. -/
theorem putBytes_wf (m : Memory) (a : Nat) (bs : Bytes) (h : m.wf = true) : (putBytes m a bs).wf = true := by
  induction bs generalizing m a with
  | nil => exact h
  | cons x xs ih => exact ih _ _ (Table.wf_set h _ _)

end Sys2Proof.Machine
end

