-- ==== Sys2Proof/Laws/Memory.lean ====
section
/-! SUPPORT. What the operations over memory do: a read after a write, the poison marks after a write, and that every
operation keeps the canonical form of the bytes and of the marks (log entry 5). -/

namespace Sys2Proof.Machine

/-! ## Bytes after a write -/

/-- Byte `i` of those written reads as written. -/
theorem putBytes_get (m : Memory) (a : Nat) (bs : Bytes) (h : m.wf = true) {i : Nat} (hi : i < bs.length) :
    (putBytes m a bs).get Memory.unlisted (a + i) = bs[i] := by
  induction bs generalizing m a i with
  | nil => simp at hi
  | cons x xs ih =>
    cases i with
    | zero =>
      rw [putBytes, putBytes_get_ne _ _ _ _ (by omega)]
      exact Table.get_set h a x
    | succ i =>
      have hw : Memory.wf (Table.set m Memory.unlisted a x) = true := Table.wf_set h a x
      have := ih _ (a + 1) hw (i := i) (by simpa using hi)
      simpa [putBytes, Nat.add_assoc, Nat.add_comm 1 i] using this

/-- A byte inside a write. -/
theorem State.byte_write (s : State) (a : Nat) (bs : Bytes) (bad : Nat → Bool) (h : Memory.wf s.mem = true) {i : Nat}
    (hi : i < bs.length) : (s.write a bs bad).byte (a + i) = bs[i] := putBytes_get s.mem a bs h hi

/-- A byte outside a write. -/
theorem State.byte_write_ne (s : State) (a b : Nat) (bs : Bytes) (bad : Nat → Bool) (h : b < a ∨ a + bs.length ≤ b) :
    (s.write a bs bad).byte b = s.byte b := putBytes_get_ne s.mem a b bs h

/-- The bytes written read as written. -/
theorem State.bytes_write (s : State) (a : Nat) (bs : Bytes) (bad : Nat → Bool) (h : Memory.wf s.mem = true) :
    (s.write a bs bad).bytes a bs.length = bs := by
  refine List.ext_getElem (by simp [State.bytes]) fun i h1 h2 => ?_
  simpa [State.bytes] using State.byte_write s a bs bad h h2

/-- Bytes that a write does not reach. -/
theorem State.bytes_write_ne (s : State) (a b n : Nat) (bs : Bytes) (bad : Nat → Bool) (h : b + n ≤ a ∨ a + bs.length ≤ b) :
    (s.write a bs bad).bytes b n = s.bytes b n := by
  refine List.map_congr_left fun i hi => State.byte_write_ne s a (b + i) bs bad ?_
  have := List.mem_range.mp hi
  omega

/-! ## Marks after a write -/

/-- A key outside the list reads as before. -/
theorem Table.get_setAll_ne {α : Type} [DecidableEq α] (t : Table α) (d : α) (ks : List Nat) (f : Nat → α) {k : Nat}
    (h : k ∉ ks) : (t.setAll d ks f).get d k = t.get d k := by
  induction ks generalizing t with
  | nil => rfl
  | cons x xs ih =>
    simp only [List.mem_cons, not_or] at h
    exact (ih (t.set d x (f x)) h.2).trans (Table.get_set_ne t d h.1 (f x))

/-- A key of the list reads as what was written there. -/
theorem Table.get_setAll {α : Type} [DecidableEq α] {t : Table α} {d : α} (hw : t.wf d = true) (ks : List Nat) (f : Nat → α)
    {k : Nat} (h : k ∈ ks) : (t.setAll d ks f).get d k = f k := by
  induction ks generalizing t with
  | nil => simp at h
  | cons x xs ih =>
    by_cases hx : k ∈ xs
    · exact ih (t := t.set d x (f x)) (Table.wf_set hw x (f x)) hx
    · obtain rfl : k = x := (List.mem_cons.mp h).resolve_right hx
      exact (Table.get_setAll_ne (t.set d k (f k)) d xs f hx).trans (Table.get_set hw k (f k))

/-- A word that the write touches is poisoned where it is written poisoned, or was and is not written whole (08 R202,
R213). -/
theorem State.wordPoisoned_write (s : State) (a : Nat) (bs : Bytes) (bad : Nat → Bool) (h : Table.wf s.poison false = true)
    {w : Nat} (hw : w ∈ wordsOf a bs.length) :
    (s.write a bs bad).wordPoisoned w = (bad w || (s.wordPoisoned w && !coversUnit a bs.length w)) :=
  Table.get_setAll h _ _ hw

/-- A word that the write does not touch keeps its mark. -/
theorem State.wordPoisoned_write_ne (s : State) (a : Nat) (bs : Bytes) (bad : Nat → Bool) {w : Nat}
    (hw : w ∉ wordsOf a bs.length) : (s.write a bs bad).wordPoisoned w = s.wordPoisoned w :=
  Table.get_setAll_ne _ _ _ _ hw

/-! ## The canonical form -/

theorem State.canonical_iff (s : State) :
    s.canonical = true ↔ Memory.wf s.mem = true ∧ Table.wf s.poison false = true := by
  simp [State.canonical]

/-- States with the same bytes and marks. -/
theorem State.canonical_congr {s t : State} (hm : t.mem = s.mem) (hp : t.poison = s.poison) : t.canonical = s.canonical := by
  simp [State.canonical, hm, hp]

/-- Reset lists nothing. -/
theorem State.canonical_reset : State.reset.canonical = true := rfl

/-- A write keeps the form. -/
theorem State.canonical_write {s : State} (h : s.canonical = true) (a : Nat) (bs : Bytes) (bad : Nat → Bool) :
    (s.write a bs bad).canonical = true := by
  rw [State.canonical_iff] at h ⊢
  exact ⟨putBytes_wf s.mem a bs h.1, Table.wf_setAll h.2 _ _⟩

/-- A write of poisoned bytes keeps the form. -/
theorem State.canonical_writePoison {s : State} (h : s.canonical = true) (a n : Nat) : (s.writePoison a n).canonical = true := by
  rw [State.canonical_iff] at h ⊢
  exact ⟨h.1, Table.wf_setAll h.2 _ _⟩

/-- What keeps the form at each step of a fold keeps it. -/
theorem State.canonical_foldl {β : Type} (f : State → β → State) (hf : ∀ s x, s.canonical = true → (f s x).canonical = true)
    (xs : List β) {s : State} (h : s.canonical = true) : (xs.foldl f s).canonical = true := by
  induction xs generalizing s with
  | nil => exact h
  | cons x xs ih => exact ih (hf s x h)

/-- A write through a translation keeps the form. -/
theorem State.canonical_writeVia {s : State} (h : s.canonical = true) (t : Table Nat) (a : Nat) (bs : Bytes)
    (bad : Nat → Bool) : (s.writeVia t a bs bad).canonical = true :=
  State.canonical_foldl _ (fun _ _ h => State.canonical_write h _ _ _) _ h

/-- Dropped keys leave the form. -/
theorem State.canonical_drop {s : State} (h : s.canonical = true) (p q : Nat → Bool) :
    ({ s with mem := s.mem.drop p, poison := s.poison.drop q } : State).canonical = true := by
  rw [State.canonical_iff] at h ⊢
  exact ⟨Table.wf_drop h.1 p, Table.wf_drop h.2 q⟩

/-! ## Error records -/

/-- A vector raised leaves bytes and marks. -/
theorem raiseVector_mem (fn : CtxId) (v : Nat) (s : State) :
    (raiseVector fn v s).mem = s.mem ∧ (raiseVector fn v s).poison = s.poison := by
  dsimp only [raiseVector]
  split <;> exact ⟨rfl, rfl⟩

/-- A record stored leaves bytes and marks. -/
theorem storeRecord_mem (sev : Nat) (image full : Bytes) (secret : Bool) (s : State) :
    (storeRecord sev image full secret s).mem = s.mem ∧ (storeRecord sev image full secret s).poison = s.poison :=
  raiseVector_mem _ _ _

theorem closeWindow_mem (w : ErrWindow) (s : State) : (closeWindow w s).mem = s.mem ∧ (closeWindow w s).poison = s.poison := by
  unfold closeWindow
  split
  · exact ⟨rfl, rfl⟩
  · exact storeRecord_mem _ _ _ _ _

/-- A fold of steps that leave bytes and marks leaves them. -/
theorem foldl_mem {β : Type} (f : State → β → State) (hf : ∀ s x, (f s x).mem = s.mem ∧ (f s x).poison = s.poison)
    (xs : List β) (s : State) : (xs.foldl f s).mem = s.mem ∧ (xs.foldl f s).poison = s.poison := by
  induction xs generalizing s with
  | nil => exact ⟨rfl, rfl⟩
  | cons x xs ih => exact ⟨(ih (f s x)).1.trans (hf s x).1, (ih (f s x)).2.trans (hf s x).2⟩

/-- A detection leaves bytes and marks (15 R425, R430, R445). -/
theorem logError_mem (r : ErrRec) (s : State) : (logError r s).mem = s.mem ∧ (logError r s).poison = s.poison := by
  have ht : ∀ ks : List CtxId, (ks.foldl (fun s k => taint (some k) s) s).mem = s.mem ∧
      (ks.foldl (fun s k => taint (some k) s) s).poison = s.poison :=
    fun ks => foldl_mem (fun s k => taint (some k) s) (fun _ _ => ⟨rfl, rfl⟩) ks s
  have ho : ∀ (old : List ErrWindow) (u : State), (old.foldl (fun s w => closeWindow w s) u).mem = u.mem ∧
      (old.foldl (fun s w => closeWindow w s) u).poison = u.poison :=
    fun old u => foldl_mem _ (fun s w => closeWindow_mem w s) old u
  have h1 : ∀ u : State, u.mem = s.mem ∧ u.poison = s.poison → ∀ v : State,
      v = (match u.err.windows.find? (fun w => w.covers r && !w.over u.clk) with
        | some _ =>
          let image := r.image u false true u.plumb.now 1
          let image := putLe image 14 1 ((byteAt image 14).toNat ||| (if r.redacted u then 4 else 0))
          let add (w : ErrWindow) : ErrWindow :=
            if w.covers r && !w.over u.clk then { w with last := image, lastTime := u.plumb.now, count := w.count + 1 } else w
          { u with err := { u.err with windows := u.err.windows.map add } }
        | none =>
          let old := u.err.windows.filter fun w => w.covers r
          let s := { u with err := { u.err with windows := u.err.windows.filter fun w => !w.covers r } }
          let s := old.foldl (fun s w => closeWindow w s) s
          let s := writeRecord r false s.plumb.now 1 s
          { s with err := { s.err with windows := s.err.windows ++
              [⟨r.cause, r.loc, r.lidx, r.pos, r.sev, s.clk, [], 0, 0⟩] } }) →
      v.mem = s.mem ∧ v.poison = s.poison := by
    intro u hu v hv
    subst hv
    split
    · exact hu
    · exact ⟨(storeRecord_mem _ _ _ _ _).1.trans ((ho _ _).1.trans hu.1),
        (storeRecord_mem _ _ _ _ _).2.trans ((ho _ _).2.trans hu.2)⟩
  unfold logError
  refine h1 _ ?_ _ rfl
  split
  · exact ⟨rfl, rfl⟩
  · split
    · exact ht _
    · exact ⟨rfl, rfl⟩

/-- A detection keeps the form. -/
theorem State.canonical_logError {s : State} (h : s.canonical = true) (r : ErrRec) : (logError r s).canonical = true :=
  (State.canonical_congr (logError_mem r s).1 (logError_mem r s).2).trans h

end Sys2Proof.Machine
end

