-- ==== Sys2Proof/Laws/Updates.lean ====
section
/-! SUPPORT. One lemma per field for the updates of one unit's state: Ethernet ports, queue pairs, flash slots, hawk queues, read
slots, TDIs, connections, components. -/

namespace Sys2Proof.Machine

variable (s : State)

/-! ## `setEth` -/

@[simp] theorem State.setEth_pending (k : Nat) (v : EthPort) : (s.setEth k v).pending = s.pending := rfl
@[simp] theorem State.setEth_clk (k : Nat) (v : EthPort) : (s.setEth k v).clk = s.clk := rfl
@[simp] theorem State.setEth_draws (k : Nat) (v : EthPort) : (s.setEth k v).draws = s.draws := rfl
@[simp] theorem State.setEth_stamps (k : Nat) (v : EthPort) : (s.setEth k v).stamps = s.stamps := rfl
@[simp] theorem State.setEth_out (k : Nat) (v : EthPort) : (s.setEth k v).out = s.out := rfl
@[simp] theorem State.setEth_pins (k : Nat) (v : EthPort) : (s.setEth k v).pins = s.pins := rfl
@[simp] theorem State.setEth_ckg (k : Nat) (v : EthPort) : (s.setEth k v).ckg = s.ckg := rfl
@[simp] theorem State.setEth_plumb (k : Nat) (v : EthPort) : (s.setEth k v).plumb = s.plumb := rfl
@[simp] theorem State.setEth_mem (k : Nat) (v : EthPort) : (s.setEth k v).mem = s.mem := rfl
@[simp] theorem State.setEth_poison (k : Nat) (v : EthPort) : (s.setEth k v).poison = s.poison := rfl
@[simp] theorem State.setEth_latent (k : Nat) (v : EthPort) : (s.setEth k v).latent = s.latent := rfl
@[simp] theorem State.setEth_cores (k : Nat) (v : EthPort) : (s.setEth k v).cores = s.cores := rfl
@[simp] theorem State.setEth_sems (k : Nat) (v : EthPort) : (s.setEth k v).sems = s.sems := rfl
@[simp] theorem State.setEth_dlkCtl (k : Nat) (v : EthPort) : (s.setEth k v).dlkCtl = s.dlkCtl := rfl
@[simp] theorem State.setEth_dlkStat (k : Nat) (v : EthPort) : (s.setEth k v).dlkStat = s.dlkStat := rfl
@[simp] theorem State.setEth_dlkSnap (k : Nat) (v : EthPort) : (s.setEth k v).dlkSnap = s.dlkSnap := rfl
@[simp] theorem State.setEth_ctxs (k : Nat) (v : EthPort) : (s.setEth k v).ctxs = s.ctxs := rfl
@[simp] theorem State.setEth_sqs (k : Nat) (v : EthPort) : (s.setEth k v).sqs = s.sqs := rfl
@[simp] theorem State.setEth_cqs (k : Nat) (v : EthPort) : (s.setEth k v).cqs = s.cqs := rfl
@[simp] theorem State.setEth_orphans (k : Nat) (v : EthPort) : (s.setEth k v).orphans = s.orphans := rfl
@[simp] theorem State.setEth_heldCount (k : Nat) (v : EthPort) : (s.setEth k v).heldCount = s.heldCount := rfl
@[simp] theorem State.setEth_err (k : Nat) (v : EthPort) : (s.setEth k v).err = s.err := rfl
@[simp] theorem State.setEth_bst (k : Nat) (v : EthPort) : (s.setEth k v).bst = s.bst := rfl
@[simp] theorem State.setEth_hawks (k : Nat) (v : EthPort) : (s.setEth k v).hawks = s.hawks := rfl
@[simp] theorem State.setEth_ports (k : Nat) (v : EthPort) : (s.setEth k v).ports = s.ports := rfl
@[simp] theorem State.setEth_fab (k : Nat) (v : EthPort) : (s.setEth k v).fab = s.fab := rfl
@[simp] theorem State.setEth_host (k : Nat) (v : EthPort) : (s.setEth k v).host = s.host := rfl
@[simp] theorem State.setEth_ethFm (k : Nat) (v : EthPort) : (s.setEth k v).ethFm = s.ethFm := rfl
@[simp] theorem State.setEth_ethFma0 (k : Nat) (v : EthPort) : (s.setEth k v).ethFma0 = s.ethFma0 := rfl
@[simp] theorem State.setEth_ethFma1 (k : Nat) (v : EthPort) : (s.setEth k v).ethFma1 = s.ethFma1 := rfl
@[simp] theorem State.setEth_qps (k : Nat) (v : EthPort) : (s.setEth k v).qps = s.qps := rfl
@[simp] theorem State.setEth_flashSlots (k : Nat) (v : EthPort) : (s.setEth k v).flashSlots = s.flashSlots := rfl
@[simp] theorem State.setEth_flashMem (k : Nat) (v : EthPort) : (s.setEth k v).flashMem = s.flashMem := rfl
@[simp] theorem State.setEth_flashBad (k : Nat) (v : EthPort) : (s.setEth k v).flashBad = s.flashBad := rfl
@[simp] theorem State.setEth_sec (k : Nat) (v : EthPort) : (s.setEth k v).sec = s.sec := rfl
@[simp] theorem State.setEth_fw (k : Nat) (v : EthPort) : (s.setEth k v).fw = s.fw := rfl
@[simp] theorem State.setEth_power (k : Nat) (v : EthPort) : (s.setEth k v).power = s.power := rfl
@[simp] theorem State.setEth_boot (k : Nat) (v : EthPort) : (s.setEth k v).boot = s.boot := rfl
@[simp] theorem State.setEth_fuses (k : Nat) (v : EthPort) : (s.setEth k v).fuses = s.fuses := rfl
@[simp] theorem State.setEth_rst (k : Nat) (v : EthPort) : (s.setEth k v).rst = s.rst := rfl
@[simp] theorem State.setEth_atu (k : Nat) (v : EthPort) : (s.setEth k v).atu = s.atu := rfl
@[simp] theorem State.setEth_stackCtl (k : Nat) (v : EthPort) : (s.setEth k v).stackCtl = s.stackCtl := rfl
@[simp] theorem State.setEth_own (k : Nat) (v : EthPort) : (s.setEth k v).own = s.own := rfl
@[simp] theorem State.setEth_cspRfl (k : Nat) (v : EthPort) : (s.setEth k v).cspRfl = s.cspRfl := rfl
@[simp] theorem State.setEth_upsets (k : Nat) (v : EthPort) : (s.setEth k v).upsets = s.upsets := rfl

/-! ## `setQp` -/

@[simp] theorem State.setQp_pending (k : Nat) (v : Qp) : (s.setQp k v).pending = s.pending := rfl
@[simp] theorem State.setQp_clk (k : Nat) (v : Qp) : (s.setQp k v).clk = s.clk := rfl
@[simp] theorem State.setQp_draws (k : Nat) (v : Qp) : (s.setQp k v).draws = s.draws := rfl
@[simp] theorem State.setQp_stamps (k : Nat) (v : Qp) : (s.setQp k v).stamps = s.stamps := rfl
@[simp] theorem State.setQp_out (k : Nat) (v : Qp) : (s.setQp k v).out = s.out := rfl
@[simp] theorem State.setQp_pins (k : Nat) (v : Qp) : (s.setQp k v).pins = s.pins := rfl
@[simp] theorem State.setQp_ckg (k : Nat) (v : Qp) : (s.setQp k v).ckg = s.ckg := rfl
@[simp] theorem State.setQp_plumb (k : Nat) (v : Qp) : (s.setQp k v).plumb = s.plumb := rfl
@[simp] theorem State.setQp_mem (k : Nat) (v : Qp) : (s.setQp k v).mem = s.mem := rfl
@[simp] theorem State.setQp_poison (k : Nat) (v : Qp) : (s.setQp k v).poison = s.poison := rfl
@[simp] theorem State.setQp_latent (k : Nat) (v : Qp) : (s.setQp k v).latent = s.latent := rfl
@[simp] theorem State.setQp_cores (k : Nat) (v : Qp) : (s.setQp k v).cores = s.cores := rfl
@[simp] theorem State.setQp_sems (k : Nat) (v : Qp) : (s.setQp k v).sems = s.sems := rfl
@[simp] theorem State.setQp_dlkCtl (k : Nat) (v : Qp) : (s.setQp k v).dlkCtl = s.dlkCtl := rfl
@[simp] theorem State.setQp_dlkStat (k : Nat) (v : Qp) : (s.setQp k v).dlkStat = s.dlkStat := rfl
@[simp] theorem State.setQp_dlkSnap (k : Nat) (v : Qp) : (s.setQp k v).dlkSnap = s.dlkSnap := rfl
@[simp] theorem State.setQp_ctxs (k : Nat) (v : Qp) : (s.setQp k v).ctxs = s.ctxs := rfl
@[simp] theorem State.setQp_sqs (k : Nat) (v : Qp) : (s.setQp k v).sqs = s.sqs := rfl
@[simp] theorem State.setQp_cqs (k : Nat) (v : Qp) : (s.setQp k v).cqs = s.cqs := rfl
@[simp] theorem State.setQp_orphans (k : Nat) (v : Qp) : (s.setQp k v).orphans = s.orphans := rfl
@[simp] theorem State.setQp_heldCount (k : Nat) (v : Qp) : (s.setQp k v).heldCount = s.heldCount := rfl
@[simp] theorem State.setQp_err (k : Nat) (v : Qp) : (s.setQp k v).err = s.err := rfl
@[simp] theorem State.setQp_bst (k : Nat) (v : Qp) : (s.setQp k v).bst = s.bst := rfl
@[simp] theorem State.setQp_hawks (k : Nat) (v : Qp) : (s.setQp k v).hawks = s.hawks := rfl
@[simp] theorem State.setQp_ports (k : Nat) (v : Qp) : (s.setQp k v).ports = s.ports := rfl
@[simp] theorem State.setQp_fab (k : Nat) (v : Qp) : (s.setQp k v).fab = s.fab := rfl
@[simp] theorem State.setQp_host (k : Nat) (v : Qp) : (s.setQp k v).host = s.host := rfl
@[simp] theorem State.setQp_eth (k : Nat) (v : Qp) : (s.setQp k v).eth = s.eth := rfl
@[simp] theorem State.setQp_ethFm (k : Nat) (v : Qp) : (s.setQp k v).ethFm = s.ethFm := rfl
@[simp] theorem State.setQp_ethFma0 (k : Nat) (v : Qp) : (s.setQp k v).ethFma0 = s.ethFma0 := rfl
@[simp] theorem State.setQp_ethFma1 (k : Nat) (v : Qp) : (s.setQp k v).ethFma1 = s.ethFma1 := rfl
@[simp] theorem State.setQp_flashSlots (k : Nat) (v : Qp) : (s.setQp k v).flashSlots = s.flashSlots := rfl
@[simp] theorem State.setQp_flashMem (k : Nat) (v : Qp) : (s.setQp k v).flashMem = s.flashMem := rfl
@[simp] theorem State.setQp_flashBad (k : Nat) (v : Qp) : (s.setQp k v).flashBad = s.flashBad := rfl
@[simp] theorem State.setQp_sec (k : Nat) (v : Qp) : (s.setQp k v).sec = s.sec := rfl
@[simp] theorem State.setQp_fw (k : Nat) (v : Qp) : (s.setQp k v).fw = s.fw := rfl
@[simp] theorem State.setQp_power (k : Nat) (v : Qp) : (s.setQp k v).power = s.power := rfl
@[simp] theorem State.setQp_boot (k : Nat) (v : Qp) : (s.setQp k v).boot = s.boot := rfl
@[simp] theorem State.setQp_fuses (k : Nat) (v : Qp) : (s.setQp k v).fuses = s.fuses := rfl
@[simp] theorem State.setQp_rst (k : Nat) (v : Qp) : (s.setQp k v).rst = s.rst := rfl
@[simp] theorem State.setQp_atu (k : Nat) (v : Qp) : (s.setQp k v).atu = s.atu := rfl
@[simp] theorem State.setQp_stackCtl (k : Nat) (v : Qp) : (s.setQp k v).stackCtl = s.stackCtl := rfl
@[simp] theorem State.setQp_own (k : Nat) (v : Qp) : (s.setQp k v).own = s.own := rfl
@[simp] theorem State.setQp_cspRfl (k : Nat) (v : Qp) : (s.setQp k v).cspRfl = s.cspRfl := rfl
@[simp] theorem State.setQp_upsets (k : Nat) (v : Qp) : (s.setQp k v).upsets = s.upsets := rfl

/-! ## `setFlashSlot` -/

@[simp] theorem State.setFlashSlot_pending (k : Nat) (v : FlashSlot) : (s.setFlashSlot k v).pending = s.pending := rfl
@[simp] theorem State.setFlashSlot_clk (k : Nat) (v : FlashSlot) : (s.setFlashSlot k v).clk = s.clk := rfl
@[simp] theorem State.setFlashSlot_draws (k : Nat) (v : FlashSlot) : (s.setFlashSlot k v).draws = s.draws := rfl
@[simp] theorem State.setFlashSlot_stamps (k : Nat) (v : FlashSlot) : (s.setFlashSlot k v).stamps = s.stamps := rfl
@[simp] theorem State.setFlashSlot_out (k : Nat) (v : FlashSlot) : (s.setFlashSlot k v).out = s.out := rfl
@[simp] theorem State.setFlashSlot_pins (k : Nat) (v : FlashSlot) : (s.setFlashSlot k v).pins = s.pins := rfl
@[simp] theorem State.setFlashSlot_ckg (k : Nat) (v : FlashSlot) : (s.setFlashSlot k v).ckg = s.ckg := rfl
@[simp] theorem State.setFlashSlot_plumb (k : Nat) (v : FlashSlot) : (s.setFlashSlot k v).plumb = s.plumb := rfl
@[simp] theorem State.setFlashSlot_mem (k : Nat) (v : FlashSlot) : (s.setFlashSlot k v).mem = s.mem := rfl
@[simp] theorem State.setFlashSlot_poison (k : Nat) (v : FlashSlot) : (s.setFlashSlot k v).poison = s.poison := rfl
@[simp] theorem State.setFlashSlot_latent (k : Nat) (v : FlashSlot) : (s.setFlashSlot k v).latent = s.latent := rfl
@[simp] theorem State.setFlashSlot_cores (k : Nat) (v : FlashSlot) : (s.setFlashSlot k v).cores = s.cores := rfl
@[simp] theorem State.setFlashSlot_sems (k : Nat) (v : FlashSlot) : (s.setFlashSlot k v).sems = s.sems := rfl
@[simp] theorem State.setFlashSlot_dlkCtl (k : Nat) (v : FlashSlot) : (s.setFlashSlot k v).dlkCtl = s.dlkCtl := rfl
@[simp] theorem State.setFlashSlot_dlkStat (k : Nat) (v : FlashSlot) : (s.setFlashSlot k v).dlkStat = s.dlkStat := rfl
@[simp] theorem State.setFlashSlot_dlkSnap (k : Nat) (v : FlashSlot) : (s.setFlashSlot k v).dlkSnap = s.dlkSnap := rfl
@[simp] theorem State.setFlashSlot_ctxs (k : Nat) (v : FlashSlot) : (s.setFlashSlot k v).ctxs = s.ctxs := rfl
@[simp] theorem State.setFlashSlot_sqs (k : Nat) (v : FlashSlot) : (s.setFlashSlot k v).sqs = s.sqs := rfl
@[simp] theorem State.setFlashSlot_cqs (k : Nat) (v : FlashSlot) : (s.setFlashSlot k v).cqs = s.cqs := rfl
@[simp] theorem State.setFlashSlot_orphans (k : Nat) (v : FlashSlot) : (s.setFlashSlot k v).orphans = s.orphans := rfl
@[simp] theorem State.setFlashSlot_heldCount (k : Nat) (v : FlashSlot) : (s.setFlashSlot k v).heldCount = s.heldCount := rfl
@[simp] theorem State.setFlashSlot_err (k : Nat) (v : FlashSlot) : (s.setFlashSlot k v).err = s.err := rfl
@[simp] theorem State.setFlashSlot_bst (k : Nat) (v : FlashSlot) : (s.setFlashSlot k v).bst = s.bst := rfl
@[simp] theorem State.setFlashSlot_hawks (k : Nat) (v : FlashSlot) : (s.setFlashSlot k v).hawks = s.hawks := rfl
@[simp] theorem State.setFlashSlot_ports (k : Nat) (v : FlashSlot) : (s.setFlashSlot k v).ports = s.ports := rfl
@[simp] theorem State.setFlashSlot_fab (k : Nat) (v : FlashSlot) : (s.setFlashSlot k v).fab = s.fab := rfl
@[simp] theorem State.setFlashSlot_host (k : Nat) (v : FlashSlot) : (s.setFlashSlot k v).host = s.host := rfl
@[simp] theorem State.setFlashSlot_eth (k : Nat) (v : FlashSlot) : (s.setFlashSlot k v).eth = s.eth := rfl
@[simp] theorem State.setFlashSlot_ethFm (k : Nat) (v : FlashSlot) : (s.setFlashSlot k v).ethFm = s.ethFm := rfl
@[simp] theorem State.setFlashSlot_ethFma0 (k : Nat) (v : FlashSlot) : (s.setFlashSlot k v).ethFma0 = s.ethFma0 := rfl
@[simp] theorem State.setFlashSlot_ethFma1 (k : Nat) (v : FlashSlot) : (s.setFlashSlot k v).ethFma1 = s.ethFma1 := rfl
@[simp] theorem State.setFlashSlot_qps (k : Nat) (v : FlashSlot) : (s.setFlashSlot k v).qps = s.qps := rfl
@[simp] theorem State.setFlashSlot_flashMem (k : Nat) (v : FlashSlot) : (s.setFlashSlot k v).flashMem = s.flashMem := rfl
@[simp] theorem State.setFlashSlot_flashBad (k : Nat) (v : FlashSlot) : (s.setFlashSlot k v).flashBad = s.flashBad := rfl
@[simp] theorem State.setFlashSlot_sec (k : Nat) (v : FlashSlot) : (s.setFlashSlot k v).sec = s.sec := rfl
@[simp] theorem State.setFlashSlot_fw (k : Nat) (v : FlashSlot) : (s.setFlashSlot k v).fw = s.fw := rfl
@[simp] theorem State.setFlashSlot_power (k : Nat) (v : FlashSlot) : (s.setFlashSlot k v).power = s.power := rfl
@[simp] theorem State.setFlashSlot_boot (k : Nat) (v : FlashSlot) : (s.setFlashSlot k v).boot = s.boot := rfl
@[simp] theorem State.setFlashSlot_fuses (k : Nat) (v : FlashSlot) : (s.setFlashSlot k v).fuses = s.fuses := rfl
@[simp] theorem State.setFlashSlot_rst (k : Nat) (v : FlashSlot) : (s.setFlashSlot k v).rst = s.rst := rfl
@[simp] theorem State.setFlashSlot_atu (k : Nat) (v : FlashSlot) : (s.setFlashSlot k v).atu = s.atu := rfl
@[simp] theorem State.setFlashSlot_stackCtl (k : Nat) (v : FlashSlot) : (s.setFlashSlot k v).stackCtl = s.stackCtl := rfl
@[simp] theorem State.setFlashSlot_own (k : Nat) (v : FlashSlot) : (s.setFlashSlot k v).own = s.own := rfl
@[simp] theorem State.setFlashSlot_cspRfl (k : Nat) (v : FlashSlot) : (s.setFlashSlot k v).cspRfl = s.cspRfl := rfl
@[simp] theorem State.setFlashSlot_upsets (k : Nat) (v : FlashSlot) : (s.setFlashSlot k v).upsets = s.upsets := rfl

/-! ## `setHawk` -/

@[simp] theorem State.setHawk_pending (k : Nat) (v : Hawk) : (s.setHawk k v).pending = s.pending := rfl
@[simp] theorem State.setHawk_clk (k : Nat) (v : Hawk) : (s.setHawk k v).clk = s.clk := rfl
@[simp] theorem State.setHawk_draws (k : Nat) (v : Hawk) : (s.setHawk k v).draws = s.draws := rfl
@[simp] theorem State.setHawk_stamps (k : Nat) (v : Hawk) : (s.setHawk k v).stamps = s.stamps := rfl
@[simp] theorem State.setHawk_out (k : Nat) (v : Hawk) : (s.setHawk k v).out = s.out := rfl
@[simp] theorem State.setHawk_pins (k : Nat) (v : Hawk) : (s.setHawk k v).pins = s.pins := rfl
@[simp] theorem State.setHawk_ckg (k : Nat) (v : Hawk) : (s.setHawk k v).ckg = s.ckg := rfl
@[simp] theorem State.setHawk_plumb (k : Nat) (v : Hawk) : (s.setHawk k v).plumb = s.plumb := rfl
@[simp] theorem State.setHawk_mem (k : Nat) (v : Hawk) : (s.setHawk k v).mem = s.mem := rfl
@[simp] theorem State.setHawk_poison (k : Nat) (v : Hawk) : (s.setHawk k v).poison = s.poison := rfl
@[simp] theorem State.setHawk_latent (k : Nat) (v : Hawk) : (s.setHawk k v).latent = s.latent := rfl
@[simp] theorem State.setHawk_cores (k : Nat) (v : Hawk) : (s.setHawk k v).cores = s.cores := rfl
@[simp] theorem State.setHawk_sems (k : Nat) (v : Hawk) : (s.setHawk k v).sems = s.sems := rfl
@[simp] theorem State.setHawk_dlkCtl (k : Nat) (v : Hawk) : (s.setHawk k v).dlkCtl = s.dlkCtl := rfl
@[simp] theorem State.setHawk_dlkStat (k : Nat) (v : Hawk) : (s.setHawk k v).dlkStat = s.dlkStat := rfl
@[simp] theorem State.setHawk_dlkSnap (k : Nat) (v : Hawk) : (s.setHawk k v).dlkSnap = s.dlkSnap := rfl
@[simp] theorem State.setHawk_ctxs (k : Nat) (v : Hawk) : (s.setHawk k v).ctxs = s.ctxs := rfl
@[simp] theorem State.setHawk_sqs (k : Nat) (v : Hawk) : (s.setHawk k v).sqs = s.sqs := rfl
@[simp] theorem State.setHawk_cqs (k : Nat) (v : Hawk) : (s.setHawk k v).cqs = s.cqs := rfl
@[simp] theorem State.setHawk_orphans (k : Nat) (v : Hawk) : (s.setHawk k v).orphans = s.orphans := rfl
@[simp] theorem State.setHawk_heldCount (k : Nat) (v : Hawk) : (s.setHawk k v).heldCount = s.heldCount := rfl
@[simp] theorem State.setHawk_err (k : Nat) (v : Hawk) : (s.setHawk k v).err = s.err := rfl
@[simp] theorem State.setHawk_bst (k : Nat) (v : Hawk) : (s.setHawk k v).bst = s.bst := rfl
@[simp] theorem State.setHawk_ports (k : Nat) (v : Hawk) : (s.setHawk k v).ports = s.ports := rfl
@[simp] theorem State.setHawk_fab (k : Nat) (v : Hawk) : (s.setHawk k v).fab = s.fab := rfl
@[simp] theorem State.setHawk_host (k : Nat) (v : Hawk) : (s.setHawk k v).host = s.host := rfl
@[simp] theorem State.setHawk_eth (k : Nat) (v : Hawk) : (s.setHawk k v).eth = s.eth := rfl
@[simp] theorem State.setHawk_ethFm (k : Nat) (v : Hawk) : (s.setHawk k v).ethFm = s.ethFm := rfl
@[simp] theorem State.setHawk_ethFma0 (k : Nat) (v : Hawk) : (s.setHawk k v).ethFma0 = s.ethFma0 := rfl
@[simp] theorem State.setHawk_ethFma1 (k : Nat) (v : Hawk) : (s.setHawk k v).ethFma1 = s.ethFma1 := rfl
@[simp] theorem State.setHawk_qps (k : Nat) (v : Hawk) : (s.setHawk k v).qps = s.qps := rfl
@[simp] theorem State.setHawk_flashSlots (k : Nat) (v : Hawk) : (s.setHawk k v).flashSlots = s.flashSlots := rfl
@[simp] theorem State.setHawk_flashMem (k : Nat) (v : Hawk) : (s.setHawk k v).flashMem = s.flashMem := rfl
@[simp] theorem State.setHawk_flashBad (k : Nat) (v : Hawk) : (s.setHawk k v).flashBad = s.flashBad := rfl
@[simp] theorem State.setHawk_sec (k : Nat) (v : Hawk) : (s.setHawk k v).sec = s.sec := rfl
@[simp] theorem State.setHawk_fw (k : Nat) (v : Hawk) : (s.setHawk k v).fw = s.fw := rfl
@[simp] theorem State.setHawk_power (k : Nat) (v : Hawk) : (s.setHawk k v).power = s.power := rfl
@[simp] theorem State.setHawk_boot (k : Nat) (v : Hawk) : (s.setHawk k v).boot = s.boot := rfl
@[simp] theorem State.setHawk_fuses (k : Nat) (v : Hawk) : (s.setHawk k v).fuses = s.fuses := rfl
@[simp] theorem State.setHawk_rst (k : Nat) (v : Hawk) : (s.setHawk k v).rst = s.rst := rfl
@[simp] theorem State.setHawk_atu (k : Nat) (v : Hawk) : (s.setHawk k v).atu = s.atu := rfl
@[simp] theorem State.setHawk_stackCtl (k : Nat) (v : Hawk) : (s.setHawk k v).stackCtl = s.stackCtl := rfl
@[simp] theorem State.setHawk_own (k : Nat) (v : Hawk) : (s.setHawk k v).own = s.own := rfl
@[simp] theorem State.setHawk_cspRfl (k : Nat) (v : Hawk) : (s.setHawk k v).cspRfl = s.cspRfl := rfl
@[simp] theorem State.setHawk_upsets (k : Nat) (v : Hawk) : (s.setHawk k v).upsets = s.upsets := rfl

/-! ## `setSlot` -/

@[simp] theorem State.setSlot_pending (k : Nat) (v : ReadSlot) : (s.setSlot k v).pending = s.pending := rfl
@[simp] theorem State.setSlot_clk (k : Nat) (v : ReadSlot) : (s.setSlot k v).clk = s.clk := rfl
@[simp] theorem State.setSlot_draws (k : Nat) (v : ReadSlot) : (s.setSlot k v).draws = s.draws := rfl
@[simp] theorem State.setSlot_stamps (k : Nat) (v : ReadSlot) : (s.setSlot k v).stamps = s.stamps := rfl
@[simp] theorem State.setSlot_out (k : Nat) (v : ReadSlot) : (s.setSlot k v).out = s.out := rfl
@[simp] theorem State.setSlot_pins (k : Nat) (v : ReadSlot) : (s.setSlot k v).pins = s.pins := rfl
@[simp] theorem State.setSlot_ckg (k : Nat) (v : ReadSlot) : (s.setSlot k v).ckg = s.ckg := rfl
@[simp] theorem State.setSlot_plumb (k : Nat) (v : ReadSlot) : (s.setSlot k v).plumb = s.plumb := rfl
@[simp] theorem State.setSlot_mem (k : Nat) (v : ReadSlot) : (s.setSlot k v).mem = s.mem := rfl
@[simp] theorem State.setSlot_poison (k : Nat) (v : ReadSlot) : (s.setSlot k v).poison = s.poison := rfl
@[simp] theorem State.setSlot_latent (k : Nat) (v : ReadSlot) : (s.setSlot k v).latent = s.latent := rfl
@[simp] theorem State.setSlot_cores (k : Nat) (v : ReadSlot) : (s.setSlot k v).cores = s.cores := rfl
@[simp] theorem State.setSlot_sems (k : Nat) (v : ReadSlot) : (s.setSlot k v).sems = s.sems := rfl
@[simp] theorem State.setSlot_dlkCtl (k : Nat) (v : ReadSlot) : (s.setSlot k v).dlkCtl = s.dlkCtl := rfl
@[simp] theorem State.setSlot_dlkStat (k : Nat) (v : ReadSlot) : (s.setSlot k v).dlkStat = s.dlkStat := rfl
@[simp] theorem State.setSlot_dlkSnap (k : Nat) (v : ReadSlot) : (s.setSlot k v).dlkSnap = s.dlkSnap := rfl
@[simp] theorem State.setSlot_ctxs (k : Nat) (v : ReadSlot) : (s.setSlot k v).ctxs = s.ctxs := rfl
@[simp] theorem State.setSlot_sqs (k : Nat) (v : ReadSlot) : (s.setSlot k v).sqs = s.sqs := rfl
@[simp] theorem State.setSlot_cqs (k : Nat) (v : ReadSlot) : (s.setSlot k v).cqs = s.cqs := rfl
@[simp] theorem State.setSlot_orphans (k : Nat) (v : ReadSlot) : (s.setSlot k v).orphans = s.orphans := rfl
@[simp] theorem State.setSlot_heldCount (k : Nat) (v : ReadSlot) : (s.setSlot k v).heldCount = s.heldCount := rfl
@[simp] theorem State.setSlot_err (k : Nat) (v : ReadSlot) : (s.setSlot k v).err = s.err := rfl
@[simp] theorem State.setSlot_bst (k : Nat) (v : ReadSlot) : (s.setSlot k v).bst = s.bst := rfl
@[simp] theorem State.setSlot_hawks (k : Nat) (v : ReadSlot) : (s.setSlot k v).hawks = s.hawks := rfl
@[simp] theorem State.setSlot_ports (k : Nat) (v : ReadSlot) : (s.setSlot k v).ports = s.ports := rfl
@[simp] theorem State.setSlot_fab (k : Nat) (v : ReadSlot) : (s.setSlot k v).fab = s.fab := rfl
@[simp] theorem State.setSlot_eth (k : Nat) (v : ReadSlot) : (s.setSlot k v).eth = s.eth := rfl
@[simp] theorem State.setSlot_ethFm (k : Nat) (v : ReadSlot) : (s.setSlot k v).ethFm = s.ethFm := rfl
@[simp] theorem State.setSlot_ethFma0 (k : Nat) (v : ReadSlot) : (s.setSlot k v).ethFma0 = s.ethFma0 := rfl
@[simp] theorem State.setSlot_ethFma1 (k : Nat) (v : ReadSlot) : (s.setSlot k v).ethFma1 = s.ethFma1 := rfl
@[simp] theorem State.setSlot_qps (k : Nat) (v : ReadSlot) : (s.setSlot k v).qps = s.qps := rfl
@[simp] theorem State.setSlot_flashSlots (k : Nat) (v : ReadSlot) : (s.setSlot k v).flashSlots = s.flashSlots := rfl
@[simp] theorem State.setSlot_flashMem (k : Nat) (v : ReadSlot) : (s.setSlot k v).flashMem = s.flashMem := rfl
@[simp] theorem State.setSlot_flashBad (k : Nat) (v : ReadSlot) : (s.setSlot k v).flashBad = s.flashBad := rfl
@[simp] theorem State.setSlot_sec (k : Nat) (v : ReadSlot) : (s.setSlot k v).sec = s.sec := rfl
@[simp] theorem State.setSlot_fw (k : Nat) (v : ReadSlot) : (s.setSlot k v).fw = s.fw := rfl
@[simp] theorem State.setSlot_power (k : Nat) (v : ReadSlot) : (s.setSlot k v).power = s.power := rfl
@[simp] theorem State.setSlot_boot (k : Nat) (v : ReadSlot) : (s.setSlot k v).boot = s.boot := rfl
@[simp] theorem State.setSlot_fuses (k : Nat) (v : ReadSlot) : (s.setSlot k v).fuses = s.fuses := rfl
@[simp] theorem State.setSlot_rst (k : Nat) (v : ReadSlot) : (s.setSlot k v).rst = s.rst := rfl
@[simp] theorem State.setSlot_atu (k : Nat) (v : ReadSlot) : (s.setSlot k v).atu = s.atu := rfl
@[simp] theorem State.setSlot_stackCtl (k : Nat) (v : ReadSlot) : (s.setSlot k v).stackCtl = s.stackCtl := rfl
@[simp] theorem State.setSlot_own (k : Nat) (v : ReadSlot) : (s.setSlot k v).own = s.own := rfl
@[simp] theorem State.setSlot_cspRfl (k : Nat) (v : ReadSlot) : (s.setSlot k v).cspRfl = s.cspRfl := rfl
@[simp] theorem State.setSlot_upsets (k : Nat) (v : ReadSlot) : (s.setSlot k v).upsets = s.upsets := rfl

/-! ## `setTdi` -/

@[simp] theorem State.setTdi_pending (k : CtxId) (v : TdiState) : (s.setTdi k v).pending = s.pending := rfl
@[simp] theorem State.setTdi_clk (k : CtxId) (v : TdiState) : (s.setTdi k v).clk = s.clk := rfl
@[simp] theorem State.setTdi_draws (k : CtxId) (v : TdiState) : (s.setTdi k v).draws = s.draws := rfl
@[simp] theorem State.setTdi_stamps (k : CtxId) (v : TdiState) : (s.setTdi k v).stamps = s.stamps := rfl
@[simp] theorem State.setTdi_out (k : CtxId) (v : TdiState) : (s.setTdi k v).out = s.out := rfl
@[simp] theorem State.setTdi_pins (k : CtxId) (v : TdiState) : (s.setTdi k v).pins = s.pins := rfl
@[simp] theorem State.setTdi_ckg (k : CtxId) (v : TdiState) : (s.setTdi k v).ckg = s.ckg := rfl
@[simp] theorem State.setTdi_plumb (k : CtxId) (v : TdiState) : (s.setTdi k v).plumb = s.plumb := rfl
@[simp] theorem State.setTdi_mem (k : CtxId) (v : TdiState) : (s.setTdi k v).mem = s.mem := rfl
@[simp] theorem State.setTdi_poison (k : CtxId) (v : TdiState) : (s.setTdi k v).poison = s.poison := rfl
@[simp] theorem State.setTdi_latent (k : CtxId) (v : TdiState) : (s.setTdi k v).latent = s.latent := rfl
@[simp] theorem State.setTdi_cores (k : CtxId) (v : TdiState) : (s.setTdi k v).cores = s.cores := rfl
@[simp] theorem State.setTdi_sems (k : CtxId) (v : TdiState) : (s.setTdi k v).sems = s.sems := rfl
@[simp] theorem State.setTdi_dlkCtl (k : CtxId) (v : TdiState) : (s.setTdi k v).dlkCtl = s.dlkCtl := rfl
@[simp] theorem State.setTdi_dlkStat (k : CtxId) (v : TdiState) : (s.setTdi k v).dlkStat = s.dlkStat := rfl
@[simp] theorem State.setTdi_dlkSnap (k : CtxId) (v : TdiState) : (s.setTdi k v).dlkSnap = s.dlkSnap := rfl
@[simp] theorem State.setTdi_ctxs (k : CtxId) (v : TdiState) : (s.setTdi k v).ctxs = s.ctxs := rfl
@[simp] theorem State.setTdi_sqs (k : CtxId) (v : TdiState) : (s.setTdi k v).sqs = s.sqs := rfl
@[simp] theorem State.setTdi_cqs (k : CtxId) (v : TdiState) : (s.setTdi k v).cqs = s.cqs := rfl
@[simp] theorem State.setTdi_orphans (k : CtxId) (v : TdiState) : (s.setTdi k v).orphans = s.orphans := rfl
@[simp] theorem State.setTdi_heldCount (k : CtxId) (v : TdiState) : (s.setTdi k v).heldCount = s.heldCount := rfl
@[simp] theorem State.setTdi_err (k : CtxId) (v : TdiState) : (s.setTdi k v).err = s.err := rfl
@[simp] theorem State.setTdi_bst (k : CtxId) (v : TdiState) : (s.setTdi k v).bst = s.bst := rfl
@[simp] theorem State.setTdi_hawks (k : CtxId) (v : TdiState) : (s.setTdi k v).hawks = s.hawks := rfl
@[simp] theorem State.setTdi_ports (k : CtxId) (v : TdiState) : (s.setTdi k v).ports = s.ports := rfl
@[simp] theorem State.setTdi_fab (k : CtxId) (v : TdiState) : (s.setTdi k v).fab = s.fab := rfl
@[simp] theorem State.setTdi_host (k : CtxId) (v : TdiState) : (s.setTdi k v).host = s.host := rfl
@[simp] theorem State.setTdi_eth (k : CtxId) (v : TdiState) : (s.setTdi k v).eth = s.eth := rfl
@[simp] theorem State.setTdi_ethFm (k : CtxId) (v : TdiState) : (s.setTdi k v).ethFm = s.ethFm := rfl
@[simp] theorem State.setTdi_ethFma0 (k : CtxId) (v : TdiState) : (s.setTdi k v).ethFma0 = s.ethFma0 := rfl
@[simp] theorem State.setTdi_ethFma1 (k : CtxId) (v : TdiState) : (s.setTdi k v).ethFma1 = s.ethFma1 := rfl
@[simp] theorem State.setTdi_qps (k : CtxId) (v : TdiState) : (s.setTdi k v).qps = s.qps := rfl
@[simp] theorem State.setTdi_flashSlots (k : CtxId) (v : TdiState) : (s.setTdi k v).flashSlots = s.flashSlots := rfl
@[simp] theorem State.setTdi_flashMem (k : CtxId) (v : TdiState) : (s.setTdi k v).flashMem = s.flashMem := rfl
@[simp] theorem State.setTdi_flashBad (k : CtxId) (v : TdiState) : (s.setTdi k v).flashBad = s.flashBad := rfl
@[simp] theorem State.setTdi_fw (k : CtxId) (v : TdiState) : (s.setTdi k v).fw = s.fw := rfl
@[simp] theorem State.setTdi_power (k : CtxId) (v : TdiState) : (s.setTdi k v).power = s.power := rfl
@[simp] theorem State.setTdi_boot (k : CtxId) (v : TdiState) : (s.setTdi k v).boot = s.boot := rfl
@[simp] theorem State.setTdi_fuses (k : CtxId) (v : TdiState) : (s.setTdi k v).fuses = s.fuses := rfl
@[simp] theorem State.setTdi_rst (k : CtxId) (v : TdiState) : (s.setTdi k v).rst = s.rst := rfl
@[simp] theorem State.setTdi_atu (k : CtxId) (v : TdiState) : (s.setTdi k v).atu = s.atu := rfl
@[simp] theorem State.setTdi_stackCtl (k : CtxId) (v : TdiState) : (s.setTdi k v).stackCtl = s.stackCtl := rfl
@[simp] theorem State.setTdi_own (k : CtxId) (v : TdiState) : (s.setTdi k v).own = s.own := rfl
@[simp] theorem State.setTdi_cspRfl (k : CtxId) (v : TdiState) : (s.setTdi k v).cspRfl = s.cspRfl := rfl
@[simp] theorem State.setTdi_upsets (k : CtxId) (v : TdiState) : (s.setTdi k v).upsets = s.upsets := rfl

/-! ## `setConn` -/

@[simp] theorem State.setConn_pending (k : Transport) (v : SpdmConn) : (s.setConn k v).pending = s.pending := rfl
@[simp] theorem State.setConn_clk (k : Transport) (v : SpdmConn) : (s.setConn k v).clk = s.clk := rfl
@[simp] theorem State.setConn_draws (k : Transport) (v : SpdmConn) : (s.setConn k v).draws = s.draws := rfl
@[simp] theorem State.setConn_stamps (k : Transport) (v : SpdmConn) : (s.setConn k v).stamps = s.stamps := rfl
@[simp] theorem State.setConn_out (k : Transport) (v : SpdmConn) : (s.setConn k v).out = s.out := rfl
@[simp] theorem State.setConn_pins (k : Transport) (v : SpdmConn) : (s.setConn k v).pins = s.pins := rfl
@[simp] theorem State.setConn_ckg (k : Transport) (v : SpdmConn) : (s.setConn k v).ckg = s.ckg := rfl
@[simp] theorem State.setConn_plumb (k : Transport) (v : SpdmConn) : (s.setConn k v).plumb = s.plumb := rfl
@[simp] theorem State.setConn_mem (k : Transport) (v : SpdmConn) : (s.setConn k v).mem = s.mem := rfl
@[simp] theorem State.setConn_poison (k : Transport) (v : SpdmConn) : (s.setConn k v).poison = s.poison := rfl
@[simp] theorem State.setConn_latent (k : Transport) (v : SpdmConn) : (s.setConn k v).latent = s.latent := rfl
@[simp] theorem State.setConn_cores (k : Transport) (v : SpdmConn) : (s.setConn k v).cores = s.cores := rfl
@[simp] theorem State.setConn_sems (k : Transport) (v : SpdmConn) : (s.setConn k v).sems = s.sems := rfl
@[simp] theorem State.setConn_dlkCtl (k : Transport) (v : SpdmConn) : (s.setConn k v).dlkCtl = s.dlkCtl := rfl
@[simp] theorem State.setConn_dlkStat (k : Transport) (v : SpdmConn) : (s.setConn k v).dlkStat = s.dlkStat := rfl
@[simp] theorem State.setConn_dlkSnap (k : Transport) (v : SpdmConn) : (s.setConn k v).dlkSnap = s.dlkSnap := rfl
@[simp] theorem State.setConn_ctxs (k : Transport) (v : SpdmConn) : (s.setConn k v).ctxs = s.ctxs := rfl
@[simp] theorem State.setConn_sqs (k : Transport) (v : SpdmConn) : (s.setConn k v).sqs = s.sqs := rfl
@[simp] theorem State.setConn_cqs (k : Transport) (v : SpdmConn) : (s.setConn k v).cqs = s.cqs := rfl
@[simp] theorem State.setConn_orphans (k : Transport) (v : SpdmConn) : (s.setConn k v).orphans = s.orphans := rfl
@[simp] theorem State.setConn_heldCount (k : Transport) (v : SpdmConn) : (s.setConn k v).heldCount = s.heldCount := rfl
@[simp] theorem State.setConn_err (k : Transport) (v : SpdmConn) : (s.setConn k v).err = s.err := rfl
@[simp] theorem State.setConn_bst (k : Transport) (v : SpdmConn) : (s.setConn k v).bst = s.bst := rfl
@[simp] theorem State.setConn_hawks (k : Transport) (v : SpdmConn) : (s.setConn k v).hawks = s.hawks := rfl
@[simp] theorem State.setConn_ports (k : Transport) (v : SpdmConn) : (s.setConn k v).ports = s.ports := rfl
@[simp] theorem State.setConn_fab (k : Transport) (v : SpdmConn) : (s.setConn k v).fab = s.fab := rfl
@[simp] theorem State.setConn_host (k : Transport) (v : SpdmConn) : (s.setConn k v).host = s.host := rfl
@[simp] theorem State.setConn_eth (k : Transport) (v : SpdmConn) : (s.setConn k v).eth = s.eth := rfl
@[simp] theorem State.setConn_ethFm (k : Transport) (v : SpdmConn) : (s.setConn k v).ethFm = s.ethFm := rfl
@[simp] theorem State.setConn_ethFma0 (k : Transport) (v : SpdmConn) : (s.setConn k v).ethFma0 = s.ethFma0 := rfl
@[simp] theorem State.setConn_ethFma1 (k : Transport) (v : SpdmConn) : (s.setConn k v).ethFma1 = s.ethFma1 := rfl
@[simp] theorem State.setConn_qps (k : Transport) (v : SpdmConn) : (s.setConn k v).qps = s.qps := rfl
@[simp] theorem State.setConn_flashSlots (k : Transport) (v : SpdmConn) : (s.setConn k v).flashSlots = s.flashSlots := rfl
@[simp] theorem State.setConn_flashMem (k : Transport) (v : SpdmConn) : (s.setConn k v).flashMem = s.flashMem := rfl
@[simp] theorem State.setConn_flashBad (k : Transport) (v : SpdmConn) : (s.setConn k v).flashBad = s.flashBad := rfl
@[simp] theorem State.setConn_fw (k : Transport) (v : SpdmConn) : (s.setConn k v).fw = s.fw := rfl
@[simp] theorem State.setConn_power (k : Transport) (v : SpdmConn) : (s.setConn k v).power = s.power := rfl
@[simp] theorem State.setConn_boot (k : Transport) (v : SpdmConn) : (s.setConn k v).boot = s.boot := rfl
@[simp] theorem State.setConn_fuses (k : Transport) (v : SpdmConn) : (s.setConn k v).fuses = s.fuses := rfl
@[simp] theorem State.setConn_rst (k : Transport) (v : SpdmConn) : (s.setConn k v).rst = s.rst := rfl
@[simp] theorem State.setConn_atu (k : Transport) (v : SpdmConn) : (s.setConn k v).atu = s.atu := rfl
@[simp] theorem State.setConn_stackCtl (k : Transport) (v : SpdmConn) : (s.setConn k v).stackCtl = s.stackCtl := rfl
@[simp] theorem State.setConn_own (k : Transport) (v : SpdmConn) : (s.setConn k v).own = s.own := rfl
@[simp] theorem State.setConn_cspRfl (k : Transport) (v : SpdmConn) : (s.setConn k v).cspRfl = s.cspRfl := rfl
@[simp] theorem State.setConn_upsets (k : Transport) (v : SpdmConn) : (s.setConn k v).upsets = s.upsets := rfl

/-! ## `setComponent` -/

@[simp] theorem State.setComponent_pending (k : Nat) (v : Component) : (s.setComponent k v).pending = s.pending := rfl
@[simp] theorem State.setComponent_clk (k : Nat) (v : Component) : (s.setComponent k v).clk = s.clk := rfl
@[simp] theorem State.setComponent_draws (k : Nat) (v : Component) : (s.setComponent k v).draws = s.draws := rfl
@[simp] theorem State.setComponent_stamps (k : Nat) (v : Component) : (s.setComponent k v).stamps = s.stamps := rfl
@[simp] theorem State.setComponent_out (k : Nat) (v : Component) : (s.setComponent k v).out = s.out := rfl
@[simp] theorem State.setComponent_pins (k : Nat) (v : Component) : (s.setComponent k v).pins = s.pins := rfl
@[simp] theorem State.setComponent_ckg (k : Nat) (v : Component) : (s.setComponent k v).ckg = s.ckg := rfl
@[simp] theorem State.setComponent_plumb (k : Nat) (v : Component) : (s.setComponent k v).plumb = s.plumb := rfl
@[simp] theorem State.setComponent_mem (k : Nat) (v : Component) : (s.setComponent k v).mem = s.mem := rfl
@[simp] theorem State.setComponent_poison (k : Nat) (v : Component) : (s.setComponent k v).poison = s.poison := rfl
@[simp] theorem State.setComponent_latent (k : Nat) (v : Component) : (s.setComponent k v).latent = s.latent := rfl
@[simp] theorem State.setComponent_cores (k : Nat) (v : Component) : (s.setComponent k v).cores = s.cores := rfl
@[simp] theorem State.setComponent_sems (k : Nat) (v : Component) : (s.setComponent k v).sems = s.sems := rfl
@[simp] theorem State.setComponent_dlkCtl (k : Nat) (v : Component) : (s.setComponent k v).dlkCtl = s.dlkCtl := rfl
@[simp] theorem State.setComponent_dlkStat (k : Nat) (v : Component) : (s.setComponent k v).dlkStat = s.dlkStat := rfl
@[simp] theorem State.setComponent_dlkSnap (k : Nat) (v : Component) : (s.setComponent k v).dlkSnap = s.dlkSnap := rfl
@[simp] theorem State.setComponent_ctxs (k : Nat) (v : Component) : (s.setComponent k v).ctxs = s.ctxs := rfl
@[simp] theorem State.setComponent_sqs (k : Nat) (v : Component) : (s.setComponent k v).sqs = s.sqs := rfl
@[simp] theorem State.setComponent_cqs (k : Nat) (v : Component) : (s.setComponent k v).cqs = s.cqs := rfl
@[simp] theorem State.setComponent_orphans (k : Nat) (v : Component) : (s.setComponent k v).orphans = s.orphans := rfl
@[simp] theorem State.setComponent_heldCount (k : Nat) (v : Component) : (s.setComponent k v).heldCount = s.heldCount := rfl
@[simp] theorem State.setComponent_err (k : Nat) (v : Component) : (s.setComponent k v).err = s.err := rfl
@[simp] theorem State.setComponent_bst (k : Nat) (v : Component) : (s.setComponent k v).bst = s.bst := rfl
@[simp] theorem State.setComponent_hawks (k : Nat) (v : Component) : (s.setComponent k v).hawks = s.hawks := rfl
@[simp] theorem State.setComponent_ports (k : Nat) (v : Component) : (s.setComponent k v).ports = s.ports := rfl
@[simp] theorem State.setComponent_fab (k : Nat) (v : Component) : (s.setComponent k v).fab = s.fab := rfl
@[simp] theorem State.setComponent_host (k : Nat) (v : Component) : (s.setComponent k v).host = s.host := rfl
@[simp] theorem State.setComponent_eth (k : Nat) (v : Component) : (s.setComponent k v).eth = s.eth := rfl
@[simp] theorem State.setComponent_ethFm (k : Nat) (v : Component) : (s.setComponent k v).ethFm = s.ethFm := rfl
@[simp] theorem State.setComponent_ethFma0 (k : Nat) (v : Component) : (s.setComponent k v).ethFma0 = s.ethFma0 := rfl
@[simp] theorem State.setComponent_ethFma1 (k : Nat) (v : Component) : (s.setComponent k v).ethFma1 = s.ethFma1 := rfl
@[simp] theorem State.setComponent_qps (k : Nat) (v : Component) : (s.setComponent k v).qps = s.qps := rfl
@[simp] theorem State.setComponent_flashSlots (k : Nat) (v : Component) : (s.setComponent k v).flashSlots = s.flashSlots := rfl
@[simp] theorem State.setComponent_flashMem (k : Nat) (v : Component) : (s.setComponent k v).flashMem = s.flashMem := rfl
@[simp] theorem State.setComponent_flashBad (k : Nat) (v : Component) : (s.setComponent k v).flashBad = s.flashBad := rfl
@[simp] theorem State.setComponent_sec (k : Nat) (v : Component) : (s.setComponent k v).sec = s.sec := rfl
@[simp] theorem State.setComponent_power (k : Nat) (v : Component) : (s.setComponent k v).power = s.power := rfl
@[simp] theorem State.setComponent_boot (k : Nat) (v : Component) : (s.setComponent k v).boot = s.boot := rfl
@[simp] theorem State.setComponent_fuses (k : Nat) (v : Component) : (s.setComponent k v).fuses = s.fuses := rfl
@[simp] theorem State.setComponent_rst (k : Nat) (v : Component) : (s.setComponent k v).rst = s.rst := rfl
@[simp] theorem State.setComponent_atu (k : Nat) (v : Component) : (s.setComponent k v).atu = s.atu := rfl
@[simp] theorem State.setComponent_stackCtl (k : Nat) (v : Component) : (s.setComponent k v).stackCtl = s.stackCtl := rfl
@[simp] theorem State.setComponent_own (k : Nat) (v : Component) : (s.setComponent k v).own = s.own := rfl
@[simp] theorem State.setComponent_cspRfl (k : Nat) (v : Component) : (s.setComponent k v).cspRfl = s.cspRfl := rfl
@[simp] theorem State.setComponent_upsets (k : Nat) (v : Component) : (s.setComponent k v).upsets = s.upsets := rfl

/-! ## `ethPort` after `setEth` -/

theorem State.ethPort_setEth (k : Nat) {v : EthPort} (h : v ≠ .reset) : (s.setEth k v).ethPort k = v := Table.get_set_self _ _ k h
@[simp] theorem State.ethPort_setEth_ne {j k : Nat} (h : j ≠ k) (v : EthPort) : (s.setEth k v).ethPort j = s.ethPort j :=
  Table.get_set_ne _ _ h v

/-! ## `qp` after `setQp` -/

theorem State.qp_setQp (k : Nat) {v : Qp} (h : v ≠ .reset) : (s.setQp k v).qp k = v := Table.get_set_self _ _ k h
@[simp] theorem State.qp_setQp_ne {j k : Nat} (h : j ≠ k) (v : Qp) : (s.setQp k v).qp j = s.qp j :=
  Table.get_set_ne _ _ h v

/-! ## `flashSlot` after `setFlashSlot` -/

theorem State.flashSlot_setFlashSlot (k : Nat) {v : FlashSlot} (h : v ≠ .reset) : (s.setFlashSlot k v).flashSlot k = v := Table.get_set_self _ _ k h
@[simp] theorem State.flashSlot_setFlashSlot_ne {j k : Nat} (h : j ≠ k) (v : FlashSlot) : (s.setFlashSlot k v).flashSlot j = s.flashSlot j :=
  Table.get_set_ne _ _ h v

/-! ## `slot` after `setSlot` -/

theorem State.slot_setSlot (k : Nat) {v : ReadSlot} (h : v ≠ .reset) : (s.setSlot k v).slot k = v := Table.get_set_self _ _ k h
@[simp] theorem State.slot_setSlot_ne {j k : Nat} (h : j ≠ k) (v : ReadSlot) : (s.setSlot k v).slot j = s.slot j :=
  Table.get_set_ne _ _ h v

end Sys2Proof.Machine
end

