-- ==== Sys2Proof/Laws/Packets.lean ====
section
/-! SUPPORT. What the operations that packets, frames and host accesses share can do, said once. -/

namespace Sys2Proof.Machine

/-- A delivered packet whose CRC holds does what its type says. -/
theorem checkedPkt_good {t : Fin 16} {s : State} {k : Pkt} (h : delivered s t k = true) (hc : k.crc = k.crcOf) (p : PortId)
    (f : State → State) : checkedPkt t p k s f = .next (f s) := by
  simp [checkedPkt, h, hc]

/-- A delivered packet whose CRC fails is discarded. -/
theorem checkedPkt_bad {t : Fin 16} {s : State} {k : Pkt} (h : delivered s t k = true) (hc : k.crc ≠ k.crcOf) (p : PortId)
    (f : State → State) : checkedPkt t p k s f = .next (discard (some p) k s) := by
  simp [checkedPkt, h, hc]

/-- Everything that a packet of a type can come to. -/
theorem checkedPkt_cases (t : Fin 16) (p : PortId) (k : Pkt) (s : State) (f : State → State) :
    (delivered s t k = false ∧ checkedPkt t p k s f = .next s) ∨
    (delivered s t k = true ∧ k.crc ≠ k.crcOf ∧ checkedPkt t p k s f = .next (discard (some p) k s)) ∨
    (delivered s t k = true ∧ k.crc = k.crcOf ∧ checkedPkt t p k s f = .next (f s)) := by
  cases h : delivered s t k
  · exact .inl ⟨rfl, by simp [checkedPkt, h]⟩
  · by_cases hc : k.crc = k.crcOf
    · exact .inr (.inr ⟨rfl, hc, checkedPkt_good h hc p f⟩)
    · exact .inr (.inl ⟨rfl, hc, checkedPkt_bad h hc p f⟩)

/-- A frame leaves, or waits for the end of its priority's pause. -/
theorem sendFrame_cases (p : Nat) (tag : FrameTag) (f : EthFrame) (s : State) :
    ((s.ethPort p).paused.getLsbD tag.prio = false ∧ sendFrame p tag f s = s.emit (.frame p tag f)) ∨
    ((s.ethPort p).paused.getLsbD tag.prio = true ∧
      sendFrame p tag f s = s.setEth p { s.ethPort p with waiting := (s.ethPort p).waiting ++ [(tag, f)] }) := by
  cases h : (s.ethPort p).paused.getLsbD tag.prio
  · exact .inl ⟨rfl, by simp only [sendFrame]; rw [State.ethPort] at h; simp [h]⟩
  · exact .inr ⟨rfl, by simp only [sendFrame]; rw [State.ethPort] at h; simp [h]; rfl⟩

/-- A host access that ends without an answer fails in one of the two ways of its direction. -/
theorem failKind_cases (write : Bool) (s : State) :
    (failKind write s).2 = s.choose.2 ∧
      ((failKind write s).1 = hostNoAnswer ∨ (failKind write s).1 = if write then hostGoErr else hostReadErr) := by
  refine ⟨rfl, ?_⟩
  simp only [failKind]
  cases s.choose.1 <;> simp

end Sys2Proof.Machine
end

