-- ==== Sys2Proof/Tests/Slice0.lean ====
section
/-! SUPPORT. Small checks of the model: ill-formed instructions, instruction words, the manual's worked examples, and for
each obligation with hypotheses a concrete state and operands that meet them (a clause of its own where clauses differ). -/

namespace Sys2Proof.Tests

open Sys2Proof Sys2Proof.Machine

/-! ## Small states -/

/-- Reset, with context 0 enabled on the whole die. -/
def die : State := State.reset.setCtx 0 { Ctx.reset with gfeCtx := 0x401 }

/-- The same, with core 0 running as `f` changes it. -/
def runs (f : CoreSt → CoreSt) : State := die.setCore 0 (f CoreSt.live)

/-- Registers g1 and g2. -/
def regs (x y : Word) (v : CoreSt) : CoreSt := { v with g := (v.g.set 0 1 x).set 0 2 y }

/-- Tile registers t1 to t3. -/
def tiles (a b d : TileDesc) (v : CoreSt) : CoreSt :=
  { v with t := ((v.t.set none 1 (some a)).set none 2 (some b)).set none 3 (some d) }

/-- A tile of the local store of core 0. -/
def tile (fmt : Fmt) (base : Addr) (rows cols : Nat) : TileDesc := ⟨fmt, base, rows, cols, 64, 0, 0⟩

/-- A success. -/
def good {ε α : Type} (x : Except ε α) : Bool :=
  match x with
  | .ok _ => true
  | .error _ => false

/-! ## Ill-formed instructions (07 R176, R178, R187, R188) -/

theorem test_wf_mma_format : (Instr.mma 0 0 0 0 0 .fp32 .g16 false).wf = false := by decide
theorem test_wf_mma_precise_16 : (Instr.mma 0 0 0 0 0 .bf16 .g16 true).wf = false := by decide
theorem test_wf_mma_good : (Instr.mma 0 0 0 0 0 .e4m3 .g16 true).wf = true := by decide
theorem test_wf_mdrain_format : (Instr.mdrain 0 0 0 0 0 0 0 .int32 false false).wf = false := by decide
theorem test_wf_xcvt_pair : (Instr.xcvt 0 .fp32 .fp32 1 2 0 0 0 false false false).wf = false := by decide
theorem test_wf_xcvt_slot3 : (Instr.xcvt 0 .fp32 .bf16 1 2 3 0 0 false false false).wf = false := by decide
theorem test_wf_xcvt_slot4 : (Instr.xcvt 0 .bf16 .fp32 1 2 0 4 0 false false false).wf = false := by decide
theorem test_wf_xcvt_sr_tz : (Instr.xcvt 0 .int32 .fp32 1 2 0 0 0 true false true).wf = false := by decide

/-! ## Instruction words, written out from chapter 07 -/

/-- 07's worked MMA word: class 3, opcode 0x10, slot 1 a2, slot 2 t5, fmt 4, grp 2, r0 32, engine 1. -/
theorem test_word_mma : decodeFz 0 (0x3 * 2 ^ 60 + 0x10 * 2 ^ 52 + 2 * 2 ^ 47 + 5 * 2 ^ 42 + 4 + 2 * 2 ^ 8 + 32 * 2 ^ 16 + 1 * 2 ^ 30)
    = .ok (.mma 0 1 2 32 5 .e4m3 .g16 false) := by decide
theorem test_word_mma_precise_16 : decodeFz 0 0x3101_1400_4020_0603 = .error 0x07 := by decide
theorem test_word_nop : decodeFz 0 0 = .ok (.nop 0) := by decide
theorem test_word_all_ones : decodeFz 0 (2 ^ 64 - 1) = .error 0x02 := by decide
theorem test_word_sll : decodeFz 0 (0x1 * 2 ^ 60 + 0x0C * 2 ^ 52 + 7 * 2 ^ 47 + 8 * 2 ^ 42 + 9 * 2 ^ 37) = .ok (.sll 0 7 8 9) := by
  decide
theorem test_word_add_res0 : decodeFz 0 (0x1 * 2 ^ 60 + 7 * 2 ^ 47 + 8 * 2 ^ 42 + 9 * 2 ^ 37 + 1) = .error 0x05 := by decide
theorem test_word_st : decodeFz 0 (0x2 * 2 ^ 60 + 0x13 * 2 ^ 52 + 8 * 2 ^ 42 + 9 * 2 ^ 37 + 0xFFFFFFF8) = .ok (.stD 0 8 9 0xFFFFFFF8) := by
  decide
theorem test_word_vfma : decodeFz 0 (0x4 * 2 ^ 60 + 0x03 * 2 ^ 52 + 1 * 2 ^ 47 + 2 * 2 ^ 42 + 3 * 2 ^ 37 + 4 * 2 ^ 32 + 5 * 2 ^ 29)
    = .ok (.vfma 0 1 2 3 4 5) := by decide
theorem test_word_xcvt : decodeFz 0 (0x5 * 2 ^ 60 + 1 * 2 ^ 47 + 2 * 2 ^ 42 + 3 * 2 ^ 37 + 2 + 2 ^ 11) =
    .ok (.xcvt 0 .fp16 .fp32 1 2 3 0 0 true false false) := by decide
theorem test_word_dcopyR : decodeFz 0 (0x6 * 2 ^ 60 + 0x01 * 2 ^ 52 + 1 * 2 ^ 47 + 2 * 2 ^ 42 + 3 * 2 ^ 37 + 4 * 2 ^ 32 + 5 * 2 ^ 27)
    = .ok (.dcopyR 0 1 2 3 4 5) := by decide
theorem test_word_semWaitAcq : decodeFz 0 (0x7 * 2 ^ 60 + 0x09 * 2 ^ 52 + 8 * 2 ^ 42 + 9 * 2 ^ 37) = .ok (.semWaitAcq 0 8 9) := by
  decide
theorem test_word_sget : decodeFz 0 (0x8 * 2 ^ 60 + 0x20 * 2 ^ 52 + 8 * 2 ^ 42 + 7) = .ok (.sget 0 .ntm 8) := by decide
theorem test_word_beq : decodeFz 0 (0x08 * 2 ^ 52 + 3 * 2 ^ 42 + 2 * 2 ^ 37 + 5) = .ok (.beq 0 3 2 5) := by decide
/-- The opcode table gives no row any bits. -/
theorem test_table_word : decodeTableWord 64 0 = none := by decide

/-! ## Worked examples -/

/-- 12 R348: four echoes take the level through 48, 36 and 27 to 20. -/
theorem test_limiter : [1, 2, 3, 4].map (fun n => (Nat.repeat (echoed 5) n State.reset).fab.limiters.map fun l => l.q)
    = [[48], [36], [27], [20]] := by decide

/-- 02 R63: amax 1,000.0 with tmax 448.0 and margin 1 proposes 0x7C. -/
theorem test_proposal : proposal (ffp32.decode 0x447A0000) (ffp32.decode 0x43E00000) 1 = 0x7C := by decide

/-- 02 R36, 03 R70: the canonical NaN, and a tie to even. -/
theorem test_round : (round32 (val32 0x7F800001)).code = 0x7FC00000 ∧
    (round32 ((val32 0x3F800000).add (val32 0x33800000))).code = 0x3F800000 := by decide

/-- 07: the worked image of a 128 by 64 BF16 tile. -/
theorem test_tile_image : parseTile (0x0003210002800000 + 0x0000008000400080 * 2 ^ 64) =
    .ok ⟨.bf16, 0x210002800000, 128, 64, 128, 0, 0⟩ := by decide

/-- 01 R16, 06: core 0 adds and moves on. -/
theorem test_add : ((match exec (.add 0 3 1 2) (runs (regs 5 7)) with | .next t => t | _ => State.reset).core 0).gread 3 = 12 := by
  decide
/-- 06: a write of g0 is discarded. -/
theorem test_add_g0 : ((match exec (.add 0 0 1 2) (runs (regs 5 7)) with | .next t => t | _ => State.reset).core 0).gread 0 = 0 := by
  decide

/-! ## What meets the hypotheses of the statements -/

/-- A core is ready. -/
theorem ready_of (s : State) (c : CoreId) (h : (s.coreIssues c && (s.fetchFault c).isNone) = true) : Ready s c := by
  simpa [Ready, Option.isNone_iff_eq_none] using h

theorem wit_IdleStep : (State.reset.pending = []) ∧ (Plumb.reset.increment 5 = 1) ∧
    (({ Plumb.reset with slew := 1 } : Plumb).increment 1024 ≠ 1) := by decide

theorem wit_Scalar : Ready (runs id) 0 := ready_of _ _ (by decide)

theorem wit_Control : Ready (runs (regs 0x1000 0)) 0 ∧ ((runs (regs 0x1000 0)).core 0).gread 1 = 0x1000 ∧
    (0 : Int) ≤ ((runs id).core 0).pc.toNat + 8 * (2 : BitVec 32).toInt :=
  ⟨ready_of _ _ (by decide), by decide⟩
theorem wit_Control_outside : Ready (runs (regs (2 ^ 48) 0)) 0 ∧ ((runs (regs (2 ^ 48) 0)).core 0).gread 1 = 2 ^ 48 ∧
    ((runs id).core 0).pc.toNat + 8 * (-1 : BitVec 32).toInt < 0 := ⟨ready_of _ _ (by decide), by decide⟩

/-- g1 points into the local store. -/
def inStore : State := runs (regs 0x210000001000 0x1122334455667788)

theorem wit_Load : Ready inStore 0 ∧ inStore.latent = .empty ∧ inStore.upsets.network = none ∧
    [1, 2, 4, 8, 32].all (fun n => good (scalarReach inStore (inStore.core 0) (displaced ((inStore.core 0).gread 1) 64) n { r := true })
      && !inStore.poisonedIn 0x210000001040 n) = true ∧ (inStore.core 0).readBuf = [] ∧ good (parseTile 0) = true :=
  ⟨ready_of _ _ (by decide), by decide⟩
theorem wit_Load_poisoned : let s := inStore.write 0x210000001040 (zeros 32) (fun _ => true)
    Ready s 0 ∧ s.latent = .empty ∧ s.upsets.network = none ∧ (s.core 0).readBuf = [] ∧
    good (scalarReach s (s.core 0) 0x210000001040 32 { r := true }) = true ∧
    s.poisonedIn 0x210000001040 1 = true := ⟨ready_of _ _ (by decide), by decide⟩
theorem wit_Load_faults : placeOf 0x210000800000 = .localStore 1 ∧ placeOf 0x200002000000 = .clusterStore 1 ∧
    ((State.reset.setCtx 0 { Ctx.reset with gfeCtx := 1 }).ctx 0).hasCluster 1 = false ∧
    ((State.reset.setCtx 0 { Ctx.reset with gfeCtx := 1 }).ctx 0).hasCore 16 = false ∧ placeOf 0x300000000000 = .control ∧
    placeOf 0x300010000000 = .nothing ∧ (0x210000001001 : Nat) % 8 ≠ 0 := by decide
theorem wit_Store : Ready inStore 0 ∧ Memory.wf inStore.mem = true ∧ inStore.upsets.network = none ∧
    [1, 2, 4, 8, 32].all (fun n => good (scalarReach inStore (inStore.core 0) 0x210000001040 n { w := true })) = true :=
  ⟨ready_of _ _ (by decide), by decide⟩

/-- Tiles of the local store: 3 by 32 and 2 by 32 in BF16, 2 by 3 in BF16. -/
def w32 : TileDesc := tile .bf16 0x210000001000 3 32
def a32 : TileDesc := tile .bf16 0x210000002000 2 32
def o3 : TileDesc := tile .bf16 0x210000003000 2 3
def withTiles : State := runs (tiles w32 a32 o3)
def noRows : TileDesc := tile .bf16 0x210000002000 0 32
def pair3 : TileDesc := tile .fp32 0x210000003000 2 3

theorem wit_DescriptorAdd : Ready withTiles 0 ∧ (withTiles.core 0).tread 1 = some w32 ∧
    (w32.base + ((withTiles.core 0).gread 1).setWidth 48).toNat % 64 = 0 := ⟨ready_of _ _ (by decide), by decide⟩
theorem wit_DescriptorAdd_legal : parseTile (leNat w32.image) = .ok w32 ∧ parseTile (leNat a32.image) = .ok a32 ∧
    parseTile (leNat o3.image) = .ok o3 := by decide
theorem wit_Tdst : Ready withTiles 0 ∧ (withTiles.core 0).tread 5 = none ∧ good (parseTile 0) = true :=
  ⟨ready_of _ _ (by decide), by decide⟩

theorem wit_Prime : Ready withTiles 0 ∧ withTiles.latent = .empty ∧ mprimeChecks 0 (withTiles.core 0) 1 = .ok w32 ∧
    w32.isEmpty = false ∧ withTiles.tilePoisoned w32 = false ∧
    mprimeChecks 0 ((runs (tiles noRows a32 o3)).core 0) 1 = .ok noRows ∧ noRows.isEmpty = true :=
  ⟨ready_of _ _ (by decide), by decide⟩

/-- An engine whose active bank holds a BF16 shape of 3 columns. -/
def primed (sh : Option Shape) (v : CoreSt) : CoreSt :=
  v.setEngine 0 { v.engine 0 with active := { (v.engine 0).active with shape := sh } }
def mmaState (sh : Option Shape) : State := runs (primed sh ∘ tiles w32 a32 o3)

theorem wit_Mma : Ready (mmaState (some ⟨.bf16, 32, 3⟩)) 0 ∧ (Instr.mma 0 0 0 5 2 .bf16 .g16 false).wf = true ∧
    mmaIssueChecks 0 ((mmaState (some ⟨.bf16, 32, 3⟩)).core 0) 2 .bf16 = .ok a32 ∧ a32.isEmpty = false ∧
    mmaEngineChecks 0 (((mmaState (some ⟨.bf16, 32, 3⟩)).core 0).engine 0) 0 5 a32 .bf16 = .ok ⟨.bf16, 32, 3⟩ ∧
    (((mmaState (some ⟨.bf16, 32, 3⟩)).core 0).engine 0).upset = none ∧
    (((mmaState (some ⟨.bf16, 32, 3⟩)).core 0).engine 0).accParityBad = .empty ∧
    (mmaState (some ⟨.bf16, 32, 3⟩)).tilePoisoned a32 = false ∧ bitAt ((mmaState (some ⟨.bf16, 32, 3⟩)).core 0).stbCtl 48 = false ∧
    (((mmaState (some ⟨.bf16, 32, 3⟩)).core 0).engine 0).active.scalesFail .bf16 3 32 = false ∧
    scrimFails (mmaState (some ⟨.bf16, 32, 3⟩)) .bf16 .g16 (((mmaState (some ⟨.bf16, 32, 3⟩)).core 0).engine 0).active 3 a32 none = [] :=
  ⟨ready_of _ _ (by decide), by decide +kernel⟩
theorem wit_Mma_faults : (((mmaState none).core 0).engine 0).active.shape = none ∧
    (((mmaState (some ⟨.fp16, 32, 3⟩)).core 0).engine 0).active.shape = some ⟨.fp16, 32, 3⟩ ∧
    (((mmaState (some ⟨.bf16, 64, 3⟩)).core 0).engine 0).active.shape = some ⟨.bf16, 64, 3⟩ ∧
    (((mmaState (some ⟨.bf16, 32, 3⟩)).core 0).engine 0).capacity 0 < 127 + a32.rows := by decide

theorem wit_Drain : Ready withTiles 0 ∧ Memory.wf withTiles.mem = true ∧
    (Instr.mdrain 0 0 0 5 3 0 0 .bf16 false false).wf = true ∧ engineVisited withTiles 0 0 = false ∧
    drainIssueChecks 0 (withTiles.core 0) 3 0 0 .bf16 false false = .ok (o3, 0, none) ∧
    drainEngineChecks 0 (withTiles.core 0) 0 5 o3 false false = .ok () ∧ (withTiles.core 0).stpUpset = none ∧
    withTiles.upsets.network = none ∧ ((withTiles.core 0).engine 0).accParityBad = .empty ∧
    o3.rowBytes ≤ o3.rstride := ⟨ready_of _ _ (by decide), by decide⟩
def wideState : State := runs fun v =>
  let v := tiles w32 a32 pair3 v
  v.setEngine 0 { v.engine 0 with wide := 1 }
theorem wit_Drain_pair : Ready wideState 0 ∧ drainIssueChecks 0 (wideState.core 0) 3 0 0 .fp32 true false = .ok (pair3, 0, none) ∧
    drainEngineChecks 0 (wideState.core 0) 0 5 pair3 true false = .ok () ∧ engineVisited wideState 0 0 = false :=
  ⟨ready_of _ _ (by decide), by decide⟩
theorem wit_Drain_empty : drainIssueChecks 0 ((runs (tiles w32 a32 noRows)).core 0) 3 0 0 .bf16 false false = .ok (noRows, 0, none) := by
  decide


/-! ### The vector unit -/

/-- Core 0 with vector lanes set: v1 holds a poisoned lane 3, v2 offsets 0, 4 and 8 in lanes 0 to 2; p1 is lanes 0 to 2, p2
lane 3. -/
def vecState : State := runs fun v =>
  let v := { v with p := (v.p.set 0 1 7).set 0 2 8, g := v.g.set 0 1 0x1000 }
  (v.putLanes 1 [(3, ⟨5, .none, true⟩)]).putLanes 2 [(1, ⟨4, .none, false⟩), (2, ⟨8, .none, false⟩)]
/-- The same, seeded. -/
def seededState : State := vecState.setCore 0 { vecState.core 0 with seeded := true }

theorem wit_Vector : Ready vecState 0 ∧ (vecState.core 0).vecUpset = none ∧ vectorVisited vecState 0 = false ∧
    (vecState.core 0).v.wf 0 = true ∧ (vecState.core 0).vPoison.wf false = true := ⟨ready_of _ _ (by decide), by decide⟩
theorem wit_Predicate : (1 : PReg) ≠ 0 ∧
    (∀ l ∈ (vecState.core 0).active 1, (vecState.core 0).lanePoison 1 l = false ∧ (vecState.core 0).lanePoison 2 l = false) ∧
    (∃ l ∈ (vecState.core 0).active 2, (vecState.core 0).lanePoison 1 l = true ∨ (vecState.core 0).lanePoison 2 l = true) ∧
    (vecState.core 0).lanePoison 1 2 = false ∧ (vecState.core 0).lanePoison 1 3 = true := by decide
theorem wit_Reduction_none_active : ((runs id).core 0).active 1 = [] := by decide
theorem wit_Draw : Ready seededState 0 ∧ (seededState.core 0).seeded = true ∧ (seededState.core 0).stpUpset = none ∧
    (vecState.core 0).seeded = false := ⟨ready_of _ _ (by decide), by decide⟩
theorem wit_VectorLoad : vecState.latent = .empty ∧ ((vecState.core 0).gread 1 + (64 : BitVec 24).signExtend 64).toNat = 0x1040 ∧
    offsetFault (vecState.core 0) 1 2 ((vecState.core 0).active 1) = none ∧
    offsetFault (vecState.core 0) 1 1 ((vecState.core 0).active 2) = none ∧
    ((vecState.core 0).active 2).find? ((vecState.core 0).lanePoison 1) = some 3 := by decide
theorem wit_VectorStore : Memory.wf vecState.mem = true ∧ vecState.upsets.network = none ∧
    (∀ l ∈ (vecState.core 0).active 1, (vecState.core 0).lanePoison 2 l = false) := by decide
theorem wit_Convert : (Instr.xcvt 0 .bf16 .fp32 1 2 0 0 0 false false false).wf = true ∧
    (Instr.xcvt 0 .fp32 .e4m3 1 2 0 3 0 false false false).wf = true ∧
    (Instr.xcvt 0 .e4m3 .fp32 1 2 0 3 0 false false false).wf = true ∧
    xcvtChecks (vecState.core 0) .bf16 .fp32 1 0 0 1 false false false = .ok 0 ∧
    xcvtChecks (vecState.core 0) .fp32 .e4m3 1 0 3 0 false false false = .ok 0 ∧
    xcvtChecks (vecState.core 0) .e4m3 .fp32 1 0 3 0 false false false = .ok 0 := by decide
theorem wit_StochasticConvert : Ready seededState 0 ∧ vectorVisited seededState 0 = false ∧
    (Instr.xcvt 0 .bf16 .fp32 1 2 0 0 0 true true false).wf = true ∧
    xcvtChecks (seededState.core 0) .bf16 .fp32 1 0 0 1 true true false = .ok 0 ∧
    xcvtChecks (vecState.core 0) .bf16 .fp32 1 0 0 1 true true false = .ok 0 := ⟨ready_of _ _ (by decide), by decide⟩

/-- 05: the generator's step from state 1 draws the high half of its product. -/
theorem test_draw : let v := { CoreSt.live with stipple := Table.empty.set 0 0 1, seeded := true }
    (v.draw 0).2.stipple.get 0 0 = 0x0000000040822041 := by decide

/-! ### The mover, other chips, semaphores, fences -/

/-- Context 0 owns frame 0, and its table at address 0 maps the first GiB of its addresses to frame 0. -/
def maps (s : State) : State :=
  ({ s with atu := { s.atu with frm := s.atu.frm.set 0 0 0x80 } }.setCtx 0 { s.ctx 0 with atuPtb := 1 }).write 0
    (leBytes 8 0x1F) fun _ => false
def w32b : TileDesc := tile .bf16 0x210000004000 3 32
def inDram : TileDesc := tile .bf16 0x4000 3 32
/-- t1 and t2 in the local store, t3 in DRAM; g1 is 0x8000, g2 the chip 1.0.0, g4 the cluster semaphore 5. -/
def moves : State := maps (runs fun v =>
  { tiles w32 w32b inDram (regs 0x8000 0x0400 v) with g := (((regs 0x8000 0x0400 v).g.set 0 4 5).set 0 5 3) })

theorem wit_MoverIssue : Ready moves 0 ∧ moverLoad moves 0 < 64 ∧ good (localChecks moves 0 (moves.core 0) 2 1 4 none) = true ∧
    good (localChecks moves 0 (moves.core 0) 3 1 0 (some .bf16)) = true ∧
    good (hashChecks moves 0 (moves.core 0) 1 3 0) = true := ⟨ready_of _ _ (by decide), by decide⟩
theorem wit_CopyOperandFaults : (moves.core 0).tread 7 = none ∧ (moves.core 0).tread 1 = some w32 ∧
    tileInOnePlace moves (moves.core 0) w32 = .ok () ∧ tileInOnePlace moves (moves.core 0) a32 = .ok () ∧
    tileInOnePlace moves (moves.core 0) pair3 = .ok () ∧ w32.fmt ≠ pair3.fmt ∧ w32.fmt = a32.fmt ∧ w32.rows ≠ a32.rows ∧
    (∃ p ∈ w32.runs, ∃ q ∈ (tile .bf16 0x210000001040 3 32).runs, p.1 < q.1 + q.2 ∧ q.1 < p.1 + p.2) := by decide

/-- The mover of core 0 holds one copy. -/
def copyOp : MoverOp := ⟨0, .copy, w32, w32b, .empty, some (.cluster 0 5), 0, 0, .empty, .empty, false⟩
def copying : State := runs fun v => { v with mover := [copyOp], moverNext := 1 }
theorem wit_CopyCompletion : copying.latent = .empty ∧ Memory.wf copying.mem = true ∧
    (copying.core 0).seqState = .running ∧ (copying.core 0).mover = [] ++ copyOp :: [] ∧ copyOp.src.isEmpty = false ∧
    copyOp.src.fmt.isBlock = false ∧ apart copyOp.src copyOp.dst = .ok () ∧ copyOp.dst.rowBytes ≤ copyOp.dst.rstride ∧
    (∀ r ∈ copyOp.src.runs ++ copyOp.dst.runs, 0x200000000000 ≤ r.1 ∧ copying.poisonedIn r.1 r.2 = false) ∧
    copyOp.before = copying.mem ∧ copyOp.beforePoison = copying.poison ∧ copyOp.hurt = false ∧ copyOp.refused copying = false ∧
    (copying.core 0).moverUpset = false ∧ copying.upsets.network = none := by decide

/-- A torus of four chips by one by one; this chip is 0, job 7 of context 0 spans it, and port 0 leads to X+. -/
def ring : Topo :=
  ⟨0x0000000100030000, 0xFFFFFFFF, Table.empty.set Topo.noPort 0 0x0000000000040000,
   Table.empty.set 0 0 0x0000010000000701, Table.empty.set 0 0 0x60, .empty⟩
def fabric (s : State) : State :=
  { s with fab := { s.fab with active := ring } }.setPort 0 { Port.reset with state := .active, haveRecord := true }
def remote : State := fabric moves

theorem wit_RemoteIssue : Ready remote 0 ∧ moverLoad remote 0 < 64 ∧ (remote.core 0).port = [] ∧
    good (remoteTileChecks remote 0 (remote.core 0) (.dcopyR 0 2 1 0 2 0) 2 1 0 2 0 none) = true ∧
    good (remoteTileChecks remote 0 (remote.core 0) (.dcopyRedR 0 3 1 0 2 0 .bf16) 3 1 0 2 0 (some .bf16)) = true ∧
    w32.isEmpty = false ∧ (remote.core 0).gread 5 ≠ 0 ∧ (remote.core 0).gread 0 = 0 ∧
    (remote.core 0).gread 5 ≠ BitVec.allOnes 64 ∧ chipOperand remote ((remote.core 0).gread 2) = .ok 0x0400 ∧
    remoteChecks remote 0 0x0400 4 = .ok 0 := ⟨ready_of _ _ (by decide), by decide⟩
theorem wit_RemoteIssue_faults : (((runs (regs 0 (BitVec.allOnes 64))).core 0).gread 2) = BitVec.allOnes 64 ∧
    bitsAt ((remote.core 0).gread 1) 16 48 = 0 ∧ bitsAt (0x10000 : Word) 16 48 ≠ 0 ∧
    ((remote.core 0).gread 0).setWidth 16 = ownChip remote ∧ ownChip remote ≠ 0xFFFF := by decide

theorem wit_SemaphoreIssue : Ready moves 0 ∧ (moves.core 0).port = [] ∧
    coreSem moves 0 ((moves.core 0).gread 4) = .ok (.cluster 0 5) ∧ (moves.core 0).gread 5 = 3 ∧
    coreSem moves 0 ((moves.core 0).gread 1) = .ok (.cluster 0 0) ∧ coreSem moves 0 0x4000 = .error 0x04 ∧
    coreSem moves 0 0xC000 = .error 0x02 := ⟨ready_of _ _ (by decide), by decide⟩
theorem wit_SemaphoreAdds : ((die.setSem (.cluster 0 5) ⟨0xFFFFFFFFFFFFFFFF, [], [.add 0 0 5 1], none⟩).sem (.cluster 0 5)).arrivals
    = [.add 0 0 5 1] ∧ ((0xFFFFFFFFFFFFFFFF : Word).toNat + (1 : Word).toNat > 0xFFFFFFFFFFFFFFFF) ∧
    ((0xFFFFFFFFFFFFFFFE : Word).toNat + (1 : Word).toNat ≤ 0xFFFFFFFFFFFFFFFF) := by decide
theorem wit_Scan : let w : Waiter := ⟨.core 0, .acq, 1, 0⟩
    (die.sem (.die 0)).waiters = [] ∧ ((die.setSem (.die 0) ⟨0, [w], [], none⟩).sem (.die 0)).waiters ≠ [] ∧
    (scanWaiters 2 false [⟨.core 1, .wait, 2, 0⟩, w]).2.2 = [] ∧ (scanWaiters 0 false [w]).2.2 = [w] := by decide
theorem wit_Fence : ((runs fun v => { v with hold := .fence .die }).core 0).hold = .fence .die ∧
    fenceDone (runs fun v => { v with hold := .fence .die }) 0 .die = true ∧
    ((runs fun v => { v with hold := .endWait }).core 0).hold = .endWait ∧
    ((runs fun v => { v with hold := .endWait }).core 0).fault = none ∧
    fenceDone (runs fun v => { v with hold := .endWait }) 0 .sys = true ∧ fenceDone copying 0 .core = false := by decide
def aLaunch : CoreLaunch := ⟨0, 0, 0, 0, 64, 0, 0, 0, 0, false⟩
theorem wit_EndAndRelease : ((runs fun v => { v with launch := some aLaunch }).core 0).launch = some aLaunch ∧
    ((runs id).sq 0).cmd = none ∧
    ((runs fun v => { v with port := [.addRel (.cluster 0 5) 1 0] }).core 0).port = [.addRel (.cluster 0 5) 1 0] := by decide

/-! ### Telemetry, saved state, faults -/

theorem wit_Counters : ((runs fun v => { v with ntmSat := 0xFFFFFFFFFFFFFFFD }).core 0).ntmSat.toNat ≤ 0xFFFFFFFFFFFFFFFE ∧
    ((runs id).core 0).ntmStat.toNat < 16 := by decide
theorem wit_Lstat : Ready inStore 0 ∧ (0x210000001000 : Nat) % 128 = 0 ∧ placeOf 0x210000001000 = .localStore 0 ∧
    inStore.poisonedIn 0x210000001000 128 = false ∧ placeOf 0x210000800000 ≠ .localStore 0 ∧ (0x210000001040 : Nat) % 128 ≠ 0 :=
  ⟨ready_of _ _ (by decide), by decide⟩
theorem wit_StateSaves : Ready inStore 0 ∧ Memory.wf inStore.mem = true ∧
    [Part.ntm, .stp, .scal, .vec, .eng 3].all (fun p =>
      good (imagePlace inStore (inStore.core 0) 0x210000001000 (64 + partLength p)) && decide ((inStore.core 0).badOffsets p = [])
        && !inStore.writeRefused .empty 0x210000001000 (64 + partLength p)) = true :=
  ⟨ready_of _ _ (by decide), by decide⟩
/-- The image of the counters stands at g1. -/
def imaged : State := inStore.write 0x210000001000 (imageHeader .ntm false 0 ++ (inStore.core 0).body .ntm) fun _ => false
set_option maxRecDepth 8000 in
theorem wit_StateRestores : headerGood .ntm (imaged.bytes 0x210000001000 64) = true ∧
    (restorePart (imaged.core 0) .ntm 0 (imaged.bytes 0x210000001040 (partLength .ntm)) []).isSome = true ∧
    imaged.poisonedIn 0x210000001000 (64 + partLength .ntm) = false ∧
    headerGood .ntm (inStore.bytes 0x210000001000 64) = false := by decide
theorem wit_SavedGenerators : CoreSt.live.stipple.wf 0 = true ∧ CoreSt.live.seeded = false ∧ CoreSt.live.stipple = .empty ∧
    CoreSt.live.ntmSat ≠ BitVec.allOnes 64 ∧ CoreSt.live.ntmStat.toNat < 16 := by decide
theorem wit_Fetch : Ready (runs id) 0 ∧ decodeFz 0 (0xFFFFFFFFFFFFFFFF : Word).toNat = .error 0x02 ∧
    (runs id).latent = .empty := ⟨ready_of _ _ (by decide), by decide, by decide⟩
def aFault : FaultRec := ⟨2, 5, 0, 0, 0, 0, 8, 0, 0, 0, false⟩
theorem wit_FaultIsRecorded : let s := runs fun v => { v with fault := some aFault }
    (s.core 0).fault = some aFault ∧ (s.core 0).seqState = .running ∧ (s.core 0).visitHeld = false ∧ (s.core 0).port = [] ∧ (s.core 0).launch = none ∧
    (s.ctx 0).fault = none ∧ aFault.cause < 256 ∧ aFault.prec < 4 := by decide
/-- The context's fault has been raised, and core 0 has been told to stop. -/
def faulted : State := (runs fun v => { v with stopping := true }).setCtx 0
  { die.ctx 0 with fault := some ⟨1, 2, 5, 8, 0⟩, faultRaised := true }
theorem wit_ContextFault : (faulted.core 0).stopping = true ∧ (faulted.core 0).visitHeld = false ∧ (faulted.core 0).fault = none ∧ (faulted.ctx 0).faultRaised = true ∧
    (faulted.ctx 0).fault = some ⟨1, 2, 5, 8, 0⟩ ∧ queuesOf faulted 0 = [] ∧ Table.wf faulted.cores .reset = true := by decide

/-! ### The front end -/

/-- The 64 bytes of a command, from fields (offset, value). -/
def command (fs : List (Nat × Nat)) : Bytes := leBytes 64 (fs.map fun f => f.2 * 256 ^ f.1).sum

/-- The queue `q` of context 0, enabled, with 16 entries in host memory, as `f` changes it. -/
def withQueue (f : Sq → Sq) (s : State) : State := s.setSq 0 (f { Sq.reset with ctl := 0x0000EA60_00001001, state := .active, tail := 1 })
/-- The host link up and old enough for reads. -/
def hosted (s : State) : State := { s with clk := 24000000, host := { s.host with up := true } }
/-- Context 0 with DRAM mapped, two buffers of 1 GiB at 0 and at 0x1000000 in a table at 0x40, and an active queue. -/
def served : State :=
  let s := hosted (withQueue id (maps die))
  let s := s.setCtx 0 { s.ctx 0 with gfeBdt := 0x0002000000000040 }
  s.write 0x40 (leBytes 8 0x200000 ++ leBytes 8 0x1000000 ++ leBytes 16 0x301 ++ leBytes 8 0x4000000 ++ leBytes 8 0x1000000
    ++ leBytes 16 0x301) fun _ => false
/-- An image of two words of text stands at the first buffer. -/
def textImage : Bytes :=
  leBytes 16 (0x49475A46 + 2 ^ 32 * 1 + 2 ^ 64 * 16) ++ sha3_256 (zeros 16) ++ zeros 32
def loaded : State :=
  let s := served.write 0x200000 textImage fun _ => false
  s.setImage 0 5 ⟨[⟨3, 0x200000, 16, 0, zeros 32, 0, [1], Table.empty.set 0 1 1⟩], 3⟩

/-- Queue 0 with a command fetched and begun. -/
def begun (bs : Bytes) (s : State) : State := startCmd 0 bs (fetchRead 0 s)

theorem wit_Commands : canStart served 0 = true ∧ fetchEntry served 0 (command []) = some (command []) ∧
    (byteAt (command []) 0).toNat = 0 ∧ frontSem (begun (command [(0, 3), (16, 5), (24, 1)]) served) 0 5 = some (.cluster 0 5) ∧
    (byteAt (command [(0, 9)]) 0).toNat = 9 := by decide +kernel
theorem wit_LaunchCommand : let bs := command [(0, 1), (16, 5), (24, 8)]
    leAt bs 16 2 = 5 ∧ leAt bs 24 8 % 8 = 0 ∧ leAt bs 40 8 = 0 ∧
    (((begun bs loaded).image 0 5).pick 0).map (fun g => decide (8 < g.textLen)) = some true := by decide +kernel
theorem wit_CopyCommand : good (copyChecks (begun (command []) served) 0 (command [(0, 5), (18, 1), (40, 256)])) = true ∧
    (begun (command []) served).latent = .empty := by decide +kernel
theorem wit_Colaunch : let s := begun (command []) loaded
    bufDesc s 0 0 20 false true = .ok ⟨0x200000, 0x1000000, true⟩ ∧
    peek s 0 (0x200000 + 64) 64 24 = .ok (some (zeros 64)) ∧ (s.ctx 0).direct = false ∧
    branchFields (s.ctx 0) [command [(0, 5), (2, 1), (32, 1)]] 0 = .ok () ∧ (s.image 0 5).gens ≠ [] := by decide +kernel
theorem wit_ImageLoad : let s := begun (command []) (loaded.setImage 0 5 .none)
    (s.image 0 5).gens = [] ∧ good (peek s 0 0x200000 64 24) = true ∧ leAt (s.bytes 0x200000 64) 8 8 = 16 ∧
    leAt (s.bytes 0x200000 64) 48 4 = 0 ∧ good (imagePages s 0 0x200000 16 0) = true ∧ imageBytes 16 0 ≤ 0x1000000 := by
  decide +kernel
theorem wit_ImageLoad_digest : badHeader textImage = false ∧ imageDigest (textImage ++ zeros 16) 16 0 = (textImage.drop 16).take 32 := by
  decide +kernel
theorem wit_ImagePatch : let s := begun (command []) loaded
    let bs := command [(0, 7), (16, 5), (32, 1), (48, 4096)]
    firstBad (patchFields bs) = none ∧ ((s.image 0 5).pick 0).isSome = true ∧ good (patchTarget s 0 bs ⟨3, 0x200000, 16, 0, [], 0, [], .empty⟩) = true ∧
    nextGen (s.image 0 5) true = .ok 4 ∧ (∀ e ∈ patchEntries 1 (leBytes 16 8), e.1 % 8 = 0 ∧ e.1 < 16) := by decide +kernel
theorem wit_ImageRetire : (begun (command []) loaded).image 0 5 ≠ .none ∧
    (∀ g ∈ ((begun (command []) loaded).image 0 5).gens, g.pins = 0) := by decide +kernel

/-- A queue whose command works on `w`, started at edge 0. -/
def working (w : CmdWork) (s : State) : State :=
  withQueue (fun q => { q with cmd := some ⟨command [], 0, 0, false, 0, 0, [], w⟩ }) s
def branch0 : Branch := ⟨0, 5, 3, 0x200040, 0x200040, 16, 0, [0], 1, false⟩
def launch0 (startAt : Word) (assigned started isCo : Bool) : LaunchRun := ⟨[branch0], 0, startAt, 0, assigned, started, isCo⟩
theorem wit_LaunchProgress : let s := working (.launch (launch0 0 false false false)) loaded
    (s.ctx 0).resetRun = none ∧ s.ctxFenced 0 = false ∧ (s.ctx 0).hung = false ∧ (s.proc 2).down = false ∧
    earlierClaim s 0 0 [0] = false ∧ (s.core 0).seqState = .idle ∧ coreTaken s 0 = false ∧ (s.proc 3).down = false ∧
    ({ s with plumb := { s.plumb with now := 7 } } : State).plumb.now.toNat < (8 : Word).toNat := by decide
theorem wit_BranchComplete : let s := working (.launch (launch0 0 true true true)) (loaded.setCore 0
      { CoreSt.reset with launch := some { aLaunch with done := true } })
    ((launch0 0 true true true).branches.find? fun b => b.index == 0 && !b.done) = some branch0 ∧ branchOver s 0 branch0 = true := by
  decide
def aCopy : CopyRun := ⟨.dram 0x4000, .dram 0x8000, 64, Table.empty, 64, 0, none, false, .empty, .empty, .empty⟩
theorem wit_CopyCompletes : let s := working (.copy aCopy) served
    aCopy.outstanding = 0 ∧ s.upsets.network = none ∧ s.writeRefused aCopy.pages 0x8000 64 = false ∧ aCopy.failedAt = none ∧ aCopy.poisoned = false ∧ s.latent = .empty ∧ Memory.wf s.mem = true ∧
    s.poisonedVia aCopy.pages 0x4000 64 = false := by decide +kernel
/-- A completion of queue 0 waits in completion queue 0. -/
def anEntry : Cpl := ⟨0, 9, 1, 0, none, 16, 0, 0, 0, 0, 0, 0, false, true⟩
def completing (failed : Bool) : State :=
  (working .completing served).setCq 0 { Cq.reset with ctl := 0x41, waiting := [anEntry], failed := failed }
theorem wit_Completion : (completing false).cqs.get .reset 0 = { Cq.reset with ctl := 0x41, waiting := [anEntry] } ∧
    ((completing false).cq 0).enabled = true ∧ ((completing false).cq 0).full = false ∧
    takeEntry (completing false) [anEntry] = some (anEntry, []) ∧ hostOpen (completing false) = true ∧
    hostAllowed (completing false) 0 = true ∧ ((completing true).cq 0).failed = true ∧ freeOrphan (completing true) = some 0 := by
  decide
theorem wit_FetchFails : canStart served 0 = true ∧ (served.sq 0).inDram = false ∧ fetchRoom served 0 = true ∧
    (let s := withQueue (fun q => { q with ctl := 0x0000EA60_00001003, base := 0x4000 }) (served.write 0x4000 (zeros 64) fun _ => true)
     canStart s 0 = true ∧ (s.sq 0).inDram = true ∧ s.latent = .empty ∧ s.poisonedIn (s.sq 0).entryAddr 64 = true) := by decide +kernel
theorem wit_Timeout : let s := { working (.waitSem (.cluster 0 5) 5 1) served with clk := 72000000000 }
    ((s.sq 0).cmd.map fun r => r.unfinished) = some true ∧ (s.sq 0).state ≠ .hung ∧ 0 + (s.sq 0).timeout ≤ s.clk ∧
    (s.ctx 0).resetRun = none := by decide
def deadlocked : State :=
  let s := (runs fun v => { v with hold := .sem .wait (.cluster 0 5) 5 1 0 }).setCtx 0
    { die.ctx 0 with blockedSince := some 0 }
  { s with dlkCtl := s.dlkCtl.set dlkReset 0 0x101, plumb := { s.plumb with now := 1200 } }
theorem wit_Deadlock : (deadlocked.ctx 0).blockedSince = some 0 ∧ (deadlocked.ctx 0).deadlockFired = false ∧
    blocked deadlocked 0 = true ∧ (0 : Word).toNat + bitsAt (dlkOf deadlocked 0) 8 24 * 1200 ≤ deadlocked.plumb.now.toNat := by
  decide

/-! ### Control space -/

/-- What `Permitted` asks, as a Bool. -/
def permits (s : State) (ini : Initiator) (off : Nat) (v : Word) : Bool :=
  decide (actualInitiator s ini = ini) && iniUp s ini && (bootOwner (off / 4096)).isSome && owns s ini off true v &&
    (decide (ini = .security) || !writeClosed s (regAt off) v) && decide (v &&& Sys2Proof.Machine.res0 (regAt off) = 0)
theorem permitted_of (s : State) (ini : Initiator) (off : Nat) (v : Word) (h : permits s ini off v = true) :
    Permitted s ini off v := by
  simp only [permits, Bool.and_eq_true, Bool.or_eq_true, decide_eq_true_eq, Bool.not_eq_true'] at h
  exact ⟨h.1.1.1.1.1, h.1.1.1.1.2, h.1.1.1.2, h.1.1.2, h.1.2, h.2⟩

/-- A booted die: the PLL locked, the boot passed, the host link up. -/
def up (s : State) : State :=
  { hosted s with boot := { s.boot with pllLocked := true, phase := 7, done := true, running := false, result := 1 } }
def booted : State := up (withQueue id (maps die))
/-- The same before context 0 is enabled. -/
def fresh : State := up State.reset

theorem wit_ControlSpace : permits booted .host 0x0 0 = true ∧ bootOwner 9 = some 0 ∧ bootOwner 0x33 = none ∧
    owns booted .host 0x4000 true 0 = false ∧ owns booted .host 0x400000 true 0 = true ∧ (0 : Word) &&& Sys2Proof.Machine.res0 (regAt 0) = 0 ∧
    writeClosed (booted.setCtx 0 { booted.ctx 0 with gfeCtx := 0xC01 }) (.stbCtl 0) 0 = true ∧
    (0x100 : Word) &&& Sys2Proof.Machine.res0 (regAt 0x1000) = 0 ∧ (8 : Word) &&& Sys2Proof.Machine.res0 (regAt 0x1000) ≠ 0 := by decide
theorem wit_Refusal : bitAt State.reset.cspRfl 46 = false ∧ bitAt (noteRefusal .host 0x4000 true 1 booted).cspRfl 46 = true := by decide
/-- 21: the worked refusal of a host's write of TABLE_COMMIT as CSP_RFL keeps it. -/
theorem test_refusal : bitsAt (noteRefusal .host 0x5000 true 1 booted).cspRfl 0 28 = 0x5000 ∧
    bitsAt (noteRefusal .host 0x5000 true 1 booted).cspRfl 48 16 = 1 := by decide
theorem wit_Doorbell : permits booted .host (queueOff (some 0) 0x2000) 3 = true ∧ permits booted .host (queueOff none 0x2000) 3 = true ∧
    bitsAt (3 : Word) 0 16 < (booted.sq 0).size ∧ (booted.sq 0).state = .active := by decide
theorem wit_SqEnable : let s := booted.setCq 1 { Cq.reset with ctl := 0x41 }
    let v : Word := 0x0000EA60_00011001
    permits s .host (queueOff none (0x4008 + 32 * 1)) v = true ∧ bitsAt v 32 22 ≤ 3600000 ∧ bitsAt v 10 5 = 4 ∧
    (s.sq 1).enabled = false ∧ bitAt v 0 = true ∧ queueFits s { s.sq 1 with ctl := v } = true ∧
    permits s .host (queueOff none (0xC008 + 32 * 2)) 0x41 = true ∧ (s.cq 2).enabled = false := by decide
theorem wit_Resume : let s := booted.setSq 0 { booted.sq 0 with state := .halted }
    let t := booted.setSq 0 { booted.sq 0 with state := .stalledCpl }
    permits s .host (queueOff none 0x4018) 1 = true ∧ (s.sq 0).state = .halted ∧ (∀ r ∈ s.cores.rows, r.2.isStopped = true → False) ∧
    permits t .host (queueOff none 0x4018) 2 = true ∧ (t.sq 0).state = .stalledCpl ∧ Table.wf t.sqs .reset = true := by decide
theorem wit_GfeCtx : permits fresh .host (ctxOff 1 0) 0x11 = true ∧ queuesOf fresh 1 = [] ∧ bitsAt (0x11 : Word) 4 4 % 2 ^ 0 = 0 ∧
    clustersTaken fresh 1 { fresh.ctx 1 with gfeCtx := 0x11 } = false ∧ clustersBad fresh { fresh.ctx 1 with gfeCtx := 0x11 } = false ∧
    fresh.boot.result ≠ 2 ∧ fresh.boot.result ≠ 3 ∧ permits (up die) .host (ctxOff 0 0) 0x400 = true ∧
    ((up die).ctx 0).en = true ∧ contextBusy (up die) 0 = false := by decide
theorem wit_ContextRegisters : permits (up die) .host (ctxOff 0 0x1008) 0x010001 = true ∧ bitsAt (0x010001 : Word) 16 9 = 1 ∧
    bitsAt ((up die).ctx 0).semAllot 8 8 = 0 ∧ allotmentTaken (up die) 0 0x010001 = false ∧
    permits (up die) .host (ctxOff 0 0x1020) 0xA01 = true ∧ bitAt ((up die).ctx 0).jnlCtl 0 = false ∧ ((up die).ctx 0).resetRun = none ∧
    permits (up die) .host (ctxOff 0 0x1010) 1 = true ∧ permits (up die) .host (ctxOff 0 0x1010) 2 = true ∧
    permits (up die) .host (ctxOff 0 0x1010) 0xFF03 = true ∧ ((up die).ctx 0).hasCore 255 = true := by decide
/-- The security core owns page B of context 0, whose journal is on. -/
theorem wit_JournalEnable_refused : let s := { up (die.setCtx 0 { die.ctx 0 with jnlCtl := 0xA01 }) with
      own := Table.empty.set none 0x401 (some 0x00080002) }
    permits s .security (ctxOff 0 0x1020) 0xB01 = true ∧ bitAt (s.ctx 0).jnlCtl 0 = true ∧
    (0xB01 : Word) ≠ setBits (s.ctx 0).jnlCtl 0 1 0 := by decide
theorem wit_DieRegisters : permits booted .host 0x5000 0xA501 = true ∧ permits booted .power 0x1000 0x1400 = true ∧
    permits booted .host (coreOff 0 0x40) 0x0000000C00000101 = true ∧ coreSecret booted 0 = false ∧
    ((booted.core 0).engines.wf .reset = true) ∧ permits booted .host (coreOff 0 0x20) 1 = true ∧ (booted.core 0).seqState = .idle ∧
    Table.wf booted.atu.frm 0 = true ∧ permits booted .security 0x70000 (setBits (framesWord booted 0) 8 8 0x80) = true ∧
    permits booted .host 0x71000 0x40 = true ∧ booted.atu.invBusy = false ∧ booted.translationsHeld.any (inInvalidation booted) = false ∧ permits booted .security 0x4000 1 = true ∧
    permits booted .security 0x220000 1 = true := by decide
theorem wit_Flash : let s := booted.setFlashSlot 0 { FlashSlot.reset with addr := 0x4000, off := 0x1000000, sem := 0xFFFFFFFFFFFFFFFF }
    permits s .host 0x38000 0x10001 = true ∧ (s.flashSlot 0).run = none ∧ (s.ctx 0).en = true ∧ (s.ctx 0).conf = false ∧
    good (flashChecks s (s.flashSlot 0) 0x10001) = true ∧
    flashChecks s { s.flashSlot 0 with off := 0x7FFFFFFF } 0x10001 = .error () := by decide
theorem wit_Owner : iniUp booted .security = true ∧ field (ownEntry booted 0xC00).toNat 0 8 = 0x02 ∧ booted.sec.locked = false ∧
    ownLegal 0x70 0x0004_0002 = false ∧ ownLegal 0x70 0x0008_0002 = true := by decide
theorem wit_VfBind : let s := up State.reset
    permits s .host 0x31000 3 = true ∧ vfLocked s 1 = false ∧ (∀ j, j ≠ (1 : CtxId) → boundCtx s j ≠ some 1) ∧ boundCtx s 1 = none ∧
    queuesOf s 1 = [] := by decide
/-- A table sits staged and can be committed. -/
def staged : State := { booted with fab := { booted.fab with staged := ring } }
theorem wit_PortRegisters : permits staged .fabricManager 0x100000 0x00104000_50000121 = true ∧
    permits staged .fabricManager 0x100000 0x00104000_50000221 = true ∧ bitsAt (0x00104000_50000121 : Word) 16 24 ≠ 0xFFFFFF ∧
    bitAt (staged.port 0).ctl 0 = true ∧ permits staged .fabricManager 0x110010 0x0080_0100_0003_E801 = true ∧
    commitWhy staged = 0 ∧ commitWhy booted = 1 ∧ permits staged .host 0x36000 0 = true ∧ 0 < (staged.qp 0).size := by decide +kernel
theorem wit_PlumbRead : actualInitiator booted .host = .host ∧ iniUp booted .host = true ∧ readAllowed booted .host 0x2000 = true ∧
    booted.plumb.latches = [] ∧ sizeLegal 0x2000 8 = true ∧ sizeLegal 0x2001 2 = false ∧ boundCtx booted 2 = none ∧ (([(Initiator.host, (5 : BitVec 32))].find? fun r => r.1 == .host) = some (.host, 5)) := by decide
/-- The 24 bytes of an access: offset 0x110010, a write, its value. -/
def accessBytes : Bytes := leBytes 8 0x110010 ++ leBytes 8 1 ++ leBytes 8 0x100003E800
theorem wit_Managed : accessBytes.length = 24 ∧ leAt accessBytes 0 8 = 0x110010 ∧ leAt accessBytes 8 1 = 1 ∧
    leAt accessBytes 16 8 = (0x100003E800 : Word).toNat ∧ permits booted .fabricManager 0x110010 0x100003E800 = true ∧
    (writeField .fabricManager (regAt 0x110010) fullCover 0x100003E800 booted).isSome = true := by decide
theorem wit_Managed_by : let s := { booted with ethFm := true, fab := { booted.fab with active := Topo.reset } }.setEth 0 { EthPort.reset with up0 := true }
    let k := { Pkt.blank with ptype := 8, dstChip := ownChip booted, aux := 2, payload := accessBytes }
    let k := { k with crc := k.crcOf }
    delivered booted ptMgmt k = true ∧ k.crc = k.crcOf ∧ s.ethFm = true ∧ (s.ethPort 0).up0 = true ∧ (s.ctx 0).recording = false ∧
    fmAddress s = 0 ∧ booted.ethFm = false := by decide +kernel

/-! ### Resets, power and boot -/

theorem wit_Reset : let s := die.setCtx 0 { die.ctx 0 with resetRun := some ⟨.partition, [], 0⟩ }
    (s.ctx 0).resetRun = some ⟨.partition, [], 0⟩ ∧ tdiHolding s 0 = none ∧
    genRecent (die.setCtx 0 { die.ctx 0 with genAging := true }) ((die.setCtx 0 { die.ctx 0 with genAging := true }).ctx 0) = false ∧
    settling s 0 ⟨.partition, [], 0⟩ = false ∧ (die.ctx 0).resetRun = none ∧
    e2eEdges { die with clk := 120000000, rst := { die.rst with remoteHold := some 0 } } ≤ 120000000 := by decide
theorem wit_ChipReset : (∀ i < 4, (die.flashSlot i).run = none) ∧ powered die = true ∧ die.boot.phase ≠ 1 := by decide
theorem wit_Power : let dark := { die with pins := { die.pins with pwrEn := false } }
    let waits := { die with boot := { die.boot with waitResetN := true } }
    dark.pins.pwrEn = false ∧ die.pins.pwrEn = true ∧ die.pins.pwrGood = true ∧ powered die = true ∧ die.boot.running = true ∧
    die.boot.phase = 2 ∧ waits.boot.waitResetN = true := by decide
/-- Findings of a boot in which nothing is wrong. -/
def sound : BootFindings := ⟨5, false, [], [], false, none, none, [], false⟩
theorem wit_BootPhases : [1, 2, 3, 4, 5, 6, 7].all (fun n =>
      let s := { State.reset with boot := { State.reset.boot with phase := n, pllLocked := true } }
      powered s && s.boot.running && !s.boot.stopped && !s.boot.done) = true ∧ State.reset.fuses.variant ∈ [1, 2, 3] ∧
    State.reset.fuses.repair = [] ∧ Table.wf State.reset.fw.procs .reset = true ∧ sound.failedCores = [] := by decide
theorem wit_Clocks : let low := { die with ckg := { die.ckg with reqDiv := 12 } }
    let slow := { die with ckg := { die.ckg with curDiv := 24, curKeep := 1 } }
    (clockTarget low).2.below low.ckg.current = true ∧ slow.ckg.current.below (clockTarget slow).2 = true ∧
    slow.ckg.lastStep = none ∧ legalSetting die.ckg.reqDiv die.ckg.reqKeep = true ∧ powerCoreUp booted = true ∧
    powerRequest booted (decide (effectiveCap booted < 0)) 6 20 = true ∧ powerRequest booted (decide (effectiveCap booted < 9999)) 12 20 = true ∧
    2 ≤ die.power.duty ∧ die.power.duty ≤ 8 ∧
    (let t := { booted with clk := 1200000000, power := { booted.power with emergency := true } }
     emergencyHolds t = false ∧ t.power.emergency = true ∧ t.power.lastEmergency + 1200000000 ≤ t.clk) := by decide
theorem wit_ThermalLoop : let s := { booted with power := { booted.power with compMax := 1001 } }
    powerCoreUp s = true ∧ 1000 < s.power.compMax ∧ legalSetting 12 20 = true ∧ s.power.thmReq = none ∧
    (⟨12, 20⟩ : Setting).below ⟨s.ckg.reqDiv, s.ckg.reqKeep⟩ = true := by decide
theorem wit_TripClear : let s := { die with clk := 120000000, ckg := { die.ckg with trip := true }, power := { die.power with coolSince := some 0 } }
    s.power.coolSince = some 0 ∧ s.ckg.trip = true ∧ 0 + 120000000 ≤ s.clk := by decide
theorem wit_Sensors : let r : SensorReadings := { compute := List.replicate 64 500, memory := List.replicate 16 400, inputMv := 54000, inputMa := 0 }
    r.compute.length = 64 ∧ r.memory.length = 16 ∧ die.pins.pwrGood = true := by decide
theorem wit_Feather : let s := runs fun v => v.setEngine 0 { v.engine 0 with feather := .steady 8 }
    ((s.core 0).engine 0).feather = .steady 8 ∧ bitAt s.power.fthCtl 0 = true ∧ bitsAt s.power.fthCtl 32 8 ≠ 0 ∧
    bitsAt s.power.fthCtl 20 8 ≠ 0 ∧ ((s.core 0).engine 0).upset = none ∧
    (((runs fun v => v.setEngine 0 { v.engine 0 with feather := .rampUp 7 }).core 0).engine 0).feather = .rampUp 7 ∧
    (((runs fun v => v.setEngine 0 { v.engine 0 with feather := .rampDown 1 }).core 0).engine 0).feather = .rampDown 1 := by decide
theorem wit_Journal : let s := { die with clk := 1200 }.setCtx 0 { die.ctx 0 with jnlCtl := 0xA01, jnlRun := some ⟨0, 64, zeros 64, false, 0⟩ }
    (s.ctx 0).jnlRun = some ⟨0, 64, zeros 64, false, 0⟩ ∧ 0 + 1200 ≤ s.clk ∧ (s.ctx 0).jnlFull = false ∧
    s.textPage (((s.ctx 0).jnlAt + 64 * (s.ctx 0).jnlTail) / 0x200000) = false ∧ Memory.wf s.mem = true ∧ (zeros 32).length = 32 := by
  decide
theorem wit_FlashComplete : let r : FlashRun := ⟨false, 0, 1, 0x4000, 7, none, Table.empty⟩
    let s := die.setFlashSlot 0 { FlashSlot.reset with run := some r }
    (s.flashSlot 0).run = some r ∧ s.latent = .empty ∧ r.addr % 4096 = 0 ∧ Table.wf s.flashMem 0 = true ∧
    Table.wf s.flashBad false = true ∧ s.poisonedVia r.pages r.addr (4096 * r.units) = false := by
  decide +kernel

/-! ### The host port, the trusted interfaces, attestation -/

/-- A die whose host window is open, with the whole device mapped. -/
def windowed : State := { booted with host := { booted.host with hdmSize := 0x18000000000 } }
theorem wit_HostWindow : (0x017FFFFFFFFF : Nat) < 0x018000000000 ∧ hdmDecodes windowed 0x017FFFFFFFFF = true ∧
    hdmRefused windowed none 0x40 false = false ∧ windowed.latent = .empty ∧ Memory.wf windowed.mem = true ∧
    (∀ k, frameCtx windowed 0x40 = some k → (windowed.ctx k.val).recording = false) ∧
    hdmRefused (windowed.setCtx 0 { windowed.ctx 0 with gfeCtx := 0xC01 }) none 0x40 true = true ∧
    hdmLegal 0x40000000 0x40000000 = true ∧ (5 : CtxId) ≠ 0 ∧ (∀ vf, vfLocked windowed vf = false) := by decide
theorem wit_Msix : let s := { booted with host := { booted.host with msixOn := Table.empty.set false 0 true, msixPending := Table.empty.set false 7 true } }
    hostOpen s = true ∧ s.host.msixOn.get false 0 = true ∧ s.host.msixPending.get false (1024 * 0 + 7) = true := by decide
theorem wit_HostAnswers : let s := { booted with host := { booted.host with writes := [⟨3, 0, .completion 0, 0⟩], nextWrite := 4 } }
    findWrite s 3 = some ⟨3, 0, .completion 0, 0⟩ ∧ 0 + 12000000 ≤ s.clk := by decide
theorem wit_ReadSlot : let s := booted.setSlot 4 { ReadSlot.reset with gen := 1, use := some (.copyLine 0 0 0 1) }
    (s.slot (((1 * 512 + 4 : Nat)) % 512)).gen = 1 ∧ (s.slot 4).use = some (.copyLine 0 0 0 1) ∧ 0 + 12000000 ≤ s.clk := by decide
theorem wit_HostLink : booted.host.up = true ∧ State.reset.host.up = false ∧ powered booted = true ∧ booted.boot.pllLocked = true ∧
    booted.pins.perstN = true ∧
    (let s := { booted with clk := 1200000000, host := { booted.host with up := false } }
     canTrain s = true ∧ s.host.trainClk + 1200000000 ≤ s.clk) := by decide
/-- VF 1 is bound to context 0, in state `x` of its TDI, the context being confidential if `conf`. -/
def bound (x : TdiState) (conf : Bool) : State :=
  let s := { booted with host := { booted.host with vfMap := Table.empty.set 0 1 1, ideLink := true, ideCm := true } }
  let s := s.setCtx 0 { s.ctx 0 with gfeCtx := if conf then 0xC01 else 0x401 }
  ({ s with sec := { s.sec with tdiCtx := Table.empty.set none 1 (some 0) } }.setTdi 1 x).setSq 0 Sq.reset
theorem wit_VfFlr : boundCtx (bound .run true) 1 = some 0 ∧ ((bound .run true).ctx 0).en = true ∧
    ((bound .run true).ctx 0).conf = true ∧ (bound .run true).tdi 1 = .run ∧ ((bound .unlocked false).ctx 0).conf = false := by decide
theorem wit_Tdi : doeUp (bound .unlocked false) = true ∧ (bound .unlocked false).tdi 1 = .unlocked ∧
    lockable (bound .unlocked false) 0 = true ∧ tdiContext (bound .locked false) 1 = some 0 ∧ (bound .locked false).tdi 1 = .locked ∧
    (bound .locked false).host.ideLink = true ∧ Table.wf (bound .locked false).sec.tdi .unlocked = true ∧
    Table.wf (bound .locked false).sec.tdiCtx none = true := by decide
theorem wit_TdiError : let s := bound .run true
    let t := { s with host := { s.host with ideCm := false } }
    tdiContext t 1 = some 0 ∧ t.tdi 1 = .run ∧ tdiBroken t 0 = true ∧ (t.ctx 0).conf = true := by decide
/-- A negotiated DOE transport, with session 0 as `x`. -/
def negotiated (x : SessionState) (s : State) : State :=
  setSession 0 x (s.setConn .doe ⟨true, true, true, [1, 2], 9⟩)
theorem wit_Attestation : spdmUp (negotiated .closed booted) .doe = true ∧ ((negotiated .closed booted).conn .doe).algorithms = true ∧
    ((negotiated .closed booted).conn .doe).large ≠ [] ∧ (booted.conn .doe).algorithms = false ∧
    (negotiated (.handshake .doe) booted).session 0 = .handshake .doe ∧
    (negotiated (.established .doe) booted).session 0 = .established .doe ∧
    (List.range 4).find? (fun i => (negotiated .closed booted).session i == .closed) = some 0 ∧
    Table.wf (negotiated (.established .doe) booted).sec.sessions .closed = true ∧ (zeros 32).length = 32 ∧ (zeros 96).length = 96 := by
  decide
theorem wit_Measurement : (measurement booted 0x11).isSome = true ∧ (measurement booted 1).isSome = true := ⟨rfl, rfl⟩
theorem wit_Ide : (negotiated (.established .doe) booted).sec.sessions.get .closed 0 = .established .doe ∧
    ((negotiated (.established .doe) booted).proc 0).down = false ∧ (negotiated (.established .doe) booted).host.up = true := by
  decide
/-- A record of context 0 stands in the ring. -/
def logged : State := logError { cause := 0x17, sev := 0, names := some 0 } (negotiated (.established .doe) (bound .run true))
theorem wit_Tvm : doeUp logged = true ∧ boundCtx logged 1 = some 0 ∧ (logged.ctx 0).conf = true ∧
    (.established .doe) ∈ logged.sec.sessions.rows.map (·.2) ∧ ptbCheck logged 0 1 = .ok ∧
    frameOwned logged 0 (bitsAt (1 : Word) 18 23 * 0x40000) = true ∧ logged.latent = .empty ∧ boundCtx logged 2 = none := by decide +kernel

/-! ### Firmware, sideband, background checks -/

/-- Processor `m` holds a request of code `op` with argument bytes `arg` from offset 8. -/
def requested (m op : Nat) (arg : Bytes) (s : State) : State :=
  let bytes := leBytes 8 op ++ arg ++ zeros (56 - arg.length)
  s.setProc m { s.proc m with busy := true, req := Table.ofFn 64 0 fun i => byteAt bytes i }
theorem wit_Requests : let s := requested 0 0x10 (leBytes 2 5 ++ leBytes 2 3 ++ leBytes 1 0) booted
    powered s = true ∧ s.latent = .empty ∧ (s.proc 0).busy = true ∧ (s.proc 0).heldDb = false ∧ (s.proc 0).down = false ∧
    (s.proc 0).sound = true ∧ (s.proc 0).op = 0x10 ∧ (s.proc 0).arg 8 2 = 5 ∧ (s.proc 0).arg 10 2 = 3 ∧ (s.proc 0).arg 12 1 = 0 ∧
    framesInUse s 5 3 (fun _ => 0x80) = false ∧ framesInUse s 5 3 (fun b => b &&& 0x7F) = false ∧
    frameShut s 0 = false ∧ frameStopping s 0 = false ∧ (List.range' 5 3).all (fun f => frameCtx s (f * 0x40000000) == none) = true ∧
    s.atu.frm.wf 0 = true := by decide
theorem wit_FwStage : let s := requested 0 0x18 (leBytes 8 1 ++ leBytes 8 0x40000000 ++ leBytes 8 4096) booted
    (s.proc 0).op = 0x18 ∧ (s.proc 0).arg 8 1 = 1 ∧ (s.proc 0).arg 24 8 = 4096 ∧ looseExtent s 0x40000000 4096 = true ∧
    activating s 1 = false := by decide
theorem wit_SvnRaise : let s := (requested 0 0x1B (leBytes 1 2) booted).setComponent 1 { Component.reset with runSvn := 2 }
    (s.proc 0).arg 8 1 = 2 ∧ s.fuses.svnFloor < 2 ∧ 2 ≤ (s.component 1).runSvn ∧ s.power.emergency = false := by decide
theorem wit_OwnerSet : let s := requested 0 0x1C (zeros 8 ++ leBytes 8 0x40000000 ++ leBytes 8 3740) booted
    (s.proc 0).op = 0x1C ∧ (s.proc 0).arg 24 8 = 3740 ∧ looseExtent s ((s.proc 0).arg 16 8) 3740 = true ∧
    (s.ctx 0).conf = false ∧ s.poison = .empty := by decide
theorem wit_SetCap : ((requested 1 0x20 (leBytes 2 500) booted).proc 1).arg 8 2 = 500 ∧ 500 ≤ variantWatts booted.fuses.variant := by decide
theorem wit_Firmware : let s := { booted with clk := 24000000 }
    (s.proc 4).down = false ∧ (s.proc 4).lastKick + 8 * 1200000 ≤ s.clk ∧ s.fw.activation = none ∧ s.fw.procs.wf .reset = true ∧
    (let t := s.setProc 4 { s.proc 4 with down := true, downClk := 0, fails := [20000000] }
     (t.proc 4).down = true ∧ (t.proc 4).live = false ∧ (t.proc 4).downClk + 20 * 1200000 ≤ t.clk ∧
     (∃ n ∈ (t.proc 4).fails, t.clk < n + 10000 * 1200000)) := by decide
theorem wit_Activate : let s := (requested 0 0x19 (leBytes 1 2) booted).setComponent 2 { Component.reset with bank := .staged }
    (s.proc 0).op = 0x19 ∧ (s.proc 0).sound = true ∧ s.fw.activation = none ∧ s.power.emergency = false ∧
    (List.range' 1 7).filter (fun k => (s.component k).bank == .staged) = [2] ∧ sidebandUp s = true ∧
    s.boot.recovery = false ∧ s.fw.updating = false ∧ { s.fw with updating := true }.updating = true ∧ (s.proc 1).down = false := by decide

theorem wit_Sideband : busUp booted = true ∧ sidebandUp booted = true ∧ booted.pins.i3cAddr = none := by decide
/-- This chip is the gateway of the ring, the fabric manager has an address, and port 0 of Ethernet is up. -/
def telling : State :=
  let s := fabric { booted with ethFm := true }
  let s := { s with fab := { s.fab with active := { ring with topm := 0x00000000 } } }
  s.setEth 0 { EthPort.reset with ctl := 0x1010801, up0 := true }
theorem wit_Notice : gateway telling = ownChip telling ∧ ethUp telling 0 = true ∧ ownChip telling ≠ 0xFFFF ∧ telling.ethFm = true ∧
    (telling.ethPort 0).ctl.getLsbD 24 = true ∧ (telling.ethPort 0).up0 = true ∧ (telling.ethPort 0).paused.getLsbD 1 = false ∧
    (telling.ethPort 0).telClk + (telling.ethPort 0).ctl.toNat / 2 ^ 16 % 256 * 1200000 ≤ telling.clk := by decide
theorem wit_Rotor : booted.bst.intCtl.getLsbD 3 = false ∧ booted.boot.done = true ∧ 4 * (0 : CoreId).val + (0 : EngId).val = booted.bst.engNext ∧
    booted.bst.engDue ≤ booted.clk ∧ unitInReset booted (.engine 0 0) = false ∧ booted.bst.stkDue ≤ { booted with clk := 38400000 }.clk := by decide
theorem wit_RotorVisit : let s := { booted with clk := 240000000, bst := { booted.bst with due := [(.vector 3, 0, false)] } }
    s.bst.due = [] ++ (.vector 3, 0, false) :: [] ∧ unitInReset s (.vector 3) = false ∧
    (∀ v ∈ s.bst.visiting, sameLimit v.1 (.vector 3) = false) ∧ 0 + 100 * 1200000 < s.clk ∧
    (let t := { booted with bst := { booted.bst with visiting := [(.vector 3, true)] } }
     t.bst.visiting = [] ++ (.vector 3, true) :: [] ∧ visitCore (.vector 3) = some 3 ∧ (t.core 3).hold = .none ∧
     ((t.setCore 3 { t.core 3 with hold := .visit (.vadd 3 1 2 3 1) }).core 3).hold = .visit (.vadd 3 1 2 3 1)) := by decide
theorem wit_Background : let w : ErrWindow := ⟨0x10, 9, 0, 0, 0, 0, zeros 64, 0, 2⟩
    let s := { booted with sec := { booted.sec with locked := true, ownUpset := some 0x70 }, err := { booted.err with windows := [w] } }
    s.sec.ownUpset = some 0x70 ∧ s.sec.locked = true ∧ (s.proc 0).down = false ∧ s.err.windows[0]? = some w ∧
    w.opened + 1200000 ≤ s.clk ∧ portsRun s = true ∧ powered s = true := by decide
theorem wit_Hawk : let h := { Hawk.reset with ended := true, dual := true }
    h.writePtr = h.writeCopy ∧ h.readPtr = h.readCopy ∧ h.ended = true ∧ h.drain.length ≤ h.readPtr ∧ h.drained = h.recorded ∧
    ({ h with recorded := 1 } : Hawk).drained ≠ 1 ∧ ({ h with readCopy := 1 } : Hawk).readPtr ≠ 1 ∧
    ({ h with drain := [⟨5, false⟩] } : Hawk).drain[h.readPtr]? = some ⟨5, false⟩ ∧ ({ h with ctxs := [3] } : Hawk).ctxs = [3] := by decide
theorem wit_Record : (ctxRecord logged 0 0).isSome = true := by decide +kernel

/-! ### Links -/

/-- Port 0 as `f` changes it, on a booted die in the ring. -/
def linked (f : Port → Port) : State := (fabric booted).setPort 0 (f ((fabric booted).port 0))
theorem wit_Training : (booted.port 0).state = .detect ∧ booted.ports.wf .reset = true ∧ laneCount 0xFF = 8 ∧ laneCount 0x7F = 7 ∧
    (booted.port 0).trainClk + 250 * 1200000 ≤ { booted with clk := 300000000 }.clk ∧ booted.boot.done = true ∧
    ((linked fun x => { x with state := .down }).port 0).ctl.getLsbD 0 = true ∧
    (let x := (linked fun x => { x with state := .fastRetrain, cameFrom := .active }).port 0
     x.state = .fastRetrain ∧ x.queued = [] ∧ x.owes = false ∧ x.pendCross = false ∧ x.pendSwitch = false ∧ x.pendRefresh = false ∧
     x.trainClk + 40 * 1200 ≤ booted.clk) := by decide
/-- The record of chip 1.0.0's port 0 in the ring. -/
def aRecord : IdRecord := ⟨0x0400, 0, 1, 1, 2, true, 9⟩
theorem wit_Identity : let s := linked fun x => { x with state := .identify, haveRecord := false }
    (s.port 0).state = .identify ∧ (s.port 0).haveRecord = false ∧ aRecord.chipId ≠ ownChip s ∧
    max 1 aRecord.verMin.toNat ≤ min (s.port 0).verOffer aRecord.verMax.toNat ∧ frameRecord (recordFrame aRecord) = some aRecord ∧
    frameRecord [] = none ∧ (s.port 0).pendCross = false ∧ (s.port 0).pendSwitch = false ∧ (s.port 0).pendRefresh = false ∧
    ((linked fun x => { x with nonce := 9, record := some aRecord }).port 0).nonce = aRecord.bootNonce := by decide +kernel
/-- The group with number 0 that acknowledges group 4, with a stream of zeros, and port 0 that awaits it. -/
def aGroup : FlitGroup :=
  let body := zeros 5088 ++ (leBytes 2 0 ++ leBytes 2 4 ++ leBytes 1 1 ++ zeros 7) ++ zeros 16
  ⟨body ++ leBytes 4 (crc32 body).toNat, [], [(3, 1)]⟩
def awaiting : State := linked fun x => { x with replay := [⟨4, [], []⟩, ⟨5, [], []⟩] }
theorem wit_FlitGroup : awaiting.ports.wf .reset = true ∧ (awaiting.port 0).state = .active ∧ (∀ c ∈ aGroup.codewords, c.2 ≤ 15) ∧
    (awaiting.port 0).sealed = false ∧ (awaiting.port 0).queued = [] ∧ (awaiting.port 0).credits.wf 0 = true ∧
    (awaiting.port 0).replay = [] ++ ⟨4, [], []⟩ :: [⟨5, [], []⟩] ∧ (awaiting.port 0).replay.length < 1024 ∧
    (awaiting.port 0).failCount < 7 ∧ (awaiting.port 0).fastTimes = [] ∧ (awaiting.port 0).replay ≠ [] ∧
    (awaiting.port 0).nakSent = false ∧ (awaiting.port 0).owes = false ∧
    (awaiting.port 0).lastAckClk + 2 * 1200 ≤ awaiting.clk := by decide
set_option maxRecDepth 20000 in
theorem wit_FlitGroup_frame : aGroup.crcOk = true ∧ aGroup.trailer.seq = (awaiting.port 0).rxSeq ∧ aGroup.trailer.ack = 4 ∧
    aGroup.trailer.ackValid = true ∧ aGroup.trailer.verdict = (awaiting.port 0).peerVerdict ∧
    ({ aGroup with bytes := zeros 5120 } : FlitGroup).crcOk = false := by decide +kernel
theorem wit_SealedGroup : let x := (linked fun x => { x with sealed := true, failCount := 7, tagFailed := true }).port 0
    x.sealed = true ∧ x.nextRx = false ∧ x.rxPhase = false ∧ x.tagFailed = true ∧ 7 ≤ x.failCount := by decide
theorem wit_Thresholds : let s := { linked fun x => { x with retryCount := 65, ueCount := 17 } with plumb := { Plumb.reset with now := 1200000000 } }
    (∀ l < 17, (s.port 0).laneCe.get 0 l ≤ (s.port 0).ctl.toNat / 2 ^ 16 % 2 ^ 24) ∧ s.plumb.now.toNat / 1200000 ≠ (s.port 0).msWindow ∧
    (s.port 0).ctl.toNat / 2 ^ 40 % 256 < (s.port 0).retryCount ∧ (s.port 0).ctl.toNat / 2 ^ 48 % 256 < (s.port 0).ueCount ∧
    s.plumb.now.toNat / 1200000000 ≠ (s.port 0).secondWindow ∧ (s.port 0).laneCe.wf 0 = true ∧ (s.port 0).laneOver.wf 0 = true ∧
    (let x := (linked fun x => { x with laneCe := Table.empty.set 0 3 0xFFFFFF, laneOver := Table.empty.set 0 3 2 }).port 0
     x.ctl.toNat / 2 ^ 16 % 2 ^ 24 < x.laneCe.get 0 3 ∧ x.laneOver.get 0 3 = 2 ∧ x.laneCe.wf 0 = true ∧ x.laneOver.wf 0 = true) := by decide
/-- A body of 24 bytes of message `m`, in one fragment. -/
def aFragment (m : Nat) : List Bytes := [leBytes 1 m ++ zeros 3 ++ leBytes 2 1 ++ zeros 26]
theorem wit_Keys : let s := linked fun x => { x with sealed := true, agreement := .awaitM2, record := some aRecord, nextTx := true }
    (s.proc 0).down = false ∧ s.ports.wf .reset = true ∧ s.sec.keys.wf false = true ∧ (s.port 0).agreement = .awaitM2 ∧
    (s.port 0).state ≠ .identify ∧ keyBody 1 (aFragment 1) = some (zeros 24) ∧ keyBody 2 (aFragment 2) = some (zeros 24) ∧
    keyBody 3 (aFragment 3) = some (zeros 24) ∧ (ownChip s).toNat < aRecord.chipId.toNat ∧ (s.port 0).nextTx = true ∧
    (s.port 0).queued = [] ∧ (s.port 0).owes = false ∧ (s.port 0).txGroups < 2 ^ 36 ∧ s.fuses.svnFloor ≤ 0 ∧
    (s.port 0).pendCross = false ∧ (s.port 0).keyBytes.wf [] = true ∧ (s.port 0).salts.wf [] = true := by decide

/-! ### The fabric, messages, plumb time -/

/-- A packet of type `t` to chip `d` from chip 1.0.0 in job 7, with its CRC. -/
def packet (t : Fin 16) (d : BitVec 16) (payload : Bytes) : Pkt :=
  let k := { Pkt.blank with ptype := t, dstChip := d, srcChip := 0x0400, job := 7, msgId := 2, payload := payload }
  { k with crc := k.crcOf }
theorem wit_Route : typeVc (packet 3 0x0400 []).ptype = some 0 ∧ candidates remote 0x0400 0 = some [0] ∧
    ([0] : List PortId).Pairwise (fun a b => a < b) ∧ firstAxis remote 0x0400 ≠ none ∧
    choosePort remote none (packet 3 0x0400 []) = some (0, 0, false) ∧ choosePort moves none (packet 3 0x0400 []) = none ∧
    typeVc 12 = none ∧ firstAxis remote 0 = none ∧ (remote.port 0).forData = true ∧ remote.ports.wf .reset = true ∧
    (let x := (remote.setPort 0 { remote.port 0 with credits := Table.empty.set 0 0 1, arrived := [packet 3 0 []] }).port 0
     x.queued = [] ∧ x.credits.wf 0 = true ∧ x.state = .active ∧ (packet 3 0x0400 []).units ≤ x.creditFor 0 0 ∧ x.groupRoom ≠ 0 ∧
     x.arrived = packet 3 0 [] :: [] ∧ x.freed.wf 0 = true) ∧
    (remote.port 0).creditFor 0 0 < (packet 3 0x0400 []).units ∧ (remote.port 0).owes = false := by decide +kernel
theorem wit_Discard : let k := { packet 7 0 [] with crc := 0 }
    let s := remote.setPort 0 { remote.port 0 with routeClk := some 24000000 }
    k.crc ≠ k.crcOf ∧ firstAxis remote k.dstChip = none ∧ (s.port 0).routeClk = some 24000000 ∧ s.clk < 24000000 + 1200000 ∧
    s.fab.entries.get none 0 = none := by decide +kernel
theorem wit_PeerDown : let k := { packet 8 0 [0, 4] with aux := 4 }
    let k := { k with crc := k.crcOf }
    k.ptype = 8 ∧ k.aux = 4 ∧ k.crc = k.crcOf ∧ firstAxis remote k.dstChip = none ∧ remote.fab.ops = [] ∧
    remote.ports.wf .reset = true ∧ remote.fab.entries.wf none = true ∧ remote.fab.peerDown.get none 0 = none := by decide +kernel
/-- An operation of core 0 to chip 1.0.0, in phase `x`. -/
def anOp (x : RemotePhase) : RemoteOp :=
  ⟨2, 0, 0, 0, 0, .copy, 0x0400, 7, 0, w32, w32b, .empty, none, noSemName, x, 0, 0, .empty, 0, false⟩
def sending (x : RemotePhase) : State := { remote with fab := { remote.fab with ops := [anOp x] } }
theorem wit_Source : replyOp (sending .opened) (packet 1 0 []) = some (anOp .opened) ∧
    (packet 1 0 []).crc = (packet 1 0 []).crcOf ∧ firstAxis (sending .opened) 0 = none ∧
    replyOp (sending (.granted 3)) (packet 6 0 []) = some (anOp (.granted 3)) ∧ replyOp remote (packet 4 0 []) = none ∧
    remote.fab.active.entryOfJob 7 = some 0 ∧ anOp .busy ∈ (sending .busy).fab.ops ∧
    (∀ x ∈ (sending .busy).fab.ops, x.msgId = 2 → x = anOp .busy) ∧ (anOp .busy).discarded (sending .busy) = false ∧ (anOp .busy).openClk + 2 * 1200 ≤ 24000000 := by decide +kernel
/-- An OPEN for three rows of the cluster store. -/
def anOpen : Pkt := packet 0 0 ((tile .bf16 0x200000001000 3 32).image ++ leBytes 8 5 ++ zeros 24)
theorem wit_Open : good (openChecks remote 0 { anOpen with pktTotal := 3 }) = true ∧ remote.fab.entries.wf none = true ∧
    remote.ctxFenced 0 = false ∧ shutToChips remote 0 = false ∧ (remote.ctx 0).conf = false ∧
    remote.fab.active.entryOfJob 9 = none ∧ frontSem remote 0 5 = some (.cluster 0 5) ∧ frontSem remote 0 0xC000 = none ∧
    outsideBox remote 7 0x0400 = false := by decide +kernel
/-- The entry that it takes, with `done` packets accepted. -/
def anEntryOf (done : List Nat) : MsgEntry :=
  ⟨0x0400, 0, 2, 7, 0, false, tile .bf16 0x200000001000 3 32, .empty, some (.cluster 0 5), 5, 3, done, .empty, false, false, false,
   [], 0⟩
def receiving (done : List Nat) : State :=
  { remote with fab := { remote.fab with entries := Table.empty.set none 0 (some (anEntryOf done)) } }
theorem wit_Data : let k := { packet 3 0 (zeros 64) with pktTotal := 3, pktIndex := 1, dstAddr := 0x200000001040 }
    (receiving []).fab.entries.get none 0 = some (anEntryOf []) ∧ (anEntryOf []).srcChip = k.srcChip ∧
    (anEntryOf []).total = k.pktTotal.toNat ∧ k.pktIndex.toNat < 3 ∧
    (∃ r ∈ (anEntryOf []).desc.runs, r.1 ≤ 0x200000001040 ∧ 0x200000001040 + 64 ≤ r.1 + r.2) ∧
    (anEntryOf [0, 1, 2]).accepted.length = (anEntryOf [0, 1, 2]).total ∧ shutToChips (receiving []) 0 = false := by decide
/-- Chip 2.0.0 is the master; a frame from it has come by port 0. -/
def timed : State :=
  let s := linked fun x => { x with plumb := some ⟨⟨5, 0, 0, 0, true, 0x0800⟩, 5, 24000000⟩ }
  { s with fab := { s.fab with active := { ring with topm := 0x0000FFFF_00000800 } }, plumb := { s.plumb with valid := true } }
theorem wit_Plumb : (timed.port 0).state = .active ∧ timed.ports.wf .reset = true ∧ masterChip timed = 0x0800 ∧
    isRoot timed = false ∧ (timed.port 0).plumb.isSome = true ∧ parentFrame timed 0 ≠ none ∧
    (∀ q : PortId, q ≠ 0 → parentFrame timed q = none) ∧ parentFrame { timed with clk := 24012001 } 0 = none ∧
    (timed.port 0).plumbSent = none ∧ isPlumb (linkPkt timed 0 1 (plumbPayload ⟨5, 0, 0, 0, true, 0x0800⟩)) = true ∧
    masterChip booted = 0xFFFF := by decide +kernel
theorem wit_Master : let s := { timed with fab := { timed.fab with active := { ring with topm := 0x0000FFFF_00000000 } }, plumb := { Plumb.reset with commitClk := some 0 } }
    s.plumb.commitClk = some 0 ∧ 0 + 100 * 1200 ≤ s.clk ∧ isMaster s = true ∧ s.plumb.valid = false ∧ s.plumb.heardValid = false := by
  decide

/-! ### Ethernet and RoCE -/

/-- Queue pair 0 of context 0: its ring of 16 entries lies at 0x100000, and entry 0 is a request of code `op` for 64 bytes
at 0x4000. -/
def paired (op : Nat) : State :=
  let s := booted.write 0x100000 (leBytes 8 op ++ leBytes 8 0x4000 ++ leBytes 8 64) fun _ => false
  let bytes := leBytes 40 1 ++ leBytes 8 0x100000 ++ leBytes 1 4
  (s.setQp 0 { Qp.reset with bytes := Table.ofFn 64 0 (byteAt bytes), tail := 1 }).setEth 0 { EthPort.reset with up0 := true }
theorem wit_Ethernet : portsRun (paired 0) = true ∧ ((paired 0).ethPort 0).ctl.getLsbD 0 = true ∧
    ((paired 0).ethPort 0).ctl.getLsbD 11 = true ∧ ((paired 0).ethPort 0).up0 = true ∧ ((paired 0).ethPort 0).up1 = false ∧
    (paired 0).eth.wf .reset = true ∧ ((paired 0).ethPort 0).waiting = [] := by decide
theorem wit_WorkRequest : ((paired 0).qp 0).valid = true ∧ (headReq (paired 0) 0 0).map (fun r => (r.len, r.laddr)) = some (64, 0x4000) ∧
    (headReq (paired 3) 0 3).isSome = true ∧ qpCanSend (paired 0) ((paired 0).qp 0) = true ∧ (paired 0).latent = .empty ∧
    (localPages (paired 2) 0 ⟨2, false, 0x4000, 64, [], false⟩ 64 { w := true }).isSome = true ∧
    (paired 0).qps.wf .reset = true ∧ ((paired 0).qp 0).sendAt ≤ (paired 0).clk ∧ ((paired 0).qp 0).cnpClk = none ∧
    ((paired 0).qp 0).upper = false ∧ ((paired 0).ethPort 0).paused = 0 ∧
    ((paired 0).ctx 0).recording = false ∧ ((paired 0).qp 0).err = false ∧ (paired 0).ctxFenced 0 = false := by decide +kernel
theorem wit_Completions : let s := (paired 0).setQp 0 { (paired 0).qp 0 with ended := [(0, 1)] }
    (s.qp 0).valid = true ∧ (s.qp 0).ended = (0, 1) :: [] ∧ (entryMap s (s.qp 0) 0).isSome = true ∧ 1 < (s.qp 0).rate ∧
    ((workReq s (s.qp 0) 0).map fun r => r.sig) = some false := by decide +kernel

/-! ### Instruction words -/

theorem wit_IllegalWord : field 0x3101_1400_4020_0603 60 4 = 0x3 ∧ field 0x3101_1400_4020_0603 52 8 = 0x10 ∧
    Fmt.ofCode (field 0x3101_1400_4020_0603 0 4) = some .bf16 ∧ field 0x3101_1400_4020_0603 10 1 = 1 := by decide
theorem wit_Words : (Instr.mma 0 1 2 32 5 .e4m3 .g16 false).wf = true ∧
    encodeFz (.mma 0 1 2 32 5 .e4m3 .g16 false) = some 0x3101_1400_4020_0204 ∧
    decodeFz 0 0x3101_1400_4020_0204 = .ok (.mma 0 1 2 32 5 .e4m3 .g16 false) := by decide
theorem wit_Canonical : State.reset.canonical = true ∧ good (match step State.reset with | .next t => Except.ok (ε := Unit) t | _ => .error ()) = true := by
  decide

end Sys2Proof.Tests
end

section
/-! PROOFS. The 32-byte image of a tile descriptor: what its fields say, that the image TDST writes parses as the
descriptor it was written from, and the fault of an empty register (07 R192, R193). -/

namespace Sys2Proof

theorem field_lt (v lo n : Nat) : field v lo n < 2 ^ n := Nat.mod_lt _ (Nat.two_pow_pos n)

/-- The bytes of a number spell it, cut to their width. -/
theorem leNat_leBytes (n v : Nat) : leNat (leBytes n v) = v % 256 ^ n := by
  induction n generalizing v with
  | zero => simp [leBytes, leNat, Nat.mod_one]
  | succ n ih => rw [leBytes, leNat, ih, Nat.pow_succ', Nat.mod_mul, BitVec.toNat_ofNat]

theorem Fmt.code_lt (f : Fmt) : f.code < 16 := by cases f <;> decide

theorem Fmt.ofCode_code (f : Fmt) : Fmt.ofCode f.code = some f := by cases f <;> rfl

theorem Fmt.code_of_ofCode {n : Nat} {f : Fmt} (h : Fmt.ofCode n = some f) : f.code = n := by
  unfold Fmt.ofCode at h
  split at h <;> cases h <;> rfl

end Sys2Proof

namespace Sys2Proof.Machine

/-- The 256-bit value `v` spells the descriptor `d`: each field of R192 holds what `d` holds, each RES0 field zero. -/
structure TileDesc.Spelled (d : TileDesc) (v : Nat) : Prop where
  base : field v 0 48 = d.base.toNat
  fmt : field v 48 4 = d.fmt.code
  res52 : field v 52 12 = 0
  rows : field v 64 16 = d.rows
  cols : field v 80 16 = d.cols
  rstride : field v 96 32 = d.rstride
  sbase : field v 128 48 = d.sbase.toNat
  res176 : field v 176 16 = 0
  sstride : field v 192 32 = d.sstride
  res224 : field v 224 32 = 0

theorem imageReserved_res0 {v : Nat} {f : Fmt} (h : imageReserved v f = false) :
    field v 52 12 = 0 ∧ field v 176 16 = 0 ∧ field v 224 32 = 0 := by
  simp only [imageReserved, Bool.or_eq_false_iff, bne_eq_false_iff_eq] at h
  obtain ⟨⟨⟨⟨⟨⟨h52, h176⟩, h224⟩, _⟩, _⟩, _⟩, _⟩ := h
  exact ⟨h52, h176, h224⟩

/-- An image that TDLD accepts spells the descriptor that it gives. -/
theorem parseTile_spelled {v : Nat} {d : TileDesc} (h : parseTile v = .ok d) : d.Spelled v := by
  unfold parseTile at h
  split at h
  case h_1 => cases h
  case h_2 f hf =>
    split at h
    · cases h
    · next hr =>
      split at h
      · cases h
      · obtain ⟨h52, h176, h224⟩ := imageReserved_res0 (Bool.eq_false_iff.mpr hr)
        cases h
        exact
          { base := (Nat.mod_eq_of_lt (field_lt v 0 48)).symm
            fmt := (Fmt.code_of_ofCode hf).symm
            res52 := h52
            rows := rfl
            cols := rfl
            rstride := rfl
            sbase := (Nat.mod_eq_of_lt (field_lt v 128 48)).symm
            res176 := h176
            sstride := rfl
            res224 := h224 }

/-- TDLD judges an image by the fields of R192 alone: two that spell one descriptor are answered alike. -/
theorem parseTile_congr {d : TileDesc} {v w : Nat} (hv : d.Spelled v) (hw : d.Spelled w) : parseTile v = parseTile w := by
  simp only [parseTile, imageReserved, imageExtents, hv.base, hv.fmt, hv.res52, hv.rows, hv.cols, hv.rstride, hv.sbase,
    hv.res176, hv.sstride, hv.res224, hw.base, hw.fmt, hw.res52, hw.rows, hw.cols, hw.rstride, hw.sbase, hw.res176,
    hw.sstride, hw.res224]

/-- The image spells its descriptor, where extents and strides fit their fields. -/
theorem TileDesc.image_spelled {d : TileDesc} (hrows : d.rows < 2 ^ 16) (hcols : d.cols < 2 ^ 16)
    (hrstride : d.rstride < 2 ^ 32) (hsstride : d.sstride < 2 ^ 32) : d.Spelled (leNat d.image) := by
  have hfmt := d.fmt.code_lt
  have hbase := d.base.isLt
  have hsbase := d.sbase.isLt
  rw [TileDesc.image, leNat_leBytes]
  constructor <;> unfold field <;> omega

/-- A descriptor that some image spells is spelled by its own image. -/
theorem TileDesc.Spelled.image {d : TileDesc} {v : Nat} (h : d.Spelled v) : d.Spelled (leNat d.image) :=
  TileDesc.image_spelled (h.rows ▸ field_lt v 64 16) (h.cols ▸ field_lt v 80 16) (h.rstride ▸ field_lt v 96 32)
    (h.sstride ▸ field_lt v 192 32)

/-- The image that TDST writes of a descriptor that TDLD gave is accepted and gives it back. -/
theorem parseTile_image {d : TileDesc} {v : Nat} (h : parseTile v = .ok d) : parseTile (leNat d.image) = .ok d :=
  (parseTile_congr (parseTile_spelled h).image (parseTile_spelled h)).trans h

/-- A precise trap of an instruction that has changed nothing leaves only its detection, the pc at the instruction. -/
theorem issue_preciseTrap {i : Instr} {c : CoreId} {s : State} {body : CoreSt → State → Effect} {t : Trap}
    (h : Ready s c) (hw : i.wf = true) (hp : t.prec = 0) (hf : t.walkFault = none)
    (hb : body (s.core c.val) (s.goTo c ((s.core c.val).pc + 8)) = .trap t (s.goTo c ((s.core c.val).pc + 8))) :
    issue i c s body =
      .next (s.setCore c.val ((s.core c.val).detect (t.record (s.core c.val).pc (fzWord i)))) := by
  have hne : s.core c.val ≠ .reset := CoreSt.running_ne_reset h.running
  rw [issue_ready h hw, hb]
  simp only [hp, if_true, takeFault, hf, h.core_goTo, h.goTo_setCore, State.core_setCore _ _ hne,
    State.setCore_setCore _ _ hne]

theorem tileOperand_empty {v : CoreSt} {r : TReg} (h : v.tread r = none) :
    tileOperand v r = .error { cause := causeIllegalState, detail := 0x02 } := by
  rw [tileOperand, h]

/-- TDST of an empty register (07 R193). -/
theorem execTdst_empty {s : State} {c : CoreId} {tn : TReg} (gs : GReg) (off : BitVec 32) (h : Ready s c)
    (ht : (s.core c.val).tread tn = none) :
    execTdst c tn gs off s = .next (s.setCore c.val ((s.core c.val).detect
      (Trap.record { cause := causeIllegalState, detail := 0x02 } (s.core c.val).pc (fzWord (.tdst c tn gs off))))) :=
  issue_preciseTrap h rfl rfl rfl (by simp only [tileOperand_empty ht])

/-- Settles O8: the image spells every field as the register holds it, and TDLD judges an image by its fields alone. -/
theorem tdstImagePassesTdld : Obligations.TdstImagePassesTdld := by
  refine ⟨fun d image h => ?_, fun s c tn gs off h ht => execTdst_empty gs off h ht⟩
  have hi := (parseTile_spelled h).image
  exact ⟨hi.res52, hi.res176, hi.res224, hi.sbase, hi.sstride, parseTile_image h⟩

end Sys2Proof.Machine
end

section
/-! PROOFS. Words of the M class that decode to no instruction (07 R176 to R178, R195). -/

namespace Sys2Proof

/-- A row answers an error where what follows its checks does. -/
theorem row_error {w : Nat} {k1 k2 k3 k4 : SlotKind} {ranges : List (Nat × Nat)} {rest : Except Nat Instr}
    (h : ∃ e, rest = .error e) : ∃ e, row w k1 k2 k3 k4 ranges rest = .error e := by
  unfold row
  split
  · exact ⟨_, rfl⟩
  · split
    · exact ⟨_, rfl⟩
    · exact h

/-- A coded field answers an error where every code that it takes does. -/
theorem reserved_error {α : Type} {v : Option α} {k : α → Except Nat Instr}
    (h : ∀ a, v = some a → ∃ e, k a = .error e) : ∃ e, reserved v k = .error e := by
  cases v with
  | none => exact ⟨_, rfl⟩
  | some a => exact h a rfl

theorem Fmt.ofCode_of_mmaOfCode {n : Nat} {f : Fmt} (h : Fmt.mmaOfCode n = some f) : Fmt.ofCode n = some f :=
  (Option.filter_eq_some_iff.mp h).1

/-- An MMA word whose format and prc bit make precise mode in the 16-bit class is an error, whatever its other fields. -/
theorem decodeClassM_prc16 (c : CoreId) {w : Nat} {fmt : Fmt} (hf : Fmt.ofCode (field w 0 4) = some fmt)
    (hp : prc16 fmt (field w 10 1 == 1) = true) : ∃ e, decodeClassM c w 0x10 = .error e := by
  refine row_error (reserved_error fun f hm => reserved_error fun grp _ => ?_)
  obtain rfl : fmt = f := Option.some.inj (hf.symm.trans (Fmt.ofCode_of_mmaOfCode hm))
  exact ⟨0x07, if_pos hp⟩

/-- Settles O57: check 7 of R195 refuses such a word where no earlier check has. -/
theorem preciseSixteenBitIsIllegal : Obligations.PreciseSixteenBitIsIllegal := by
  intro c w fmt hclass hop hf h16 hprc
  have hp : prc16 fmt (field w 10 1 == 1) = true := by
    rw [hprc]
    rcases h16 with rfl | rfl <;> rfl
  simpa only [decodeFz, hclass, hop] using decodeClassM_prc16 c hf hp

end Sys2Proof
end
